-- ==== Sys2Proof/Word.lean ====
section
/-! DEFINITION. The words the TL46 computes with: bytes of its ports and the 32-bit travel count. -/

namespace Sys2Proof

/-- One byte of a port or of a message (chapter 11). -/
abbrev Byte := BitVec 8

/-- A value of the travel counter T: millimetres modulo 2^32 (section 1.6, R22). -/
abbrev Travel := BitVec 32

end Sys2Proof
end

