-- ==== Sys2Proof/Syntax.lean ====
section
/-! DEFINITION. The commands of the block: one constructor of `Instr` per row of spec/opcode_table.json,
and the host requests (chapter 10, Table 10-2) that travel in desk messages. -/

namespace Sys2Proof

/-- A number from 1 to 4: a berth B1 to B4, an event counter, a position watch, a tower point. -/
inductive Idx4 where
  | i1 | i2 | i3 | i4
deriving DecidableEq, Repr

/-- Run states, in the order of Table 1-5 (R1). -/
inductive RunState where
  | parked | waking | stopped | starting | running | stopping | tripped
deriving DecidableEq, Repr

/-- Stop classes (Table 1-6, R18; codes 0, 1 and 2 of the Beat state byte). -/
inductive StopClass where
  | clear | service | emergency
deriving DecidableEq, Repr

/-- The three causes a damaged summit frame is discarded for (R159). -/
inductive FrameFault where
  | length | fcs | format
deriving DecidableEq, Repr

/-- Call signals (Table 11-5: 1 Ring, 2 Answer, 3 Clear). -/
inductive Signal where
  | ring | answer | clear
deriving DecidableEq, Repr

/-- The fields of a Beat as they stand in a good frame (Table 11-5), before R39, R170 and R196 clamp them.
`ceiling` 0 is none; `wind` 0xFFFF is no reading. -/
structure BeatFields where
  number   : Nat
  loopOpen : Bool
  stop     : StopClass
  ready    : Bool
  run      : RunState
  ceiling  : Nat
  wind     : Nat
  speed    : Int
deriving DecidableEq, Repr

/-- An event offered to the event counters (R141): its code 1 to 16 of Table 7-3; the carrier and whether
it is Marked, where the event is carrier-bound; the tower slot and point, where it has them; the
measured value (the force of event 4, the close time of event 6, else 0); and the watch of event 14. -/
structure CounterEvent where
  code    : Nat
  carrier : Option (Nat × Bool) := none
  slot    : Option Nat := none
  point   : Option Nat := none
  value   : Nat := 0
  watch   : Option Idx4 := none
deriving DecidableEq, Repr

/-- The seven settings of Table 2-7 as SetGovernor carries them (R43). -/
structure GovernorSettings where
  calibration : Nat
  max         : Nat
  slow        : Nat
  margin      : Nat
  rollback    : Nat
  up          : Nat
  down        : Nat
deriving DecidableEq, Repr

/-- The settings of Table 4-3 as SetBerth carries them (R78). `role` is the enumeration code
0 Unload, 1 Load, 2 Both, 3 Pass. -/
structure BerthRequest where
  role       : Nat
  tUnlock    : Nat
  tOpen      : Nat
  dwell      : Nat
  tClose     : Nat
  tLock      : Nat
  tRecover   : Nat
  maxReopens : Nat
deriving DecidableEq, Repr

/-- The setup of Table 7-1 as SetCounter carries it (R147): codes for the enumerations, `mask` with bits
0 to 6 for Parked to Tripped. -/
structure CounterRequest where
  event     : Nat
  preset    : Nat
  mask      : Nat
  qualifier : Nat
  threshold : Nat
  action    : Nat
  freeze    : Bool
  window    : Nat
  chained   : Bool
deriving DecidableEq, Repr

/-- The setup of Table 7-5 as SetWatch carries it (R150). -/
structure WatchRequest where
  base     : Nat
  size     : Nat
  kind     : Nat
  action   : Nat
  globalOn : Bool
  localOn  : Bool
deriving DecidableEq, Repr

/-- The host's requests (Table 10-2), with their values as the payload carries them (R195): a value
outside its range is still a request, which its owner refuses RANGE. -/
inductive Request where
  | setGeometry (lUp lDown slack : Nat)
  | setGovernor (g : GovernorSettings)
  | setSpacing (g vMin : Nat)
  | setWind (bands : List (Nat × Nat)) (hysteresis hold : Nat)
  | setBerth (berth : Nat) (b : BerthRequest)
  | setMotion (gap : Nat)
  | setTrack (slow limit : Nat) (acceptUnlisted : Bool)
  | setTower (slot address coordinate enables : Nat)
  | setScan (deadline : Nat)
  | setGrip (fMin fOk : Nat)
  | setCounter (counter : Nat) (c : CounterRequest)
  | setWatch (watch : Nat) (w : WatchRequest)
  | wake
  | park
  | run
  | stop
  | setSpeed (value : Nat)
  | clearStop (source : Nat)
  | resetTrip
  | restart
  | declare (place number : Nat)
  | release (number : Nat)
  | hold (number : Nat)
  | renumber (number new : Nat)
  | garage
  | inhibitLaunch (on : Bool)
  | abandon
  | mark (number : Nat)
  | unmark (number : Nat)
  | berthCommand (berth command mode : Nat)
  | removeCarrier (number : Nat)
  | ackTower (slot point : Nat)
  | armCounter (counter : Nat)
  | clearHits (watch : Nat)
  | call
  | answer
  | hangUp
  | sendNotice (text : List Byte)
  | releaseReports (reportClass : Nat)
  | readStatus
  | readTrack
  | readRoster (start : Nat)
  | readBerths
  | readTowers (start : Nat)
  | readCounters
  | readWatches
  | readLine
  | readGovernor
deriving DecidableEq, Repr

/-- The commands: one constructor per row of spec/opcode_table.json, in the table's order. A row that is a
host request carries the request's tag and values. A row that is a sense or an input level carries the
level. A row that is a record or a frame carries its bytes or its fields. -/
inductive Instr where
  | powerOn
  | wake (tag : Byte)
  | park (tag : Byte)
  | run (tag : Byte)
  | stop (tag : Byte)
  | resetTrip (tag : Byte)
  | clearStop (tag : Byte) (source : Nat)
  | platformStopInput (active : Bool)
  | emergencyLoopInput (opened : Bool)
  | encoderPulse (backward : Bool)
  | windowEnd
  | overspeed
  | encoderLoss
  | quietWindows
  | missedExchange
  | driveStatus (record : List Byte)
  | holdTimer
  | setGovernor (tag : Byte) (g : GovernorSettings)
  | setSpeed (tag : Byte) (value : Nat)
  | setWind (tag : Byte) (bands : List (Nat × Nat)) (hysteresis hold : Nat)
  | readGovernor (tag : Byte)
  | entry (carrierTag : Nat) (stuck : Bool)
  | indexTimeLimit
  | indexDone
  | gripTestResult (record : List Byte)
  | hold (tag : Byte) (number : Nat)
  | release (tag : Byte) (number : Nat)
  | renumber (tag : Byte) (number new : Nat)
  | mark (tag : Byte) (number : Nat)
  | unmark (tag : Byte) (number : Nat)
  | garage (tag : Byte)
  | inhibitLaunch (tag : Byte) (on : Bool)
  | abandon (tag : Byte)
  | declare (tag : Byte) (place number : Nat)
  | setSpacing (tag : Byte) (g vMin : Nat)
  | setTrack (tag : Byte) (slow limit : Nat) (acceptUnlisted : Bool)
  | setGrip (tag : Byte) (fMin fOk : Nat)
  | readTrack (tag : Byte)
  | recoveryTimer (b : Idx4)
  | unlockTimer (b : Idx4)
  | motionComplete (b : Idx4) (active : Bool)
  | openingEnd (b : Idx4)
  | dwellExpiry (b : Idx4)
  | closingEnd (b : Idx4)
  | lockConfirm (b : Idx4) (active : Bool)
  | lockTimer (b : Idx4)
  | obstruction (b : Idx4) (active : Bool)
  | driveFaultSense (b : Idx4) (active : Bool)
  | startGapEnd
  | homingRunEnd (b : Idx4)
  | setBerth (tag : Byte) (berth : Nat) (r : BerthRequest)
  | setMotion (tag : Byte) (gap : Nat)
  | unlock (tag : Byte) (berth : Nat)
  | openDoors (tag : Byte) (berth : Nat)
  | closeDoors (tag : Byte) (berth : Nat)
  | lock (tag : Byte) (berth : Nat)
  | holdOpen (tag : Byte) (berth : Nat)
  | endDwell (tag : Byte) (berth : Nat)
  | reopen (tag : Byte) (berth : Nat)
  | skipCycle (tag : Byte) (berth : Nat)
  | clearFault (tag : Byte) (berth : Nat)
  | setMode (tag : Byte) (berth mode : Nat)
  | readBerths (tag : Byte)
  | removeCarrier (tag : Byte) (number : Nat)
  | setGeometry (tag : Byte) (lUp lDown slack : Nat)
  | readRoster (tag : Byte) (start : Nat)
  | pollSent
  | towerReply (frame : List Byte)
  | replyTimer
  | transactionStart
  | parkedPollTimer
  | towerStale (slot : Nat)
  | towerSilent (slot : Nat)
  | setTower (tag : Byte) (slot address coordinate enables : Nat)
  | setScan (tag : Byte) (deadline : Nat)
  | ackTower (tag : Byte) (slot point : Nat)
  | readTowers (tag : Byte) (start : Nat)
  | counterExpiry (c : Idx4) (ev : CounterEvent)
  | setCounter (tag : Byte) (counter : Nat) (r : CounterRequest)
  | armCounter (tag : Byte) (counter : Nat)
  | readCounters (tag : Byte)
  | setWatch (tag : Byte) (watch : Nat) (r : WatchRequest)
  | clearHits (tag : Byte) (watch : Nat)
  | readWatches (tag : Byte)
  | flagReceived
  | flagTimer
  | abortReceived
  | frameError (e : FrameFault)
  | summitBeat (b : BeatFields)
  | supervisionTimer
  | passageFrame (departed : Bool) (number metres : Nat)
  | callSignal (signal : Signal) (id : Nat)
  | voiceFrame (id sequence : Nat) (block : List Byte)
  | noticeFrame (text : List Byte)
  | beatTimer
  | frameStart
  | frameEnd
  | abortEnd
  | sendNotice (tag : Byte) (text : List Byte)
  | readLine (tag : Byte)
  | call (tag : Byte)
  | answer (tag : Byte)
  | hangUp (tag : Byte)
  | ringRepeat
  | ringTimeout
  | ringingGap
  | voiceLoss
  | blockPeriod (captured : List Byte)
  | deskMessage (kind tag : Byte) (payload : List Byte)
  | gapTimer
  | messageStart
  | messageSent
  | releaseReports (tag : Byte) (reportClass : Nat)
  | restart (tag : Byte)
  | restartStart
  | readStatus (tag : Byte)
  | deskByteReceived (byte : Byte)
  | bodyBitsReceived (bits : List Bool)
deriving DecidableEq, Repr

end Sys2Proof
end

