-- ==== Sys2Proof/Decode.lean ====
section
/-! DEFINITION. The command that a word spells by the opcode table's bits. No row of spec/opcode_table.json gives
bits (every row's field list is empty), so no word spells a command. The bytes that do carry commands, the desk
messages and the frames and records of the ports, are decoded in Machine/Requests.lean and Machine/Bytes.lean. -/

namespace Sys2Proof

/-- The command an `nbits`-bit word `w` spells: none, since the table gives no row any bits. -/
def decodeTableWord (_nbits _w : Nat) : Option Instr := none

end Sys2Proof
end

