-- ==== Sys2Proof/Config.lean ====
section
/-! DEFINITION. What the part fixes once for all: capacities, fixed timer values and limits that no request
changes. Settings that a request can change are State (their defaults stand in Machine/Starts.lean). -/

namespace Sys2Proof.Config

/-- A saturating count's last value (R58, R127, R159, R162, R183, R187). -/
def countMax : Nat := 65535

/-- The window is implausible above this sum of pulses (R20). -/
def pulseLimit : Nat := 4000

/-- Three consecutive windows too fast raise Overspeed (R25). -/
def overspeedWindows : Nat := 3

/-- Ten consecutive pulseless windows raise EncoderLost (R27). -/
def encoderLossWindows : Nat := 10

/-- The reference from which the encoder-loss test applies, in cm/s (R27). -/
def encoderLossReference : Nat := 100

/-- Ten consecutive quiet windows end Stopping (R10). -/
def quietWindows : Nat := 10

/-- Five missed exchanges substitute a faulted status (R35). -/
def missedExchanges : Nat := 5

/-- The drift that raises Creep must exceed this, in mm (R26). -/
def creepLimit : Int := 500

/-- Reported speeds are clamped to this magnitude (R23). -/
def speedClamp : Int := 999

/-- Wind readings above this are taken as this, in dm/s (R39). -/
def windMax : Nat := 600

/-- Release marks and anchors are drawn forward beyond this travel, in mm (R61, R107). -/
def travelSaturation : Int := 1000000000

/-- The lost-launch distance in mm (R65). -/
def lostLaunch : Int := 20000

/-- Forces above this are taken as this, in daN (R63). -/
def forceMax : Nat := 4000

/-- Places of the entry buffer (R49). -/
def bufferPlaces : Nat := 6

/-- Records the roster can hold (R104). -/
def rosterMax : Nat := 96

/-- Grants of the motion supply (R94). -/
def grants : Nat := 2

/-- Slots of the tower table (R124). -/
def towerSlots : Nat := 24

/-- The reply timer in ms (R126). -/
def replyMs : Nat := 8

/-- The parked poll timer in ms (R130). -/
def parkedPollMs : Nat := 250

/-- The pause between transactions in ms (R128). -/
def transactionGapMs : Nat := 1

/-- The flag timer in ms (R158). -/
def flagMs : Nat := 20

/-- The bits that the summit line carries in 1 ms, at 128 kbit/s (section 8.1, R163). -/
def lineBitsPerMs : Nat := 128

/-- Longest and shortest body of a summit frame, in bytes (R159). -/
def bodyMax : Nat := 72
def bodyMin : Nat := 4

/-- Capacities of the Voice, Control and Bulk queues (Table 8-3). -/
def voiceQueue : Nat := 4
def controlQueue : Nat := 16
def bulkQueue : Nat := 4

/-- Entries of the notice inbox (R174). -/
def noticeInbox : Nat := 4

/-- The beat timer in ms (R165). -/
def beatMs : Nat := 100

/-- The supervision timer in ms after a valid beat, and after an expiry (R168). -/
def supervisionFirstMs : Nat := 150
def supervisionNextMs : Nat := 100

/-- Timers of the call unit in ms (Figure 9-1, R180). -/
def ringRepeatMs : Nat := 1000
def ringTimeoutMs : Nat := 30000
def ringingGapMs : Nat := 3000
def voiceLossMs : Nat := 2000

/-- The codec block period in ms (R182). -/
def blockMs : Nat := 10

/-- Blocks the playout queue holds (R183). -/
def playoutMax : Nat := 8

/-- Capacities of the request inbox, the reply queue and the report queue (Figure 10-1). -/
def inboxMax : Nat := 4
def replyMax : Nat := 8
def reportMax : Nat := 32

/-- The desk receiver's gap timer in ms (R187). -/
def gapMs : Nat := 5

end Sys2Proof.Config
end

