-- ==== Sys2Proof/Machine/Types.lean ====
section
/-! DEFINITION. The pieces of state of the eleven blocks (Figure 1-1), each block one structure, and the
records, reports and frames that pass between them. -/

namespace Sys2Proof.Machine

/-- Four things, one for each of the numbers 1 to 4. -/
structure Quad (α : Type) where
  v1 : α
  v2 : α
  v3 : α
  v4 : α
deriving DecidableEq, Repr

/-! ### Run control (chapter 1) -/

/-- Stop demand sources, in the order of Table 1-6. -/
inductive Source where
  | deskStop | platformStop | emergencyLoop | summitService | summitEmergency | lineLost
  | towerSilent | towerOut | trackFull | entryOverrun | gripStuck | indexJam | gripFail
  | lostLaunch | order | missing | overspeed | rollback | creep | encoderLost | driveFault
  | wind | counter | watch
deriving DecidableEq, Repr

/-- The cause a RunState report carries (R13). -/
inductive Cause where
  | wake | run | park | resetTrip | powerOn | restart | wakeComplete | referenceReached | ropeAtRest
  | demand (src : Source)
deriving DecidableEq, Repr

/-- Run control: run state, stop demand set (in the order of Table 1-6, no member twice), quiet window
count (R10) and the levels of the two stop inputs at their latest sampling (R16, R17). -/
structure RunControl where
  state        : RunState
  demands      : List Source
  quiet        : Nat
  platformStop : Bool
  loopOpen     : Bool
deriving DecidableEq, Repr

/-! ### Speed governor (chapter 2) -/

/-- Ceilings, in the order of Table 2-3. -/
inductive Ceiling where
  | max | desk | wind | summit | line | tower | track | counter | watch
deriving DecidableEq, Repr

/-- The hold timer's condition (R38). -/
inductive HoldCondition where
  | stopped | running | paused
deriving DecidableEq, Repr

/-- A wind band: its entry wind in dm/s, and its ceiling in cm/s or, for none, the stop flag (R38). -/
structure WindBand where
  entry   : Nat
  ceiling : Option Nat
deriving DecidableEq, Repr

/-- The wind configuration (R38); `hold` in seconds. -/
structure WindConfig where
  bands      : List WindBand
  hysteresis : Nat
  hold       : Nat
deriving DecidableEq, Repr

/-- The most recent drive status (R34). -/
structure DriveStatus where
  ready : Bool
  fault : Bool
deriving DecidableEq, Repr

/-- The fields of a drive command record (R33). -/
structure DriveCommand where
  reference    : Nat
  brakeRelease : Bool
  trip         : Bool
deriving DecidableEq, Repr

/-- The four-window history, newest first (R22). -/
structure History where
  h1 : Int
  h2 : Int
  h3 : Int
  h4 : Int
deriving DecidableEq, Repr

/-- The speed governor (R20 to R48). Of the ceiling set the presence of the ceilings owned elsewhere is
held here; Max, Desk, Wind and the Slow value follow from the settings, the band and the configuration. -/
structure Governor where
  travel        : Travel
  residue       : Nat
  history       : History
  pf            : Nat
  pb            : Nat
  lastPf        : Nat
  lastPb        : Nat
  v             : Int
  reference     : Nat
  target        : Nat
  limiting      : List Ceiling
  rollback      : Nat
  overspeed     : Nat
  encoderLoss   : Nat
  missed        : Nat
  statusSeen    : Bool
  firstWindow   : Bool
  creepBase     : Option Travel
  status        : DriveStatus
  brakeReleased : Bool
  tripFlag      : Bool
  command       : Option DriveCommand
  settings      : GovernorSettings
  desk          : Nat
  wind          : WindConfig
  band          : Nat
  hold          : HoldCondition
  holdMs        : Nat
  summitCeiling : Option Nat
  lineCeiling   : Bool
  towerCeiling  : Bool
  trackCeiling  : Bool
  counterCeiling : Bool
  watchCeiling  : Bool
deriving DecidableEq, Repr

/-- The most recent travel update (R36): the new T and the T before the window end, the increment d, v, the
governor's copy of the run state, which is the run state the window end began with, and whether the kilometre
event of R37 occurred. -/
structure TravelUpdate where
  t      : Travel
  before : Travel
  d      : Int
  v      : Int
  run    : RunState
  km     : Bool
deriving DecidableEq, Repr

/-! ### Track controller (chapter 3) -/

/-- Carrier marks, in the order of Table 3-2. -/
inductive Mark where
  | unread | inferred | stranger | duplicate | stuck | held | marked | marginal | gripFail | noTest | skipped
deriving DecidableEq, Repr

/-- A track record (Table 3-1). -/
structure CarrierRec where
  number        : Nat
  marks         : List Mark
  entryTravel   : Travel
  gripStuck     : Bool
  cycles        : List Idx4
  reopens       : Nat
  force         : Option Nat
  releaseTravel : Option Travel
deriving DecidableEq, Repr

/-- The index step in flight: remaining time limit in ms, and whether the limit has expired (R56, R57). -/
structure IndexStep where
  remaining : Nat
  expired   : Bool
deriving DecidableEq, Repr

/-- The settings of Table 3-3. -/
structure TrackSettings where
  spacing        : Nat
  vMin           : Nat
  slow           : Nat
  limit          : Nat
  acceptUnlisted : Bool
  fMin           : Nat
  fOk            : Nat
deriving DecidableEq, Repr

/-- The track controller (R49, R51): the eleven places, the launch record, the index step, the two conveyor
outputs, the release mark, launch inhibit, the count of discarded inputs and the settings. -/
structure Track where
  buffer        : List CarrierRec
  berths        : Quad (Option CarrierRec)
  launchBerth   : Option CarrierRec
  launch        : Option CarrierRec
  step          : Option IndexStep
  indexCommand  : Bool
  launchCommand : Bool
  releaseMark   : Travel
  inhibit       : Bool
  discarded     : Nat
  settings      : TrackSettings
deriving DecidableEq, Repr

/-- Where a Carrier report places its record (chapter 11, section 11.2). -/
inductive Place where
  | buffer
  | berth (b : Idx4)
  | launchBerth
  | launchRecord
  | roster
  | none
deriving DecidableEq, Repr

/-- The class of a launch result (R63, R65, R66). -/
inductive GripClass where
  | good | marginal | fail | noTest | unexpected
deriving DecidableEq, Repr

/-- The leg of a roster record (Figure 5-1). -/
inductive Leg where
  | outbound | atSummit | inbound
deriving DecidableEq, Repr

/-! ### Berth controller (chapter 4) -/

inductive BerthState where
  | parked | homing | locked | unlocking | unlocked | opening | opened | closing | closed | locking | fault
deriving DecidableEq, Repr

inductive BerthMode where
  | auto | manual
deriving DecidableEq, Repr

inductive Role where
  | unload | load | both | pass
deriving DecidableEq, Repr

/-- Kinds of motion request on the wait list (R93). -/
inductive Motion where
  | opening | closing | homing
deriving DecidableEq, Repr

/-- The named timers of a berth (section 11.5: recovery, t_unlock, run, dwell, t_lock). -/
inductive BerthTimer where
  | recovery | unlock | run | dwell | lock
deriving DecidableEq, Repr

/-- Fault reasons (R90). -/
inductive FaultReason where
  | none | driveFault | unlockFailed | motionIncomplete | lockTimeout | homingObstructed | homeNoLock
deriving DecidableEq, Repr

/-- Berth settings (Table 4-3); times in ms, the dwell in s. -/
structure BerthSettings where
  role       : Role
  tUnlock    : Nat
  tOpen      : Nat
  dwell      : Nat
  tClose     : Nat
  tLock      : Nat
  tRecover   : Nat
  maxReopens : Nat
deriving DecidableEq, Repr

/-- The levels of a berth's four senses at their latest sampling (R79). -/
structure Senses where
  motionComplete : Bool
  lockConfirm    : Bool
  obstruction    : Bool
  driveFault     : Bool
deriving DecidableEq, Repr

/-- The five outputs of a berth (Table 4-1). -/
structure BerthOutputs where
  opening : Bool
  closing : Bool
  home    : Bool
  lock    : Bool
  unlock  : Bool
deriving DecidableEq, Repr

/-- A berth record (Table 4-2). The motion request is held once, as the berth's entry on the wait list;
`homingRun` is 1 or 2 during the homing runs of R98. -/
structure Berth where
  state         : BerthState
  mode          : BerthMode
  occupied      : Bool
  cycleComplete : Bool
  doorsRan      : Bool
  reopens       : Nat
  holdOpen      : Bool
  grant         : Bool
  timer         : Option (BerthTimer × Nat)
  motionElapsed : Nat
  motionSeen    : Bool
  closeTime     : Option Nat
  homingRun     : Nat
  reason        : FaultReason
  faultPending  : Bool
  settings      : BerthSettings
  senses        : Senses
deriving DecidableEq, Repr

/-- The motion supply (R93, R94): the wait list in its order, the time since the last grant in ms (none when
no grant has been given since the start) and the start gap. The grants are the berths' `grant` fields. -/
structure Supply where
  wait       : List (Idx4 × Motion)
  sinceGrant : Option Nat
  gap        : Nat
deriving DecidableEq, Repr

/-! ### Roster (chapter 5) -/

/-- A roster record (Table 5-1). `carrier` holds number, marks, grip force and the visit fields; the
coordinate is computed from the position; `updateCoord` is the coordinate as the most recent travel update
left it (R107). -/
structure RosterRec where
  carrier     : CarrierRec
  gripClass   : GripClass
  leg         : Leg
  anchor      : Travel
  position    : Int
  prevCoord   : Option Int
  updateCoord : Option Int
  overdue     : Bool
  exempt      : List Idx4
deriving DecidableEq, Repr

/-- The roster, head first, and its geometry in metres (R104, R121). -/
structure Roster where
  records : List RosterRec
  lUp     : Nat
  lDown   : Nat
  slack   : Nat
deriving DecidableEq, Repr

/-! ### Tower scanner (chapter 6) -/

inductive PointCode where
  | unknown | normal | offsetIn | offsetOut | out | broken | disabled
deriving DecidableEq, Repr

inductive Latch where
  | clear | out | broken
deriving DecidableEq, Repr

inductive Deadline where
  | within | stale | silent
deriving DecidableEq, Repr

/-- A slot of the tower table (Tables 6-1 and 6-2); unused when it holds no address. -/
structure Slot where
  address  : Option Nat
  coord    : Nat
  enables  : Quad Bool
  codes    : Quad PointCode
  latches  : Quad Latch
  age      : Nat
  deadline : Deadline
  heard    : Bool
  unread   : Nat
  extraDue : Bool
deriving DecidableEq, Repr

/-- The transaction in flight (R126): slot, whether the retry is being made, the poll number of the attempt,
and the reply timer in ms, none while the poll frame is still being sent. -/
structure Transaction where
  slot   : Nat
  retry  : Bool
  number : Nat
  timer  : Option Nat
deriving DecidableEq, Repr

/-- The pass of a round (R128). -/
inductive Pass where
  | main | extra
deriving DecidableEq, Repr

/-- The tower scanner: the table of slots 1 to 24, the deadline D, the poll number, the late count, the
transaction in flight, the schedule (pass and last slot of the pass; slot last polled) and the parked poll
timer and the pause between transactions in ms. -/
structure Scanner where
  slots       : List Slot
  deadline    : Nat
  pollNumber  : Nat
  late        : Nat
  transaction : Option Transaction
  pass        : Pass
  passSlot    : Nat
  lastPolled  : Nat
  parkedTimer : Option Nat
  pauseTimer  : Option Nat
deriving DecidableEq, Repr

/-- Kinds of tower event (R137). -/
inductive TowerKind where
  | offset | out | broken | stale
deriving DecidableEq, Repr

/-- A tower event as the scanner offers it to the watches (R137). -/
structure TowerEvent where
  kind    : TowerKind
  slot    : Nat
  address : Nat
  point   : Option Nat
  coord   : Nat
deriving DecidableEq, Repr

/-! ### Event counters and position watches (chapter 7) -/

inductive Qualifier where
  | all | marked | unmarked
deriving DecidableEq, Repr

inductive CounterAction where
  | report | slow | stop
deriving DecidableEq, Repr

/-- A counter's sample record (Table 7-2). -/
structure Sample where
  code    : Nat
  carrier : Option Nat
  slot    : Option Nat
  point   : Option Nat
  t       : Travel
  run     : RunState
  v       : Int
deriving DecidableEq, Repr

/-- An event counter: setup of Table 7-1 and runtime state of Table 7-2. -/
structure Counter where
  event     : Nat
  preset    : Nat
  mask      : List RunState
  qualifier : Qualifier
  threshold : Nat
  action    : CounterAction
  freeze    : Bool
  window    : Nat
  chained   : Bool
  value     : Nat
  alarm     : Bool
  frozen    : Bool
  expiries  : Nat
  sample    : Option Sample
deriving DecidableEq, Repr

/-- The counter block: the four counters and the T and v it holds for their samples (R140). -/
structure Counters where
  units : Quad Counter
  heldT : Travel
  heldV : Int
deriving DecidableEq, Repr

inductive WatchKind where
  | carrier | tower | both
deriving DecidableEq, Repr

inductive WatchAction where
  | note | slow | stop
deriving DecidableEq, Repr

/-- A position watch (Table 7-5) with its hit flag. -/
structure Watch where
  base     : Nat
  size     : Nat
  kind     : WatchKind
  action   : WatchAction
  globalOn : Bool
  localOn  : Bool
  hit      : Bool
deriving DecidableEq, Repr

/-- A record as the roster gave it to the watches at the most recent travel update (R108, R155): number,
coordinate, and the watches it is exempt from since then. -/
structure Given where
  number : Nat
  coord  : Int
  exempt : List Idx4
deriving DecidableEq, Repr

structure Watches where
  units : Quad Watch
  given : List Given
deriving DecidableEq, Repr

/-- A match of an occasion, as a Watch report lists it (R153). -/
structure WatchMatch where
  watch   : Idx4
  carrier : Option Nat
  marked  : Bool
  tower   : Option TowerEvent
  coord   : Int
  enabled : Bool
  raised  : Bool
deriving DecidableEq, Repr

/-! ### Line controller (chapter 8) -/

inductive Receiver where
  | hunting | idle | receiving | discarding
deriving DecidableEq, Repr

/-- The classes of summit line frames (R161). -/
inductive LineClass where
  | safety | voice | control | bulk
deriving DecidableEq, Repr

/-- A valley beat as it is built (R165); its number is taken when its transmission starts. -/
structure ValleyBeat where
  loopOpen : Bool
  stop     : StopClass
  ready    : Bool
  run      : RunState
  speed    : Int
deriving DecidableEq, Repr

/-- Frames the valley sends besides beats. -/
inductive ControlFrame where
  | passage (number : Nat)
  | callSignal (signal : Signal) (id : Nat)
deriving DecidableEq, Repr

structure VoiceFrame where
  id       : Nat
  sequence : Nat
  block    : List Byte
deriving DecidableEq, Repr

/-- A frame in transmission (R163). -/
inductive SentFrame where
  | beat (number : Nat) (b : ValleyBeat)
  | voice (f : VoiceFrame)
  | control (f : ControlFrame)
  | notice (text : List Byte)
deriving DecidableEq, Repr

/-- What the transmitter is sending (R157): flags; a frame, of which `left` bits are still to be sent, its
closing flag being sent when none is left; an abort sequence, of the frame it cuts off, or of none where a start
has already discarded that frame (R164, R176); or the flag that follows an abort sequence, with no frame in
transmission any more. -/
inductive Transmit where
  | flags
  | frame (f : SentFrame) (left : Nat)
  | aborting (f : Option SentFrame)
  | afterAbort
deriving DecidableEq, Repr

/-- The summit contents: the fields of the most recent valid summit beat (R170, R176). -/
structure SummitContents where
  run      : RunState
  stop     : StopClass
  loopOpen : Bool
  ready    : Bool
  ceiling  : Option Nat
  wind     : Option Nat
  speed    : Int
deriving DecidableEq, Repr

structure Notice where
  text    : List Byte
  overrun : Bool
deriving DecidableEq, Repr

/-- The counts of Figure 8-1. -/
structure LineCounts where
  beats         : Nat
  passages      : Nat
  callSignals   : Nat
  voices        : Nat
  notices       : Nat
  fcsErrors     : Nat
  aborts        : Nat
  lengthErrors  : Nat
  formatErrors  : Nat
  beatsMissed   : Nat
  voiceDropped  : Nat
  controlDropped : Nat
  noticesLost   : Nat
deriving DecidableEq, Repr

/-- The line controller (Figure 8-1, R176). `rxOnes` counts the consecutive ones before the next bit, for the
removal of inserted zeros; `stopClass` is the valley stop class run control last gave; `noticeOffered` says
an offer of the inbox head is outstanding and `noticeTaken` that the desk link holds it. -/
structure Line where
  receiver      : Receiver
  rxBits        : List Bool
  rxOnes        : Nat
  flagTimer     : Nat
  transmit      : Transmit
  safety        : Option ValleyBeat
  voice         : List VoiceFrame
  control       : List ControlFrame
  bulk          : List (List Byte)
  overflow      : Bool
  beatNumber    : Nat
  beatTimer     : Nat
  stopClass     : StopClass
  heard         : Bool
  lastBeat      : Option Nat
  miss          : Nat
  supervision   : Option Nat
  contents      : SummitContents
  inbox         : List Notice
  noticeOffered : Bool
  noticeTaken   : Bool
  counts        : LineCounts
deriving DecidableEq, Repr

/-! ### Call unit (chapter 9) -/

inductive CallState where
  | idle | calling | ringing | talking
deriving DecidableEq, Repr

inductive PlayoutMode where
  | buffering | playing
deriving DecidableEq, Repr

/-- A block waiting in the playout queue. -/
structure PlayoutBlock where
  sequence : Nat
  block    : List Byte
deriving DecidableEq, Repr

/-- The call unit's counts (R183, R184). -/
structure CallCounts where
  foreign    : Nat
  late       : Nat
  duplicate  : Nat
  overflow   : Nat
  concealed  : Nat
deriving DecidableEq, Repr

/-- The call unit (R177, R186). `codec` is the block most recently given to the codec and `blockTimer` the
time left of the block period in ms. -/
structure CallUnit where
  state      : CallState
  id         : Option Nat
  nextId     : Nat
  ringRepeat : Option Nat
  ringOut    : Option Nat
  ringingGap : Option Nat
  voiceLoss  : Option Nat
  sequence   : Nat
  queue      : List PlayoutBlock
  mode       : PlayoutMode
  reference  : Option Nat
  last       : Option (List Byte)
  concealStep : Nat
  counts     : CallCounts
  codec      : List Byte
  blockTimer : Nat
deriving DecidableEq, Repr

/-- How a call came to Talking, or why it ended (R181). -/
inductive CallEvent where
  | incoming
  | connectedAnswered | connectedAccepted | connectedGlare
  | endedHungUp | endedCleared | endedNoAnswer | endedRingStopped | endedLost
deriving DecidableEq, Repr

/-! ### Desk link (chapter 10) -/

/-- Refusal reasons, in the order of their codes (section 11.2). -/
inductive Reason where
  | unknown | length | range | state | busy | demand | permissive | causePresent | conflict | notFound | full
deriving DecidableEq, Repr

/-- What a reply says: Done with the bytes of its result fields, or Refused with a reason. -/
inductive ReplyResult where
  | done (fields : List Byte)
  | refused (r : Reason)
deriving DecidableEq, Repr

/-- A reply: the request's tag, its kind code, and the result. -/
structure Reply where
  tag    : Byte
  kind   : Byte
  result : ReplyResult
deriving DecidableEq, Repr

/-- The snapshot fields of the Governor class (R47). -/
structure GovernorSnapshot where
  run      : RunState
  target   : Nat
  limiting : List Ceiling
  ceilings : List (Option Nat)
  band     : Nat
  status   : DriveStatus
deriving DecidableEq, Repr

/-- A used slot in a Tower report (R138). -/
structure TowerEntry where
  slot     : Nat
  address  : Nat
  codes    : Quad PointCode
  latches  : Quad Latch
  deadline : Deadline
  heard    : Bool
deriving DecidableEq, Repr

/-- The snapshot fields of the Tower class (R138). -/
structure TowerSnapshot where
  towers : List TowerEntry
  late   : Nat
deriving DecidableEq, Repr

/-- The miss count's bands (R168). -/
inductive MissBand where
  | zero | one | two | four
deriving DecidableEq, Repr

/-- The snapshot fields of the Line class (R175). -/
structure LineSnapshot where
  hunting  : Bool
  heard    : Bool
  band     : MissBand
  stop     : StopClass
  loopOpen : Bool
  ready    : Bool
  ceiling  : Option Nat
  overflow : Bool
deriving DecidableEq, Repr

/-- One berth in a Berth report (R103). -/
structure BerthEntry where
  state         : BerthState
  mode          : BerthMode
  occupied      : Bool
  cycleComplete : Bool
  holdOpen      : Bool
  reason        : FaultReason
  faultPending  : Bool
deriving DecidableEq, Repr

/-- The causes of a Garbled report (section 11.2). -/
inductive GarbledCause where
  | length | gap | crc | overrun
deriving DecidableEq, Repr

/-- The event of a Carrier report, with the fields its rule adds (R75, R122, section 11.2). -/
inductive CarrierEvent where
  | overrun (stuck : Bool)
  | entry (stuck : Bool) (count : Nat)
  | indexCancelled
  | released (t : Travel)
  | launchResult (force : Option Nat) (cls : GripClass)
  | held
  | freed
  | renumbered (old new : Nat)
  | garaged
  | overdue (leg : Leg) (coord : Int)
  | skipped (leg : Leg) (coord : Int)
  | summitStranger (leg : Option Leg)
  | arrivalUnseen
  | removed (leg : Leg) (coord : Int)
deriving DecidableEq, Repr

/-- Reports, in the order of their kind codes (Table 11-3). -/
inductive Report where
  | stopDemand (src : Source) (cls : StopClass)
  | runState (new prev : RunState) (cause : Cause) (cls : StopClass) (sources : List Source)
  | governor (f : GovernorSnapshot) (reference : Nat) (v : Int)
  | tower (f : TowerSnapshot)
  | line (f : LineSnapshot)
  | berth (f : Quad BerthEntry) (grants : List Idx4) (wait : List (Idx4 × Motion))
  | carrier (event : CarrierEvent) (number : Nat) (place : Place) (marks : List Mark)
  | counter (n : Idx4) (event : Nat) (action : CounterAction) (alarm frozen : Bool) (value expiries : Nat)
      (sample : Option Sample)
  | watch (hits : Quad Bool) (found : List WatchMatch)
  | call (event : CallEvent) (id : Nat) (state : CallState)
  | notice (text : List Byte) (overrun : Bool)
  | garbled (cause : GarbledCause)
deriving DecidableEq, Repr

/-- A message in transmission: a reply, or a report with the ReportsLost flag it carries (R190). -/
inductive Message where
  | reply (r : Reply)
  | report (r : Report) (lost : Bool)
deriving DecidableEq, Repr

/-- Where an accepted Restart stands (R193): its Done reply waits at the head of the reply queue, ahead of
every message, or is in transmission. -/
inductive RestartPhase where
  | none | waiting | sending
deriving DecidableEq, Repr

/-- The desk receiver (R187): Waiting, or Assembling with the bytes received after the sync byte. -/
inductive DeskReceiver where
  | waiting
  | assembling (bytes : List Byte) (gap : Nat)
deriving DecidableEq, Repr

/-- Report classes that latch, in the order of ReleaseReports' codes (R192). -/
inductive ReportClass where
  | governor | tower | line | berth
deriving DecidableEq, Repr

/-- A class latch with its snapshot (R191). -/
structure ClassLatch (α : Type) where
  latched  : Bool
  snapshot : Option α
deriving DecidableEq, Repr

structure DeskCounts where
  length   : Nat
  gap      : Nat
  crc      : Nat
  refusedFull : Nat
  lost     : Nat
  overruns : Nat
deriving DecidableEq, Repr

/-- The desk link (Figure 10-1, R194). -/
structure Desk where
  receiver    : DeskReceiver
  inbox       : List (Byte × Request)
  replies     : List Reply
  urgent      : List Report
  others      : List Report
  transmit    : Option Message
  reportsLost : Bool
  restart     : RestartPhase
  governor    : ClassLatch GovernorSnapshot
  tower       : ClassLatch TowerSnapshot
  line        : ClassLatch LineSnapshot
  berth       : ClassLatch (Quad BerthEntry)
  counts      : DeskCounts
deriving DecidableEq, Repr

end Sys2Proof.Machine
end

