-- ==== Sys2Proof/Machine/Starts.lean ====
section
/-! DEFINITION. The start values of the blocks: what power-on leaves (defaults included) and, as functions of
the configuration that Restart keeps, what Restart leaves. -/

namespace Sys2Proof.Machine

/-- The same thing four times. -/
def Quad.all4 {α : Type} (a : α) : Quad α := ⟨a, a, a, a⟩

def Quad.get {α : Type} (q : Quad α) : Idx4 → α
  | .i1 => q.v1
  | .i2 => q.v2
  | .i3 => q.v3
  | .i4 => q.v4

def Quad.set {α : Type} (q : Quad α) (i : Idx4) (a : α) : Quad α :=
  match i with
  | .i1 => { q with v1 := a }
  | .i2 => { q with v2 := a }
  | .i3 => { q with v3 := a }
  | .i4 => { q with v4 := a }

def Quad.map {α β : Type} (f : α → β) (q : Quad α) : Quad β := ⟨f q.v1, f q.v2, f q.v3, f q.v4⟩

/-- Run control after either start (R2). -/
def RunControl.start : RunControl :=
  { state := .parked, demands := [], quiet := 0, platformStop := false, loopOpen := false }

/-- Defaults of Table 2-7. -/
def governorDefaults : GovernorSettings :=
  { calibration := 4096, max := 600, slow := 150, margin := 50, rollback := 300, up := 5, down := 8 }

/-- The wind configuration at power-on: no bands, H 20, hold time 60 s (R48). -/
def WindConfig.defaults : WindConfig := { bands := [], hysteresis := 20, hold := 60 }

/-- The Desk ceiling's value at power-on (R48). -/
def deskDefault : Nat := 300

/-- The governor after either start (Table 2-8), with the settings, Desk value and wind configuration in
force. -/
def Governor.start (set : GovernorSettings) (desk : Nat) (wind : WindConfig) : Governor :=
  { travel := 0, residue := 0, history := ⟨0, 0, 0, 0⟩, pf := 0, pb := 0, lastPf := 0, lastPb := 0, v := 0,
    reference := 0, target := 0, limiting := [], rollback := 0, overspeed := 0, encoderLoss := 0, missed := 0,
    statusSeen := false, firstWindow := true, creepBase := none, status := ⟨false, false⟩,
    brakeReleased := false, tripFlag := false, command := none, settings := set, desk := desk, wind := wind,
    band := 0, hold := .stopped, holdMs := 0, summitCeiling := none, lineCeiling := false,
    towerCeiling := false, trackCeiling := false, counterCeiling := false, watchCeiling := false }

/-- The travel update that stands before the first one of a run: T and v at 0 in Parked (R2, R48). -/
def TravelUpdate.start : TravelUpdate := { t := 0, before := 0, d := 0, v := 0, run := .parked, km := false }

/-- Defaults of Table 3-3. -/
def TrackSettings.defaults : TrackSettings :=
  { spacing := 100, vMin := 100, slow := 4, limit := 8, acceptUnlisted := false, fMin := 1400, fOk := 1600 }

/-- The track controller after either start (R51). -/
def Track.start (set : TrackSettings) : Track :=
  { buffer := [], berths := Quad.all4 none, launchBerth := none, launch := none, step := none,
    indexCommand := false, launchCommand := false, releaseMark := 0, inhibit := false, discarded := 0,
    settings := set }

/-- Defaults of Table 4-3 for a role and its default dwell. -/
def BerthSettings.defaults (role : Role) (dwell : Nat) : BerthSettings :=
  { role := role, tUnlock := 300, tOpen := 1500, dwell := dwell, tClose := 1800, tLock := 300,
    tRecover := 1000, maxReopens := 3 }

/-- Defaults of Table 4-3: B1 Unload 15 s, B2 Pass 15 s, B3 Load 25 s, B4 Pass 15 s. -/
def berthDefaults : Quad BerthSettings :=
  ⟨.defaults .unload 15, .defaults .pass 15, .defaults .load 25, .defaults .pass 15⟩

/-- A berth record after either start, with its mode and settings (R77). -/
def Berth.start (mode : BerthMode) (set : BerthSettings) : Berth :=
  { state := .parked, mode := mode, occupied := false, cycleComplete := false, doorsRan := false, reopens := 0,
    holdOpen := false, grant := false, timer := none, motionElapsed := 0, motionSeen := false,
    closeTime := none, homingRun := 0, reason := .none, faultPending := false, settings := set,
    senses := ⟨false, false, false, false⟩ }

/-- The start gap at power-on (R94). -/
def gapDefault : Nat := 250

/-- The motion supply after either start (R77). -/
def Supply.start (gap : Nat) : Supply := { wait := [], sinceGrant := none, gap := gap }

/-- The roster after either start (R123); defaults of R121 at power-on. -/
def Roster.start (lUp lDown slack : Nat) : Roster :=
  { records := [], lUp := lUp, lDown := lDown, slack := slack }

/-- An unused slot (R139). -/
def Slot.unused : Slot :=
  { address := none, coord := 0, enables := Quad.all4 false, codes := Quad.all4 .disabled,
    latches := Quad.all4 .clear, age := 0, deadline := .within, heard := false, unread := 0, extraDue := false }

/-- The codes a slot shows before any reply: Unknown where enabled, Disabled elsewhere (R125, R139). -/
def freshCodes (enables : Quad Bool) : Quad PointCode :=
  enables.map fun e => if e then .unknown else .disabled

/-- A slot's runtime state set afresh, its configuration kept (R125, R139). -/
def Slot.fresh (x : Slot) : Slot :=
  { x with codes := freshCodes x.enables, latches := Quad.all4 .clear, age := 0, deadline := .within,
           heard := false, unread := 0, extraDue := false }

/-- The scan deadline at power-on (R136). -/
def deadlineDefault : Nat := 600

/-- The scanner after either start, with its slots' configurations and D (R139). -/
def Scanner.start (slots : List Slot) (deadline : Nat) : Scanner :=
  { slots := slots.map Slot.fresh, deadline := deadline, pollNumber := 0, late := 0, transaction := none,
    pass := .main, passSlot := 0, lastPolled := 0, parkedTimer := some Config.parkedPollMs, pauseTimer := none }

/-- A counter at power-on (R148). -/
def Counter.defaults : Counter :=
  { event := 0, preset := 1, mask := [], qualifier := .all, threshold := 0, action := .report, freeze := false,
    window := 0, chained := false, value := 1, alarm := false, frozen := false, expiries := 0, sample := none }

/-- Arming a counter (R146): the sample is kept. -/
def Counter.arm (c : Counter) : Counter :=
  { c with value := c.preset, alarm := false, frozen := false, expiries := 0 }

/-- A counter after Restart: its setup kept, armed, with no sample (R148). -/
def Counter.restarted (c : Counter) : Counter := { c.arm with sample := none }

/-- A watch at power-on (R156). -/
def Watch.defaults : Watch :=
  { base := 0, size := 16, kind := .carrier, action := .note, globalOn := false, localOn := false, hit := false }

/-- A watch after Restart: setup and global enable kept (R156). -/
def Watch.restarted (w : Watch) : Watch := { w with localOn := false, hit := false }

/-- The summit contents while the summit has not been heard (R176). -/
def SummitContents.empty : SummitContents :=
  { run := .parked, stop := .clear, loopOpen := false, ready := false, ceiling := none, wind := none, speed := 0 }

/-- The valley beat built at each start (R165, R176): Parked, no demand, loop closed, speed 0. -/
def startBeat : ValleyBeat :=
  { loopOpen := false, stop := .clear, ready := false, run := .parked, speed := 0 }

/-- The line controller after either start, the first valley beat already offered (R176). -/
def Line.start (transmit : Transmit) : Line :=
  { receiver := .hunting, rxBits := [], rxOnes := 0, flagTimer := Config.flagMs, transmit := transmit,
    safety := some startBeat, voice := [], control := [], bulk := [], overflow := false, beatNumber := 0,
    beatTimer := Config.beatMs, stopClass := .clear, heard := false, lastBeat := none, miss := 0,
    supervision := none, contents := .empty, inbox := [], noticeOffered := false, noticeTaken := false,
    counts := ⟨0, 0, 0, 0, 0, 0, 0, 0, 0, 0, 0, 0, 0⟩ }

/-- The silence block: 40 bytes of 0xD5 (section 11.6). -/
def silence : List Byte := List.replicate 40 0xD5#8

/-- The call unit after either start (R186). -/
def CallUnit.start : CallUnit :=
  { state := .idle, id := none, nextId := 1, ringRepeat := none, ringOut := none, ringingGap := none,
    voiceLoss := none, sequence := 0, queue := [], mode := .buffering, reference := none, last := none,
    concealStep := 0, counts := ⟨0, 0, 0, 0, 0⟩, codec := silence, blockTimer := Config.blockMs }

/-- The desk link after either start, with the RunState report that the start queues (R2, R193, R194). -/
def Desk.start (prev : RunState) (cause : Cause) : Desk :=
  { receiver := .waiting, inbox := [], replies := [], urgent := [.runState .parked prev cause .clear []],
    others := [], transmit := none, reportsLost := false, restart := .none, governor := ⟨false, none⟩,
    tower := ⟨false, none⟩, line := ⟨false, none⟩, berth := ⟨false, none⟩, counts := ⟨0, 0, 0, 0, 0, 0⟩ }

end Sys2Proof.Machine
end

