-- ==== Sys2Proof/Machine/State.lean ====
section
/-! DEFINITION. The machine's state: the eleven blocks of Figure 1-1 and the queue of waiting commands; its
value at reset (power-on); the reasons a step could stop. -/

namespace Sys2Proof.Machine

/-- The state of the TL46. `update` is the most recent travel update (R36); `berths` and `supply` are the
berth controller; `pending` is the queue of commands waiting, first in, first out (the model's own field). -/
structure State where
  run      : RunControl
  gov      : Governor
  update   : TravelUpdate
  track    : Track
  berths   : Quad Berth
  supply   : Supply
  roster   : Roster
  scanner  : Scanner
  counters : Counters
  watches  : Watches
  line     : Line
  phone    : CallUnit
  desk     : Desk
  pending  : List Instr
deriving DecidableEq, Repr

/-- The reasons a step could end in a fault. There are none: the spec gives the part no fault outcome (an
error is a count, a report, a refusal reply or a stop demand, all of them next states), so the type has no
constructor. Safe: nothing stops. -/
inductive Fault where
deriving DecidableEq, Repr

/-- The reasons a step could end in a refusal of the model. -/
inductive Refusal where
  /-- Raised by an arm of `exec` whose command has no meaning yet; no arm raises it now. Safe: the model stops
  where the part goes on. -/
  | notModelled (mnemonic : String)
deriving DecidableEq, Repr

/-- The machine right after power-on (R2, R48, R51, R77, R123, R139, R148, R156, R176, R186, R194): every
block at its start value with configuration at its defaults, the RunState report PowerOn queued and the first
valley beat offered. -/
def State.reset : State :=
  { run := .start
    gov := .start governorDefaults deskDefault .defaults
    update := .start
    track := .start .defaults
    berths := berthDefaults.map (Berth.start .auto)
    supply := .start gapDefault
    roster := .start 4000 4000 50
    scanner := .start (List.replicate Config.towerSlots .unused) deadlineDefault
    counters := ⟨Quad.all4 .defaults, 0, 0⟩
    watches := ⟨Quad.all4 .defaults, []⟩
    line := .start .flags
    phone := .start
    desk := .start .parked .powerOn
    pending := [] }

end Sys2Proof.Machine
end

