-- ==== Sys2Proof/Machine/Ops.lean ====
section
/-! DEFINITION. The operations that the blocks share: counts and travel differences, the mark and source sets,
the report queue and the latched report classes of the desk link, the ceiling set, offers to the summit line,
the index-step start, the cycle start, and the run-state transitions and stop demands of run control. -/

namespace Sys2Proof.Machine

open Config

/-! ### Counts, travel and sets -/

/-- A count that saturates at 65,535 (R58, R127, R159, R187). -/
def satInc (n : Nat) : Nat := min (n + 1) countMax

def satAdd (n k : Nat) : Nat := min (n + k) countMax

/-- The difference of two travel values, modulo 2^32 and read as signed (section 1.6). -/
def travelDiff (a b : Travel) : Int := (a - b).toInt

/-- T advanced by a signed increment (R22). -/
def travelAdd (t : Travel) (d : Int) : Travel := t + BitVec.ofInt 32 d

/-- A speed as reports, replies and beats carry it (R23). -/
def clampSpeed (v : Int) : Int := max (-speedClamp) (min speedClamp v)

def Idx4.all : List Idx4 := [.i1, .i2, .i3, .i4]

/-- The number 1 to 4. -/
def idxNumber : Idx4 → Nat
  | .i1 => 1
  | .i2 => 2
  | .i3 => 3
  | .i4 => 4

def idxOf? : Nat → Option Idx4
  | 1 => some .i1
  | 2 => some .i2
  | 3 => some .i3
  | 4 => some .i4
  | _ => none

def Source.all : List Source :=
  [.deskStop, .platformStop, .emergencyLoop, .summitService, .summitEmergency, .lineLost, .towerSilent,
   .towerOut, .trackFull, .entryOverrun, .gripStuck, .indexJam, .gripFail, .lostLaunch, .order, .missing,
   .overspeed, .rollback, .creep, .encoderLost, .driveFault, .wind, .counter, .watch]

/-- The class of a source (Table 1-6). -/
def Source.cls : Source → StopClass
  | .emergencyLoop | .summitEmergency | .towerOut | .entryOverrun | .gripStuck | .gripFail | .lostLaunch
  | .overspeed | .rollback | .creep | .encoderLost | .driveFault => .emergency
  | _ => .service

/-- The set with `src` added, in the order of Table 1-6 (R14). -/
def addSource (src : Source) (set : List Source) : List Source :=
  Source.all.filter fun x => decide (x = src) || decide (x ∈ set)

def removeSource (src : Source) (set : List Source) : List Source :=
  set.filter fun x => !decide (x = src)

/-- The valley stop class of a demand set (R18). -/
def stopClassOf (set : List Source) : StopClass :=
  if set.any fun x => decide (x.cls = .emergency) then .emergency
  else if set.isEmpty then .clear else .service

def Mark.all : List Mark :=
  [.unread, .inferred, .stranger, .duplicate, .stuck, .held, .marked, .marginal, .gripFail, .noTest, .skipped]

/-- The mark set with `m` present, in the order of Table 3-2 (R50: a mark present is not added twice). -/
def addMark (m : Mark) (set : List Mark) : List Mark :=
  Mark.all.filter fun x => decide (x = m) || decide (x ∈ set)

def removeMarks (ms set : List Mark) : List Mark :=
  set.filter fun x => !decide (x ∈ ms)

def CarrierRec.mark (m : Mark) (r : CarrierRec) : CarrierRec := { r with marks := addMark m r.marks }

def CarrierRec.unmark (ms : List Mark) (r : CarrierRec) : CarrierRec :=
  { r with marks := removeMarks ms r.marks }

/-- A set of berth or watch numbers with `i` present, in increasing order. -/
def addIdx (i : Idx4) (set : List Idx4) : List Idx4 :=
  Idx4.all.filter fun x => decide (x = i) || decide (x ∈ set)

def removeIdx (i : Idx4) (set : List Idx4) : List Idx4 := set.filter fun x => !decide (x = i)

/-! ### The report queue (R190) -/

def Report.isUrgent : Report → Bool
  | .stopDemand _ _ => true
  | .runState _ _ _ _ _ => true
  | _ => false

def Report.isNotice : Report → Bool
  | .notice _ _ => true
  | _ => false

/-- The report queue has a free place (R190: 32 reports of both groups together). -/
def reportRoom (s : State) : Bool :=
  decide (s.desk.urgent.length + s.desk.others.length < reportMax)

/-- A report dropped or removed: it counts as lost and sets ReportsLost, but for a Notice report, which goes
back to the line controller as not taken (R190). -/
def loseReport (r : Report) (s : State) : State :=
  if r.isNotice then { s with line := { s.line with noticeTaken := false } }
  else { s with desk := { s.desk with
    reportsLost := true, counts := { s.desk.counts with lost := satInc s.desk.counts.lost } } }

/-- A report offered to the report queue (R190). -/
def queueReport (r : Report) (s : State) : State :=
  if reportRoom s then
    if r.isUrgent then { s with desk := { s.desk with urgent := s.desk.urgent ++ [r] } }
    else { s with desk := { s.desk with others := s.desk.others ++ [r] } }
  else if r.isUrgent then
    match s.desk.others.getLast? with
    | some newest =>
      loseReport newest { s with desk := { s.desk with
        urgent := s.desk.urgent ++ [r], others := s.desk.others.dropLast } }
    | none => loseReport r s
  else loseReport r s

/-! ### The latched report classes (R191) -/

def Ceiling.all : List Ceiling := [.max, .desk, .wind, .summit, .line, .tower, .track, .counter, .watch]

/-- The current wind band's entry in the configuration; none in band 0 (R38). -/
def Governor.bandNow (g : Governor) : Option WindBand :=
  if g.band = 0 then none else g.wind.bands[g.band - 1]?

/-- The value of a present ceiling, none where it is absent (Table 2-3). -/
def Governor.ceiling (g : Governor) : Ceiling → Option Nat
  | .max => some g.settings.max
  | .desk => some g.desk
  | .wind => g.bandNow.bind fun b => b.ceiling
  | .summit => g.summitCeiling
  | .line => if g.lineCeiling then some g.settings.slow else none
  | .tower => if g.towerCeiling then some g.settings.slow else none
  | .track => if g.trackCeiling then some g.settings.slow else none
  | .counter => if g.counterCeiling then some g.settings.slow else none
  | .watch => if g.watchCeiling then some g.settings.slow else none

def Governor.ceilings (g : Governor) : List (Option Nat) := Ceiling.all.map g.ceiling

/-- The snapshot fields of the Governor class as they stand (R47). -/
def governorSnapshot (s : State) : GovernorSnapshot :=
  { run := s.run.state, target := s.gov.target, limiting := s.gov.limiting, ceilings := s.gov.ceilings,
    band := s.gov.band, status := s.gov.status }

/-- A used slot's fields in a Tower report, with its slot number (R138). -/
def Slot.entry? (n : Nat) (x : Slot) : Option TowerEntry :=
  x.address.map fun a =>
    { slot := n, address := a, codes := x.codes, latches := x.latches, deadline := x.deadline, heard := x.heard }

/-- The entries of the used slots, the first slot having number `n`. -/
def towerEntries : Nat → List Slot → List TowerEntry
  | _, [] => []
  | n, x :: xs =>
    match x.entry? n with
    | some e => e :: towerEntries (n + 1) xs
    | none => towerEntries (n + 1) xs

/-- The snapshot fields of the Tower class (R138). -/
def towerSnapshot (s : State) : TowerSnapshot :=
  { towers := towerEntries 1 s.scanner.slots, late := s.scanner.late }

/-- The band of a miss count (R168). -/
def missBand (n : Nat) : MissBand :=
  if n = 0 then .zero else if n = 1 then .one else if n < 4 then .two else .four

/-- The snapshot fields of the Line class (R175). -/
def lineSnapshot (s : State) : LineSnapshot :=
  { hunting := decide (s.line.receiver = .hunting), heard := s.line.heard, band := missBand s.line.miss,
    stop := s.line.contents.stop, loopOpen := s.line.contents.loopOpen, ready := s.line.contents.ready,
    ceiling := s.line.contents.ceiling, overflow := s.line.overflow }

def Berth.entry (b : Berth) : BerthEntry :=
  { state := b.state, mode := b.mode, occupied := b.occupied, cycleComplete := b.cycleComplete,
    holdOpen := b.holdOpen, reason := b.reason, faultPending := b.faultPending }

/-- The snapshot fields of the Berth class (R103). -/
def berthSnapshot (s : State) : Quad BerthEntry := s.berths.map Berth.entry

/-- The berths that hold a motion grant, in berth order (R94). -/
def grantHolders (s : State) : List Idx4 := Idx4.all.filter fun i => (s.berths.get i).grant

def governorReport (s : State) : Report :=
  .governor (governorSnapshot s) s.gov.reference (clampSpeed s.gov.v)

def towerReport (s : State) : Report := .tower (towerSnapshot s)

def lineReport (s : State) : Report := .line (lineSnapshot s)

def berthReport (s : State) : Report := .berth (berthSnapshot s) (grantHolders s) s.supply.wait

/-- A Governor change offered to the desk link (R47, R191). -/
def offerGovernor (s : State) : State :=
  if s.desk.governor.latched then s
  else if reportRoom s then
    let t := queueReport (governorReport s) s
    { t with desk := { t.desk with governor := ⟨true, some (governorSnapshot s)⟩ } }
  else queueReport (governorReport s) s

/-- A Tower change offered to the desk link (R138, R191). -/
def offerTower (s : State) : State :=
  if s.desk.tower.latched then s
  else if reportRoom s then
    let t := queueReport (towerReport s) s
    { t with desk := { t.desk with tower := ⟨true, some (towerSnapshot s)⟩ } }
  else queueReport (towerReport s) s

/-- A Line change offered to the desk link (R175, R191). -/
def offerLine (s : State) : State :=
  if s.desk.line.latched then s
  else if reportRoom s then
    let t := queueReport (lineReport s) s
    { t with desk := { t.desk with line := ⟨true, some (lineSnapshot s)⟩ } }
  else queueReport (lineReport s) s

/-- A Berth change offered to the desk link (R103, R191). -/
def offerBerth (s : State) : State :=
  if s.desk.berth.latched then s
  else if reportRoom s then
    let t := queueReport (berthReport s) s
    { t with desk := { t.desk with berth := ⟨true, some (berthSnapshot s)⟩ } }
  else queueReport (berthReport s) s

/-! ### The ceiling set (R28) -/

/-- A governor update after which a Governor change is offered where a ceiling's presence or value changed
(R28, R47). An absent ceiling has no value, so that a new Slow value is no Governor change while none of the five
Slow ceilings is present (R43; DESIGN CHOICE, log entry 22). However many ceilings one update changes, and the target or
the wind band with them, one Governor change is offered (DESIGN CHOICE, log entry 22: R47 does not say how many). -/
def updateCeilings (g : Governor) (s : State) : State :=
  if g.ceilings = s.gov.ceilings then { s with gov := g } else offerGovernor { s with gov := g }

/-- The governor with the presence of one of the five Slow ceilings owned elsewhere. -/
def Governor.withCeiling (g : Governor) (c : Ceiling) (on : Bool) : Governor :=
  match c with
  | .line => { g with lineCeiling := on }
  | .tower => { g with towerCeiling := on }
  | .track => { g with trackCeiling := on }
  | .counter => { g with counterCeiling := on }
  | .watch => { g with watchCeiling := on }
  | _ => g

/-- An owner asserts (`on`) or withdraws its Slow ceiling (R28): a repetition changes nothing. -/
def setCeiling (c : Ceiling) (on : Bool) (s : State) : State := updateCeilings (s.gov.withCeiling c on) s

/-! ### Offers to the summit line (R162 to R166) -/

/-- The fields a valley beat carries, taken when it is built (R165). -/
def buildBeat (s : State) : ValleyBeat :=
  { loopOpen := s.run.loopOpen, stop := s.line.stopClass,
    ready := decide (s.run.state = .stopped ∨ s.run.state = .starting ∨ s.run.state = .running) &&
      decide (s.line.stopClass = .clear),
    run := s.run.state, speed := clampSpeed s.gov.v }

/-- What becomes of the transmission when a Beat is offered: a Bulk frame is aborted at once, but for one whose
last bit has been sent, its closing flag being sent (R164). -/
def Transmit.preempted : Transmit → Transmit
  | .frame (.notice text) left =>
    if left = 0 then .frame (.notice text) left else .aborting (some (.notice text))
  | t => t

/-- A valley beat built and offered to the Safety queue, where it replaces one that waits (R162, R165). -/
def offerBeat (s : State) : State :=
  { s with line := { s.line with safety := some (buildBeat s), transmit := s.line.transmit.preempted } }

/-- Run control gives the line controller the valley stop class; a class that differs from the last one given
builds an extra beat (R18, R166). -/
def giveClass (s : State) : State :=
  if stopClassOf s.run.demands = s.line.stopClass then s
  else offerBeat { s with line := { s.line with stopClass := stopClassOf s.run.demands } }

/-- A Passage or CallSignal frame offered to the Control queue (R162, R171). -/
def offerControl (f : ControlFrame) (s : State) : State :=
  if s.line.control.length < controlQueue then
    { s with line := { s.line with control := s.line.control ++ [f] } }
  else
    let t := { s with line := { s.line with
      overflow := true, counts := { s.line.counts with controlDropped := satInc s.line.counts.controlDropped } } }
    if s.line.overflow then t else offerLine t

/-- A Voice frame offered to the Voice queue; a full queue drops its oldest (R162). -/
def offerVoice (f : VoiceFrame) (s : State) : State :=
  if s.line.voice.length < voiceQueue then { s with line := { s.line with voice := s.line.voice ++ [f] } }
  else { s with line := { s.line with
    voice := s.line.voice.drop 1 ++ [f],
    counts := { s.line.counts with voiceDropped := satInc s.line.counts.voiceDropped } } }

/-! ### Berths: one record replaced, and the start of a cycle -/

def State.berth (s : State) (i : Idx4) : Berth := s.berths.get i

def State.setBerth (s : State) (i : Idx4) (b : Berth) : State := { s with berths := s.berths.set i b }

/-- A berth's record replaced and a Berth change offered (R103). -/
def changeBerth (i : Idx4) (b : Berth) (s : State) : State := offerBerth (s.setBerth i b)

/-- What a Berth change is about (R103). -/
def Berth.shown (b : Berth) : BerthState × BerthMode × Bool × FaultReason × Bool :=
  (b.state, b.mode, b.holdOpen, b.reason, b.faultPending)

/-- The four berths replaced as parts of one event: one Berth change, after all of them, where the state, mode,
HoldOpen, fault reason or fault pending of a berth changed (R103; DESIGN CHOICE, log entry 24: one Berth change for
the event and not one for each berth). -/
def changeBerths (q : Quad Berth) (s : State) : State :=
  if q.map Berth.shown = s.berths.map Berth.shown then { s with berths := q } else offerBerth { s with berths := q }

/-- A berth's cycle is due (R82). -/
def Berth.due (b : Berth) : Bool :=
  decide (b.state = .locked) && b.occupied && !decide (b.settings.role = .pass) && !b.cycleComplete

/-- The conditions under which a due berth of this machine goes to Unlocking by itself (R82). -/
def cycleReady (s : State) (b : Berth) : Bool :=
  b.due && decide (b.mode = .auto) && b.timer.isNone && s.track.step.isNone && !b.faultPending &&
    !decide (s.run.state = .parked) && !decide (s.run.state = .waking)

/-- Entry to Unlocking: t_unlock starts (R83). -/
def Berth.unlocking (b : Berth) : Berth :=
  { b with state := .unlocking, timer := some (.unlock, b.settings.tUnlock) }

/-- A cycle started by R82 runs from its start: no Open motion and no reversal yet (R92, R97). -/
def Berth.cycleStart (b : Berth) : Berth := { b.unlocking with doorsRan := false, reopens := 0 }

/-- The test of R82 on one berth. -/
def cycleTest (i : Idx4) (s : State) : State :=
  if cycleReady s (s.berth i) then changeBerth i (s.berth i).cycleStart s else s

/-- The test of R82 on the four berths: the cycles that start in one event start in the order B1 to B4, each with its
Berth change (DESIGN CHOICE, log entry 27: the spec orders neither). -/
def cycleTests (s : State) : State := cycleTest .i4 (cycleTest .i3 (cycleTest .i2 (cycleTest .i1 s)))

/-! ### The start of an index step (R55, R56) -/

/-- Conditions 6 and 7 of R55 on one berth: Locked, and its cycle complete where it is occupied. -/
def Berth.mayIndex (b : Berth) : Bool := decide (b.state = .locked) && (!b.occupied || b.cycleComplete)

/-- Condition 8 of R55: the entry buffer or a berth holds a record. -/
def Track.carrying (k : Track) : Bool :=
  !k.buffer.isEmpty || k.berths.v1.isSome || k.berths.v2.isSome || k.berths.v3.isSome || k.berths.v4.isSome

/-- Index steps may start in Stopped, Starting, Running and Stopping (Table 1-5). -/
def runIndexes : RunState → Bool
  | .stopped | .starting | .running | .stopping => true
  | _ => false

/-- The eight conditions of R55. -/
def indexReady (s : State) : Bool :=
  runIndexes s.run.state && !s.run.platformStop && s.track.step.isNone && !s.track.inhibit &&
    s.track.launchBerth.isNone && s.berths.v1.mayIndex && s.berths.v2.mayIndex && s.berths.v3.mayIndex &&
    s.berths.v4.mayIndex && s.track.carrying

/-- The index-step start conditions are tested, and the step starts where they hold (R55, R56). -/
def indexTest (s : State) : State :=
  if indexReady s then
    { s with track := { s.track with step := some ⟨s.track.settings.limit * 1000, false⟩, indexCommand := true } }
  else s

/-! ### Run-state transitions (R1, R13, R31) -/

/-- What the governor does at a transition, at the transition itself (R31, R32, R33). -/
def Governor.enter (new : RunState) (g : Governor) : Governor :=
  match new with
  | .starting => { g with reference := 0, brakeReleased := true, tripFlag := false }
  | .running => { g with brakeReleased := true, tripFlag := false }
  | .stopping => { g with brakeReleased := true, tripFlag := false }
  | .tripped =>
    { g with reference := 0, brakeReleased := false, tripFlag := true, overspeed := 0, encoderLoss := 0,
             command := some ⟨0, false, true⟩ }
  | .stopped => { g with creepBase := some g.travel, brakeReleased := false, tripFlag := false, reference := 0 }
  | .parked => { g with reference := 0, brakeReleased := false, tripFlag := false }
  | .waking => { g with brakeReleased := false, tripFlag := false }

/-- A watch is enabled (R149). -/
def Watch.enabled (w : Watch) : Bool := w.globalOn && w.localOn

/-- Where a watch's window begins: the base aligned to the size (R149). -/
def Watch.start (w : Watch) : Nat := w.base - w.base % w.size

/-- A coordinate is inside a watch's window (R149). -/
def Watch.inside (w : Watch) (c : Int) : Bool :=
  decide ((w.start : Int) ≤ c) && decide (c < (w.start : Int) + (w.size : Int))

/-- A watch calls for the Watch ceiling (R155). -/
def Watch.slows (i : Idx4) (w : Watch) (given : List Given) : Bool :=
  w.enabled && decide (w.action = .slow) && given.any fun r => w.inside r.coord && !decide (i ∈ r.exempt)

def Watches.slow (w : Watches) : Bool := Idx4.all.any fun i => (w.units.get i).slows i w.given

/-- The Watch ceiling recomputed (R155). -/
def watchCeilingTest (s : State) : State := setCeiling .watch s.watches.slow s

/-- At Stopped to Starting every watch's local enable becomes off (R150). -/
def clearLocalEnables (s : State) : State :=
  watchCeilingTest { s with watches := { s.watches with
    units := s.watches.units.map fun w => { w with localOn := false } } }

/-- A transition's effects common to every new state: run state, with the quiet window count, which starts at 0
on entering Stopping and is kept in no other state (R9, R10), governor (R31),
RunState report (R13), local enables (R150), and the tests of R82 and R55 that every transition makes. -/
def enterState (new : RunState) (cause : Cause) (s : State) : State :=
  let prev := s.run.state
  let s1 : State := { s with
    run := { s.run with state := new, quiet := 0 }
    gov := s.gov.enter new }
  let s2 := queueReport (.runState new prev cause (stopClassOf s.run.demands) s.run.demands) s1
  let s3 := if prev = .stopped ∧ new = .starting then clearLocalEnables s2 else s2
  indexTest (cycleTests s3)

/-! ### Stop demands (R9, R11, R14, R15) -/

/-- The run-state change a joining source requires (R9, R11). -/
def demandTransition (src : Source) (s : State) : State :=
  match src.cls, s.run.state with
  | .emergency, .starting | .emergency, .running | .emergency, .stopping | .emergency, .stopped =>
    enterState .tripped (.demand src) s
  | .service, .starting | .service, .running => enterState .stopping (.demand src) s
  | _, _ => s

/-- A stop demand raised by its owner (R14). -/
def raise (src : Source) (s : State) : State :=
  if src ∈ s.run.demands then s
  else
    giveClass (demandTransition src (queueReport (.stopDemand src src.cls)
      { s with run := { s.run with demands := addSource src s.run.demands } }))

def raiseAll : List Source → State → State
  | [], s => s
  | x :: xs, s => raiseAll xs (raise x s)

end Sys2Proof.Machine
end

