-- ==== Sys2Proof/Machine/Counters.lean ====
section
/-! DEFINITION. The event counters (chapter 7.1): counting an offered event, expiry, window reload, and the
SetCounter, ArmCounter requests; and how an owner answers a request. -/

namespace Sys2Proof.Machine

open Config

/-! ### How an owner answers a request (R189) -/

def done (s : State) : State × ReplyResult := (s, .done [])

def refuse (r : Reason) (s : State) : State × ReplyResult := (s, .refused r)

/-! ### The counters -/

def State.counter (s : State) (i : Idx4) : Counter := s.counters.units.get i

def State.setCounter (s : State) (i : Idx4) (c : Counter) : State :=
  { s with counters := { s.counters with units := s.counters.units.set i c } }

/-- The carrier qualifier passes (R142): an event that is not carrier-bound passes every qualifier. -/
def Qualifier.passes (q : Qualifier) : Option (Nat × Bool) → Bool
  | none => true
  | some (_, isMarked) =>
    match q with
    | .all => true
    | .marked => isMarked
    | .unmarked => !isMarked

/-- The threshold test of events 4 and 6 (R142). -/
def Counter.measures (c : Counter) (ev : CounterEvent) : Bool :=
  if ev.code = 4 then decide (ev.value < c.threshold)
  else if ev.code = 6 then decide (c.threshold < ev.value)
  else true

/-- The six conditions under which an offered event counts in counter `i` (R142). -/
def counts (s : State) (i : Idx4) (ev : CounterEvent) : Bool :=
  let c := s.counter i
  decide (c.event = ev.code) && !decide (c.event = 0) && decide (s.run.state ∈ c.mask) &&
    c.qualifier.passes ev.carrier && c.measures ev && !c.frozen && (!c.chained || (s.counter .i1).alarm)

/-- The Counter ceiling's condition (R145). -/
def Counters.slow (k : Counters) : Bool :=
  Idx4.all.any fun i => decide ((k.units.get i).action = .slow) && (k.units.get i).alarm

def counterCeilingTest (s : State) : State := setCeiling .counter s.counters.slow s

/-- The sample of an expiry (R143). -/
def sampleOf (s : State) (ev : CounterEvent) : Sample :=
  { code := ev.code, carrier := ev.carrier.map Prod.fst, slot := ev.slot, point := ev.point,
    t := s.counters.heldT, run := s.run.state, v := s.counters.heldV }

/-- A counter after its expiry: sample, Alarm, expiries, and the frozen or reloaded value (R143). -/
def Counter.expired (c : Counter) (sample : Sample) : Counter :=
  { c with
    sample := if c.alarm then c.sample else some sample
    alarm := true
    expiries := satInc c.expiries
    value := if c.freeze then 0 else c.preset
    frozen := c.freeze }

def counterReport (i : Idx4) (c : Counter) : Report :=
  .counter i c.event c.action c.alarm c.frozen c.value c.expiries c.sample

/-- The action of an expired counter fires (R143). -/
def fireAction (a : CounterAction) (s : State) : State :=
  match a with
  | .report => s
  | .slow => counterCeilingTest s
  | .stop => raise .counter s

/-- An expiry of counter `i` by the event `ev` (R143). -/
def expire (i : Idx4) (ev : CounterEvent) (s : State) : State :=
  let c := (s.counter i).expired (sampleOf s ev)
  fireAction c.action (queueReport (counterReport i c) (s.setCounter i c))

/-- Counter `i` takes an offered event (R142). -/
def counterTake (i : Idx4) (ev : CounterEvent) (s : State) : State :=
  if counts s i ev then
    if (s.counter i).value ≤ 1 then expire i ev s
    else s.setCounter i { s.counter i with value := (s.counter i).value - 1 }
  else s

/-- The event that brings counter `i` to 0, where it counts there and the value stands at its last count (R142,
R143). -/
def expiryEvent (i : Idx4) (ev : CounterEvent) (s : State) : State :=
  if counts s i ev && decide ((s.counter i).value ≤ 1) then counterTake i ev s else s

/-- An event offered to the counters, which take it in the order 1, 2, 3, 4 (R141). -/
def offerEvent (ev : CounterEvent) (s : State) : State :=
  counterTake .i4 ev (counterTake .i3 ev (counterTake .i2 ev (counterTake .i1 ev s)))

/-- The carrier part of an event about a record: not carrier-bound where the number is 0 (R141). -/
def carrierOf (number : Nat) (marks : List Mark) : Option (Nat × Bool) :=
  if number = 0 then none else some (number, decide (Mark.marked ∈ marks))

/-- T passed forward into a different multiple of `span` mm (R37, R144). -/
def crosses (before after : Travel) (d : Int) (span : Nat) : Bool :=
  decide (0 < d) && !decide (before.toNat / span = after.toNat / span)

/-- A counter's window reload at a travel update (R144). -/
def Counter.reload (before after : Travel) (d : Int) (c : Counter) : Counter :=
  if !decide (c.window = 0) && !c.alarm && crosses before after d (c.window * 1000000) then
    { c with value := c.preset }
  else c

/-- The counters take the travel update (R140, R144): held T and v, window reloads, then event 15. -/
def countersTravel (s : State) : State :=
  let u := s.update
  let t : State := { s with counters :=
    { units := s.counters.units.map (Counter.reload u.before u.t u.d), heldT := u.t, heldV := u.v } }
  if u.km then offerEvent { code := 15 } t else t

/-! ### Requests to the counters -/

/-- The run states of a mask, bits 0 to 6 for Parked to Tripped (section 11.1). -/
def maskStates (m : Nat) : List RunState :=
  [RunState.parked, .waking, .stopped, .starting, .running, .stopping, .tripped].zipIdx.filterMap
    fun p => if m.testBit p.2 then some p.1 else none

def qualifierOf? : Nat → Option Qualifier
  | 0 => some .all
  | 1 => some .marked
  | 2 => some .unmarked
  | _ => none

def counterActionOf? : Nat → Option CounterAction
  | 0 => some .report
  | 1 => some .slow
  | 2 => some .stop
  | _ => none

/-- The range tests of SetCounter (R147, and the enumerations by R195). -/
def counterInRange (i : Idx4) (r : CounterRequest) : Bool :=
  decide (r.event ≤ 16) && decide (1 ≤ r.preset) && decide (r.preset ≤ 65535) &&
    (decide (r.event = 0) || !(maskStates r.mask).isEmpty) &&
    (!decide (r.event = 4) || (decide (100 ≤ r.threshold) && decide (r.threshold ≤ 4000))) &&
    (!decide (r.event = 6) || (decide (100 ≤ r.threshold) && decide (r.threshold ≤ 5000))) &&
    decide (r.window ≤ 255) && (!r.chained || !decide (i = .i1))

/-- The counter a SetCounter leaves: its setup, armed, with no sample (R147). -/
def counterOf (r : CounterRequest) (q : Qualifier) (a : CounterAction) : Counter :=
  { event := r.event, preset := r.preset, mask := maskStates r.mask, qualifier := q,
    threshold := if r.event = 4 ∨ r.event = 6 then r.threshold else 0, action := a, freeze := r.freeze,
    window := r.window, chained := r.chained, value := r.preset, alarm := false, frozen := false,
    expiries := 0, sample := none }

/-- SetCounter (R147). -/
def doSetCounter (n : Nat) (r : CounterRequest) (s : State) : State × ReplyResult :=
  match idxOf? n, qualifierOf? r.qualifier, counterActionOf? r.action with
  | some i, some q, some a =>
    if counterInRange i r then done (counterCeilingTest (s.setCounter i (counterOf r q a)))
    else refuse .range s
  | _, _, _ => refuse .range s

/-- ArmCounter (R146): 0 names all four. -/
def doArmCounter (n : Nat) (s : State) : State × ReplyResult :=
  if n = 0 then
    done (counterCeilingTest { s with counters := { s.counters with units := s.counters.units.map Counter.arm } })
  else
    match idxOf? n with
    | some i => done (counterCeilingTest (s.setCounter i (s.counter i).arm))
    | none => refuse .range s

end Sys2Proof.Machine
end

