-- ==== Sys2Proof/Machine/Watches.lean ====
section
/-! DEFINITION. The position watches (chapter 7.2): carrier and tower occasions, exemptions, the Watch ceiling,
and the SetWatch and ClearHits requests. -/

namespace Sys2Proof.Machine

open Config

/-- floor(position / 1000) (R107). -/
def coordOf (position : Int) : Int := position / 1000

/-- The match of a roster record with a watch at a travel update, if it enters the watch and is not exempt
from it (R151). -/
def carrierMatch? (i : Idx4) (w : Watch) (r : RosterRec) : Option WatchMatch :=
  let c := coordOf r.position
  let wasInside := match r.prevCoord with
    | some p => w.inside p
    | none => false
  if !decide (w.kind = .tower) && w.inside c && !wasInside && !decide (i ∈ r.exempt) then
    some { watch := i, carrier := some r.carrier.number, marked := decide (Mark.marked ∈ r.carrier.marks),
           tower := none, coord := c, enabled := w.enabled, raised := w.enabled && decide (w.action = .stop) }
  else none

/-- The matches of one travel update, over all records and all watches (R151): record by record from the roster's head,
watches 1 to 4 within each. The Watch report lists the matches, and their events 14 are offered, in this order (DESIGN
CHOICE, log entry 29: the spec gives none). -/
def carrierMatches (s : State) : List WatchMatch :=
  s.roster.records.flatMap fun r => Idx4.all.filterMap fun i => carrierMatch? i (s.watches.units.get i) r

/-- The matches of one tower event (R152); a tower match raises no demand (R154). -/
def towerMatches (e : TowerEvent) (s : State) : List WatchMatch :=
  Idx4.all.filterMap fun i =>
    let w := s.watches.units.get i
    if !decide (w.kind = .carrier) && w.inside (e.coord : Int) then
      some { watch := i, carrier := none, marked := false, tower := some e, coord := (e.coord : Int),
             enabled := w.enabled, raised := false }
    else none

/-- Counter event 14 for a match, with its watch (R153, Table 7-3). -/
def hitEvent (m : WatchMatch) : CounterEvent :=
  { code := 14, carrier := m.carrier.bind fun n => if n = 0 then none else some (n, m.marked),
    slot := m.tower.map fun e => e.slot, point := m.tower.bind fun e => e.point, watch := some m.watch }

def offerHits : List WatchMatch → State → State
  | [], s => s
  | m :: ms, s => offerHits ms (offerEvent (hitEvent m) s)

/-- The record of a match that raises Watch becomes exempt from the watch (R154). -/
def exemptRecord (m : WatchMatch) (r : RosterRec) : RosterRec :=
  if m.carrier = some r.carrier.number then { r with exempt := addIdx m.watch r.exempt } else r

/-- The Stop actions of an occasion: Watch is raised and the record becomes exempt, match by match (R154). -/
def stopMatches : List WatchMatch → State → State
  | [], s => s
  | m :: ms, s =>
    if m.raised then
      stopMatches ms (raise .watch { s with roster := { s.roster with
        records := s.roster.records.map (exemptRecord m) } })
    else stopMatches ms s

/-- A watch with a match at the occasion sets its hit flag (R153). -/
def hitWatch (ms : List WatchMatch) (i : Idx4) (w : Watch) : Watch :=
  if ms.any fun m => decide (m.watch = i) then { w with hit := true } else w

def hitWatches (ms : List WatchMatch) (q : Quad Watch) : Quad Watch :=
  ⟨hitWatch ms .i1 q.v1, hitWatch ms .i2 q.v2, hitWatch ms .i3 q.v3, hitWatch ms .i4 q.v4⟩

/-- An occasion (R153, R154): nothing at all without a match for an enabled watch. -/
def occasion (ms : List WatchMatch) (s : State) : State :=
  if ms.any fun m => m.enabled then
    let units := hitWatches ms s.watches.units
    stopMatches ms (offerHits ms (queueReport (.watch (units.map fun w => w.hit) ms)
      { s with watches := { s.watches with units := units } }))
  else s

/-- The scanner offers a tower event to the watches (R137, R152). -/
def towerOccasion (e : TowerEvent) (s : State) : State := occasion (towerMatches e s) s

/-- A record at or beyond the end of a watch's window loses its exemption from it (R151). -/
def dropExemptions (q : Quad Watch) (r : RosterRec) : RosterRec :=
  { r with exempt := r.exempt.filter fun i =>
      decide (coordOf r.position < ((q.get i).start : Int) + ((q.get i).size : Int)) }

def givenOf (r : RosterRec) : Given :=
  { number := r.carrier.number, coord := coordOf r.position, exempt := r.exempt }

/-- The watches take the positions of a travel update: the occasion, the removal of exemptions, and the Watch
ceiling (R151, R155). -/
def watchesTravel (s : State) : State :=
  let s1 := occasion (carrierMatches s) s
  let records := s1.roster.records.map (dropExemptions s1.watches.units)
  watchCeilingTest { s1 with roster := { s1.roster with records := records },
                             watches := { s1.watches with given := records.map givenOf } }

/-! ### Requests to the watches -/

def watchKindOf? : Nat → Option WatchKind
  | 0 => some .carrier
  | 1 => some .tower
  | 2 => some .both
  | _ => none

def watchActionOf? : Nat → Option WatchAction
  | 0 => some .note
  | 1 => some .slow
  | 2 => some .stop
  | _ => none

def watchInRange (r : WatchRequest) : Bool :=
  decide (r.base ≤ 18000) &&
    (decide (r.size = 16) || decide (r.size = 64) || decide (r.size = 256) || decide (r.size = 1024))

/-- A moved window's exemption is removed from every record that holds it (R150). -/
def removeExemption (i : Idx4) (s : State) : State :=
  { s with
    roster := { s.roster with records := s.roster.records.map fun r => { r with exempt := removeIdx i r.exempt } }
    watches := { s.watches with given := s.watches.given.map fun g => { g with exempt := removeIdx i g.exempt } } }

/-- The setup of an accepted SetWatch in place, the hit flag kept (R150). -/
def placeWatch (i : Idx4) (w : Watch) (s : State) : State :=
  let old := s.watches.units.get i
  let t : State := { s with watches := { s.watches with
    units := s.watches.units.set i { w with hit := old.hit } } }
  watchCeilingTest (if old.start = w.start ∧ old.size = w.size then t else removeExemption i t)

/-- SetWatch (R150). -/
def doSetWatch (n : Nat) (r : WatchRequest) (s : State) : State × ReplyResult :=
  match idxOf? n, watchKindOf? r.kind, watchActionOf? r.action with
  | some i, some k, some a =>
    if watchInRange r then
      done (placeWatch i { base := r.base, size := r.size, kind := k, action := a, globalOn := r.globalOn,
                           localOn := r.localOn, hit := false } s)
    else refuse .range s
  | _, _, _ => refuse .range s

/-- ClearHits (R153): 0 names all four. -/
def doClearHits (n : Nat) (s : State) : State × ReplyResult :=
  if n = 0 then
    done { s with watches := { s.watches with units := s.watches.units.map fun w => { w with hit := false } } }
  else
    match idxOf? n with
    | some i =>
      done { s with watches := { s.watches with
        units := s.watches.units.set i { s.watches.units.get i with hit := false } } }
    | none => refuse .range s

end Sys2Proof.Machine
end

