-- ==== Sys2Proof/Machine/Berths.lean ====
section
/-! DEFINITION. The berth controller (chapter 4): the completion of Waking, the motion supply, the door cycle,
obstructions and reopening, faults, the freeze, parking and homing, and the berth requests. -/

namespace Sys2Proof.Machine

open Config

/-! ### The completion of Waking (R4) -/

/-- Every used slot has been heard since Waking began (R4). -/
def allHeard (slots : List Slot) : Bool := slots.all fun x => x.address.isNone || x.heard

def allLocked (q : Quad Berth) : Bool := Idx4.all.all fun i => decide ((q.get i).state = .locked)

/-- The pair of conditions of R4 is tested; Waking ends in Tripped where an Emergency demand is present. -/
def wakingTest (s : State) : State :=
  if s.run.state = .waking ∧ allLocked s.berths ∧ allHeard s.scanner.slots then
    enterState (if stopClassOf s.run.demands = .emergency then .tripped else .stopped) .wakeComplete s
  else s

/-! ### Outputs (Table 4-4, R80, R96) -/

/-- The five outputs of a berth; `frozen` is the platform stop freeze, which withdraws all but Lock. -/
def Berth.outputs (frozen : Bool) (b : Berth) : BerthOutputs :=
  { opening := decide (b.state = .opening) && b.grant && !frozen
    closing := decide (b.state = .closing) && b.grant && !frozen
    home := decide (b.state = .homing) && b.grant && !frozen
    lock := decide (b.state = .locked) || decide (b.state = .locking)
    unlock := decide (b.state = .unlocking) && !frozen }

/-! ### Notices to the track controller (R59, R81) -/

def addCycle (i : Idx4) (reopens : Nat) (r : CarrierRec) : CarrierRec :=
  { r with cycles := addIdx i r.cycles, reopens := min (r.reopens + reopens) 255 }

/-- A cycle notice (R59): where the doors ran, the record in the berth takes the berth number and the reopens;
the index start conditions are tested. -/
def cycleNotice (i : Idx4) (ran : Bool) (reopens : Nat) (s : State) : State :=
  indexTest (if ran then
    { s with track := { s.track with
      berths := s.track.berths.set i ((s.track.berths.get i).map (addCycle i reopens)) } }
  else s)

/-- The notice of reaching Locked, with the cycle notice where the cycle has just become complete: to the track
controller (R55, R59) and to run control (R4). A berth that became Pass with its cycle incomplete and was then cycled
by Manual commands adds its berth number, since its doors ran (DESIGN CHOICE, log entry 24: R59 also says that a berth
whose role is Pass adds nothing). -/
def lockedNotice (i : Idx4) (completed : Bool) (s : State) : State :=
  wakingTest (if completed then cycleNotice i (s.berth i).doorsRan (s.berth i).reopens s else indexTest s)

/-- Counter events of the doors carry the carrier in the berth, or none (R86, R88). -/
def berthCarrier (s : State) (i : Idx4) : Option (Nat × Bool) :=
  (s.track.berths.get i).bind fun r => carrierOf r.number r.marks

/-! ### The wait list (R93) -/

def Motion.priority : Motion → Nat
  | .closing => 0
  | .homing => 1
  | .opening => 2

/-- The wait list with an entry added behind those of its own or a higher priority. -/
def insertWait (i : Idx4) (m : Motion) (wait : List (Idx4 × Motion)) : List (Idx4 × Motion) :=
  (wait.filter fun e => decide (e.2.priority ≤ m.priority)) ++ (i, m) ::
    (wait.filter fun e => !decide (e.2.priority ≤ m.priority))

/-- The wait list without a berth's entry. -/
def withdraw (i : Idx4) (wait : List (Idx4 × Motion)) : List (Idx4 × Motion) :=
  wait.filter fun e => !decide (e.1 = i)

def waits (s : State) (i : Idx4) (m : Motion) : Bool := decide ((i, m) ∈ s.supply.wait)

/-- A request put on the wait list; one already there with the same kind has no effect (R93). -/
def queueRequest (i : Idx4) (m : Motion) (s : State) : State :=
  if waits s i m then s
  else { s with supply := { s.supply with wait := insertWait i m (withdraw i s.supply.wait) } }

def withdrawRequest (i : Idx4) (s : State) : State :=
  { s with supply := { s.supply with wait := withdraw i s.supply.wait } }

/-! ### Entry to Fault (R90) -/

def Berth.faulted (reason : FaultReason) (b : Berth) : Berth :=
  { b with state := .fault, timer := none, grant := false, holdOpen := false, homingRun := 0, reason := reason,
           faultPending := false }

/-- Entry to Fault (R90), less the motion supply's test. The Fault notice changes nothing in the track
controller or in Waking, since neither an index step nor the end of Waking is possible with the berth short
of Locked (R4, R55). -/
def faultBerth (i : Idx4) (reason : FaultReason) (s : State) : State :=
  changeBerth i ((s.berth i).faulted reason) (withdrawRequest i s)

/-! ### Reversals (R88, R89) -/

/-- The reopen limit: HoldOpen is set when the reopen count stands at or above the maximum (R89). -/
def limitReached (b : Berth) : Bool := decide (b.settings.maxReopens ≤ b.reopens)

def limitTest (i : Idx4) (s : State) : State :=
  if limitReached (s.berth i) then changeBerth i { s.berth i with holdOpen := true } s else s

def reopenEvent (s : State) (i : Idx4) : CounterEvent := { code := 5, carrier := berthCarrier s i }

/-- A reversal counted: the reopen count, counter event 5 and the reopen limit (R88, R89). -/
def countReversal (i : Idx4) (s : State) : State :=
  limitTest i (offerEvent (reopenEvent s i)
    (s.setBerth i { s.berth i with reopens := min ((s.berth i).reopens + 1) 255 }))

/-- The reversing Opening's run time: t_open × e ÷ t_close rounded up (R88). -/
def reversalTime (b : Berth) : Nat :=
  (b.settings.tOpen * b.motionElapsed + (b.settings.tClose - 1)) / b.settings.tClose

def Berth.reversed (b : Berth) : Berth :=
  { b with state := .opening, timer := some (.run, reversalTime b), motionElapsed := 0, motionSeen := false,
           closeTime := none }

/-- A Closing reversed into Opening, its grant kept (R88, R95). -/
def reverse (i : Idx4) (s : State) : State := countReversal i (changeBerth i (s.berth i).reversed s)

/-! ### The motion supply (R94, R95) -/

def gapPassed (p : Supply) : Bool :=
  match p.sinceGrant with
  | none => true
  | some t => decide (p.gap ≤ t)

def supplyReady (s : State) : Bool :=
  decide ((grantHolders s).length < grants) && !s.supply.wait.isEmpty && !s.run.platformStop &&
    gapPassed s.supply

def Berth.granted (b : Berth) (st : BerthState) (time : Nat) : Berth :=
  { b with state := st, grant := true, timer := some (.run, time), motionElapsed := 0, motionSeen := false,
           closeTime := none }

/-- A granted Open (R84). -/
def grantOpen (i : Idx4) (s : State) : State :=
  changeBerth i { (s.berth i).granted .opening (s.berth i).settings.tOpen with doorsRan := true } s

/-- A granted Close: the Closing begins, or an active obstruction sense counts as a reversal, the grant being
given back at once, after which the motion supply tests R94, and an Auto berth asking again below its limit (R86,
R89, R95). `test` is that test. -/
def grantClose (test : State → State) (i : Idx4) (s : State) : State :=
  if (s.berth i).senses.obstruction then
    let t := countReversal i (test s)
    if (t.berth i).mode = .auto ∧ limitReached (t.berth i) = false then queueRequest i .closing t else t
  else changeBerth i ((s.berth i).granted .closing (s.berth i).settings.tClose) s

/-- A granted Homing: the first run, or Fault where the obstruction sense is active (R98). The grant of a Homing also
returns the motion elapsed time to 0, motion-complete seen to no and the close time to none, as one of an Opening or a
Closing does (DESIGN CHOICE, log entry 27: R84 and R86 speak of those two alone). -/
def grantHoming (i : Idx4) (s : State) : State :=
  if (s.berth i).senses.obstruction then faultBerth i .homingObstructed s
  else s.setBerth i { (s.berth i).granted .homing (s.berth i).settings.tClose with homingRun := 1 }

/-- The grant goes to the first entry of the wait list (R94); `test` is the test that a release in between makes. -/
def grantHead (test : State → State) (s : State) : State :=
  match s.supply.wait with
  | [] => s
  | (i, m) :: rest =>
    let t : State := { s with supply := { s.supply with wait := rest, sinceGrant := some 0 } }
    match m with
    | .opening => grantOpen i t
    | .closing => grantClose test i t
    | .homing => grantHoming i t

/-- Grants are given while R94's conditions hold. -/
def supplyLoop : Nat → State → State
  | 0 => id
  | n + 1 => fun s => if supplyReady s then supplyLoop n (grantHead (supplyLoop n) s) else s

/-- The motion supply tests R94. Thirty-two grants bound the loop: each of four berths is granted at most five
obstructed Closes before its reopen limit (R89) and one motion besides (log entry 13). -/
def supplyTest (s : State) : State := supplyLoop 32 s

/-- A motion request placed (R93, R94). -/
def request (i : Idx4) (m : Motion) (s : State) : State := supplyTest (queueRequest i m s)

/-- Entry to Fault with the release of a held grant, which frees a place of the supply (R90, R95). -/
def fault (i : Idx4) (reason : FaultReason) (s : State) : State :=
  if (s.berth i).grant then supplyTest (faultBerth i reason s) else faultBerth i reason s

/-! ### The door cycle (R82 to R87) -/

/-- A berth timer of this kind is running, so that it can expire: set, and not frozen (R76, R96). -/
def timerRuns (s : State) (i : Idx4) (k : BerthTimer) : Bool :=
  !s.run.platformStop && match (s.berth i).timer with
    | some (k', _) => decide (k' = k)
    | none => false

/-- The recovery timer as it starts at each entry to Locked; of 0 ms it has expired at once (R82). -/
def recoveryTimer (b : Berth) : Option (BerthTimer × Nat) :=
  if b.settings.tRecover = 0 then none else some (.recovery, b.settings.tRecover)

/-- A cycle that the reaching of Locked completes (R87). -/
def Berth.completes (b : Berth) : Bool := b.occupied && !b.cycleComplete

/-- Locking ends in Locked (R87). -/
def lockBerth (i : Idx4) (s : State) : State :=
  let b := s.berth i
  cycleTest i (lockedNotice i b.completes (changeBerth i { b with
    state := .locked, timer := recoveryTimer b, cycleComplete := b.cycleComplete || b.completes } s))

/-- Entry to Locking; a lock-confirm already active counts as its arrival (R87). -/
def startLocking (i : Idx4) (s : State) : State :=
  let t := changeBerth i { s.berth i with state := .locking, timer := some (.lock, (s.berth i).settings.tLock) } s
  if (t.berth i).senses.lockConfirm then lockBerth i t else t

/-- The recovery timer expires (R82). -/
def recoveryExpired (i : Idx4) (s : State) : State :=
  if (s.berth i).state = .locked ∧ timerRuns s i .recovery then
    cycleTest i (s.setBerth i { s.berth i with timer := none })
  else s

/-- t_unlock expires (R83). -/
def unlockExpired (i : Idx4) (s : State) : State :=
  if (s.berth i).state = .unlocking ∧ timerRuns s i .unlock then
    if (s.berth i).senses.lockConfirm then fault i .unlockFailed s
    else
      let t := changeBerth i { s.berth i with state := .unlocked, timer := none } s
      if (s.berth i).mode = .auto then request i .opening t else t
  else s

/-- On entering Open: the dwell, or after a reversal a Close request (R85). -/
def openEntered (i : Idx4) (s : State) : State :=
  let b := s.berth i
  if b.mode = .auto ∧ b.holdOpen = false then
    if b.reopens = 0 then s.setBerth i { b with timer := some (.dwell, b.settings.dwell * 1000) }
    else request i .closing s
  else s

/-- The Opening run timer expires (R84). -/
def openingExpired (i : Idx4) (s : State) : State :=
  if (s.berth i).state = .opening ∧ timerRuns s i .run then
    if (s.berth i).motionSeen then
      openEntered i (supplyTest (changeBerth i { s.berth i with state := .opened, grant := false, timer := none } s))
    else fault i .motionIncomplete s
  else s

/-- The dwell expires (R85). -/
def dwellExpired (i : Idx4) (s : State) : State :=
  if (s.berth i).state = .opened ∧ timerRuns s i .dwell then
    request i .closing (s.setBerth i { s.berth i with timer := none })
  else s

def closeEvent (s : State) (i : Idx4) : CounterEvent :=
  { code := 6, carrier := berthCarrier s i, value := (s.berth i).closeTime.getD 0 }

/-- The Closing run timer expires (R86). -/
def closingExpired (i : Idx4) (s : State) : State :=
  if (s.berth i).state = .closing ∧ timerRuns s i .run then
    if (s.berth i).motionSeen then
      let t := supplyTest (changeBerth i { s.berth i with state := .closed, grant := false, timer := none } s)
      let u := offerEvent (closeEvent t i) t
      if (s.berth i).mode = .auto then startLocking i u else u
    else fault i .motionIncomplete s
  else s

/-- t_lock expires with no arrival (R87). -/
def lockExpired (i : Idx4) (s : State) : State :=
  if (s.berth i).state = .locking ∧ timerRuns s i .lock then fault i .lockTimeout s else s

/-- A homing run timer expires (R98). -/
def homingExpired (i : Idx4) (s : State) : State :=
  let b := s.berth i
  if b.state = .homing ∧ b.grant ∧ timerRuns s i .run then
    if b.homingRun ≤ 1 then
      s.setBerth i { b with homingRun := 2, timer := some (.run, b.settings.tClose) }
    else if b.senses.lockConfirm then
      cycleTest i (lockedNotice i false (supplyTest (changeBerth i { b with
        state := .locked, grant := false, homingRun := 0, timer := recoveryTimer b } s)))
    else fault i .homeNoLock s
  else s

/-- The start gap passes (R94). -/
def gapExpired (s : State) : State :=
  match s.supply.sinceGrant with
  | none => s
  | some t => supplyTest { s with supply := { s.supply with sinceGrant := some (max t s.supply.gap) } }

/-! ### Senses (R79) -/

/-- motion-complete changes its level: an arrival in Opening or Closing is seen, and the first one in Closing
records the close time (R84, R86). -/
def motionCompleteSense (i : Idx4) (active : Bool) (s : State) : State :=
  let b := s.berth i
  let b1 := { b with senses := { b.senses with motionComplete := active } }
  if active && !b.senses.motionComplete && (decide (b.state = .opening) || decide (b.state = .closing)) then
    s.setBerth i { b1 with
      motionSeen := true
      closeTime := if b.state = .closing ∧ b.closeTime = none then some b.motionElapsed else b.closeTime }
  else s.setBerth i b1

/-- lock-confirm changes its level: an arrival in Locking ends it in Locked (R87). -/
def lockConfirmSense (i : Idx4) (active : Bool) (s : State) : State :=
  let b := s.berth i
  let t := s.setBerth i { b with senses := { b.senses with lockConfirm := active } }
  if active && !b.senses.lockConfirm && decide (b.state = .locking) then lockBerth i t else t

/-- obstruction changes its level: an arrival reverses a Closing (R88) and faults a homing run (R98). -/
def obstructionSense (i : Idx4) (active : Bool) (s : State) : State :=
  let b := s.berth i
  let t := s.setBerth i { b with senses := { b.senses with obstruction := active } }
  if active && !b.senses.obstruction then
    if b.state = .closing then reverse i t
    else if b.state = .homing ∧ b.grant then fault i .homingObstructed t
    else t
  else t

/-- drive-fault changes its level: an arrival enters Fault, or sets fault pending at a Locked berth during an
index step (R90, R91). -/
def driveFaultChange (i : Idx4) (active : Bool) (s : State) : State :=
  let b := s.berth i
  let t := s.setBerth i { b with senses := { b.senses with driveFault := active } }
  if active && !b.senses.driveFault && !decide (b.state = .fault) then
    if b.state = .locked ∧ s.track.step.isSome then
      if b.faultPending then t else changeBerth i { t.berth i with faultPending := true } t
    else fault i .driveFault t
  else t

/-! ### Occupancy and the end of an index step (R81, R91) -/

/-- A berth as an index-done leaves it, `got` saying whether it received a record (R81). -/
def Berth.occupy (got : Bool) (b : Berth) : Berth :=
  if got then
    if b.settings.role = .pass then
      { b with occupied := true, cycleComplete := true, doorsRan := false, reopens := 0 }
    else { b with occupied := true, cycleComplete := false, doorsRan := false, reopens := 0, holdOpen := false }
  else { b with occupied := false }

/-- The four berths as the track's places `p` occupy them. -/
def occupied (p : Quad (Option CarrierRec)) (q : Quad Berth) : Quad Berth :=
  ⟨q.v1.occupy p.v1.isSome, q.v2.occupy p.v2.isSome, q.v3.occupy p.v3.isSome, q.v4.occupy p.v4.isSome⟩

/-- The four berths take the occupancy of the track's places; a HoldOpen cleared is a Berth change. -/
def occupyBerths (s : State) : State := changeBerths (occupied s.track.berths s.berths) s

/-- Fault pending takes effect as the index-in-flight condition ends (R91). -/
def pendingFault (i : Idx4) (s : State) : State :=
  if (s.berth i).faultPending then fault i .driveFault s else s

/-- The faults pending at an index-done take effect from B1 to B4, each with its own Berth change (R91; DESIGN CHOICE,
log entry 27: the spec orders neither the entries to Fault nor the Berth changes). -/
def pendingFaults (s : State) : State :=
  pendingFault .i4 (pendingFault .i3 (pendingFault .i2 (pendingFault .i1 s)))

/-! ### Park and Wake (R97) -/

/-- A berth at the entry to Parked (R91, R97). -/
def Berth.park (b : Berth) : Berth :=
  if b.faultPending then b.faulted .driveFault
  else if b.state = .fault then b
  else { b with state := .parked, timer := none, grant := false, homingRun := 0 }

/-- The berths at the entry to Parked, the wait list emptied (R97). -/
def parkBerths (s : State) : State :=
  changeBerths (s.berths.map Berth.park) { s with supply := { s.supply with wait := [] } }

/-- A berth at the entry to Waking: from Parked to Homing (R97). -/
def Berth.home (b : Berth) : Berth :=
  if b.state = .parked then { b with state := .homing, homingRun := 0 } else b

/-- The Homing requests that the entry to Waking places (R97), which arrive in the order B1 to B4 (DESIGN CHOICE, log
entry 27: R97 does not order them). -/
def homingWaits (q : Quad Berth) : List (Idx4 × Motion) :=
  (Idx4.all.filter fun i => decide ((q.get i).state = .parked)).map fun i => (i, .homing)

/-- The berths at the entry to Waking, their Homing requests placed (R97). -/
def homeBerths (s : State) : State :=
  supplyTest (changeBerths (s.berths.map Berth.home)
    { s with supply := { s.supply with wait := s.supply.wait ++ homingWaits s.berths } })

/-! ### The freeze (R96) -/

/-- The end of the freeze: the supply, the due cycles and the index start are tested (R55, R82, R96). -/
def thaw (s : State) : State := indexTest (cycleTests (supplyTest s))

/-! ### Requests to the berth controller -/

def roleOf? : Nat → Option Role
  | 0 => some .unload
  | 1 => some .load
  | 2 => some .both
  | 3 => some .pass
  | _ => none

/-- The ranges of Table 4-3. -/
def berthInRange (r : BerthRequest) : Bool :=
  decide (100 ≤ r.tUnlock) && decide (r.tUnlock ≤ 3000) && decide (500 ≤ r.tOpen) && decide (r.tOpen ≤ 5000) &&
    decide (2 ≤ r.dwell) && decide (r.dwell ≤ 120) && decide (500 ≤ r.tClose) && decide (r.tClose ≤ 5000) &&
    decide (100 ≤ r.tLock) && decide (r.tLock ≤ 3000) && decide (r.tRecover ≤ 5000) &&
    decide (1 ≤ r.maxReopens) && decide (r.maxReopens ≤ 5)

def berthSettings (role : Role) (r : BerthRequest) : BerthSettings :=
  { role := role, tUnlock := r.tUnlock, tOpen := r.tOpen, dwell := r.dwell, tClose := r.tClose,
    tLock := r.tLock, tRecover := r.tRecover, maxReopens := r.maxReopens }

/-- The settings of an accepted SetBerth in place; a role change to Pass on a Locked occupied berth with its
cycle incomplete completes it at once (R78). -/
def placeSettings (i : Idx4) (set : BerthSettings) (s : State) : State :=
  let b := s.berth i
  if b.state = .locked ∧ b.occupied ∧ b.cycleComplete = false ∧ b.settings.role ≠ .pass ∧ set.role = .pass then
    cycleNotice i false 0 (s.setBerth i { b with
      settings := set, cycleComplete := true, doorsRan := false, reopens := 0 })
  else s.setBerth i { b with settings := set }

/-- SetBerth (R78). -/
def doSetBerth (n : Nat) (r : BerthRequest) (s : State) : State × ReplyResult :=
  match idxOf? n, roleOf? r.role with
  | some i, some role =>
    if berthInRange r then
      if (s.berth i).state = .parked ∨ (s.berth i).state = .locked ∨ (s.berth i).state = .fault then
        done (placeSettings i (berthSettings role r) s)
      else refuse .busy s
    else refuse .range s
  | _, _ => refuse .range s

/-- SetMotion (R94). -/
def doSetMotion (gap : Nat) (s : State) : State × ReplyResult :=
  if gap ≤ 2000 then done (supplyTest { s with supply := { s.supply with gap := gap } }) else refuse .range s

/-- The berth commands, in the order of their codes (R195). -/
inductive BerthCommand where
  | unlock | opening | closing | lock | holdOpen | endDwell | reopen | skipCycle | clearFault | setMode
deriving DecidableEq, Repr

def berthCommandOf? : Nat → Option BerthCommand
  | 0 => some .unlock
  | 1 => some .opening
  | 2 => some .closing
  | 3 => some .lock
  | 4 => some .holdOpen
  | 5 => some .endDwell
  | 6 => some .reopen
  | 7 => some .skipCycle
  | 8 => some .clearFault
  | 9 => some .setMode
  | _ => none

def modeOf? : Nat → Option BerthMode
  | 0 => some .auto
  | 1 => some .manual
  | _ => none

/-- Unlock (R100, Table 4-5). -/
def commandUnlock (i : Idx4) (s : State) : State × ReplyResult :=
  let b := s.berth i
  if b.state = .locked ∧ b.mode = .manual ∧ b.timer = none ∧ s.track.step = none then
    if s.run.state = .waking then refuse .state s else done (changeBerth i b.unlocking s)
  else refuse .busy s

/-- Open (R100). -/
def commandOpen (i : Idx4) (s : State) : State × ReplyResult :=
  let b := s.berth i
  if (b.state = .unlocked ∨ b.state = .closed) ∧ b.mode = .manual then done (request i .opening s)
  else refuse .busy s

/-- HoldOpen cleared, with the Berth change of its clearing (R85, R103). -/
def clearHoldOpen (i : Idx4) (s : State) : State :=
  if (s.berth i).holdOpen then changeBerth i { s.berth i with holdOpen := false } s else s

/-- Close (R100). -/
def commandClose (i : Idx4) (s : State) : State × ReplyResult :=
  let b := s.berth i
  if b.state = .opened ∧ b.mode = .manual then done (request i .closing (clearHoldOpen i s)) else refuse .busy s

/-- Lock (R100). -/
def commandLock (i : Idx4) (s : State) : State × ReplyResult :=
  let b := s.berth i
  if (b.state = .unlocked ∨ b.state = .closed) ∧ b.mode = .manual then
    done (startLocking i (withdrawRequest i s))
  else refuse .busy s

/-- HoldOpen (R85, R101): in Open it stops the dwell and withdraws a waiting Close. -/
def commandHoldOpen (i : Idx4) (s : State) : State × ReplyResult :=
  let b := s.berth i
  if b.state = .opening ∨ b.state = .opened then
    if b.holdOpen then done s
    else if b.state = .opened then
      done (changeBerth i { b with holdOpen := true, timer := none } (withdrawRequest i s))
    else done (changeBerth i { b with holdOpen := true } s)
  else refuse .busy s

/-- EndDwell (R101). -/
def commandEndDwell (i : Idx4) (s : State) : State × ReplyResult :=
  let b := s.berth i
  if b.state = .opened then
    if waits s i .closing then done s
    else
      let t := s.setBerth i { b with timer := none }
      done (request i .closing (clearHoldOpen i t))
  else refuse .busy s

/-- Reopen (R101). -/
def commandReopen (i : Idx4) (s : State) : State × ReplyResult :=
  let b := s.berth i
  if b.state = .closing then done (reverse i s)
  else if b.state = .closed then done (request i .opening (countReversal i s))
  else refuse .busy s

/-- SkipCycle (R102). -/
def commandSkipCycle (i : Idx4) (s : State) : State × ReplyResult :=
  let b := s.berth i
  if b.state = .locked ∧ b.occupied ∧ b.cycleComplete = false then
    done (cycleNotice i false 0 (s.setBerth i { b with cycleComplete := true }))
  else refuse .busy s

/-- ClearFault (R92). -/
def commandClearFault (i : Idx4) (s : State) : State × ReplyResult :=
  let b := s.berth i
  if b.state = .fault then
    if b.senses.driveFault then refuse .permissive s
    else if s.run.state = .parked then done (changeBerth i { b with state := .parked, reason := .none } s)
    else done (request i .homing (changeBerth i { b with state := .homing, reason := .none, homingRun := 0 } s))
  else refuse .busy s

/-- SetMode (R102). -/
def commandSetMode (i : Idx4) (m : BerthMode) (s : State) : State × ReplyResult :=
  let b := s.berth i
  if b.state = .locked then
    if b.mode = m then done s else done (cycleTest i (changeBerth i { b with mode := m } s))
  else refuse .busy s

/-- A legal berth command on a berth that is neither Parked nor Homing (R99). -/
def berthCommand (i : Idx4) (c : BerthCommand) (m : Option BerthMode) (s : State) : State × ReplyResult :=
  match c with
  | .unlock => commandUnlock i s
  | .opening => commandOpen i s
  | .closing => commandClose i s
  | .lock => commandLock i s
  | .holdOpen => commandHoldOpen i s
  | .endDwell => commandEndDwell i s
  | .reopen => commandReopen i s
  | .skipCycle => commandSkipCycle i s
  | .clearFault => commandClearFault i s
  | .setMode =>
    match m with
    | some mode => commandSetMode i mode s
    | none => refuse .range s

/-- BerthCommand (R99). -/
def doBerthCommand (n command mode : Nat) (s : State) : State × ReplyResult :=
  match idxOf? n, berthCommandOf? command with
  | some i, some c =>
    if c = .setMode ∧ modeOf? mode = none then refuse .range s
    else if (s.berth i).state = .parked ∨ (s.berth i).state = .homing then refuse .state s
    else berthCommand i c (modeOf? mode) s
  | _, _ => refuse .range s

end Sys2Proof.Machine
end

