-- ==== Sys2Proof/Machine/Bytes.lean ====
section
/-! DEFINITION. Bytes: the field codings of Table 11-1, the CRC of R157, the records of the drive and test rail
ports (R198), the frames of the tower string (Table 11-6) and of the summit line (Tables 11-4 and 11-5). -/

namespace Sys2Proof.Machine

open Config

/-! ### Field codings (Table 11-1) -/

/-- A small number, an enumeration or a flags byte. -/
def byte (n : Nat) : Byte := BitVec.ofNat 8 n

def byte1 (n : Nat) : List Byte := [byte n]

/-- A quantity: two bytes, high byte first. -/
def byte2 (n : Nat) : List Byte := [byte (n / 256), byte n]

/-- A set of three bytes, high byte first. -/
def byte3 (n : Nat) : List Byte := [byte (n / 65536), byte (n / 256), byte n]

/-- A long: four bytes, high byte first. -/
def byte4 (n : Nat) : List Byte := [byte (n / 16777216), byte (n / 65536), byte (n / 256), byte n]

/-- A signed quantity, in two's complement. -/
def int2 (n : Int) : List Byte := byte2 (BitVec.ofInt 16 n).toNat

/-- A signed long, in two's complement. -/
def int4 (n : Int) : List Byte := byte4 (BitVec.ofInt 32 n).toNat

def travel4 (t : Travel) : List Byte := byte4 t.toNat

/-- An optional two-byte field, 0xFFFF where absent. -/
def opt2 : Option Nat → List Byte
  | some n => byte2 n
  | none => byte2 0xFFFF

/-- An optional four-byte field, preceded by its presence byte; 0 where absent. -/
def optInt4 : Option Int → List Byte
  | some n => byte 1 :: int4 n
  | none => byte 0 :: int4 0

def optTravel : Option Travel → List Byte
  | some t => byte 1 :: travel4 t
  | none => byte 0 :: byte4 0

def bit (b : Bool) (n : Nat) : Nat := if b then 2 ^ n else 0

/-- A flags byte, bit 0 first. -/
def flags (bs : List Bool) : Nat := (bs.zipIdx.map fun p => bit p.1 p.2).sum

/-- A set coded as bits at its members' positions. -/
def setBits {α : Type} [DecidableEq α] (all set : List α) : Nat :=
  flags (all.map fun x => decide (x ∈ set))

/-- A set of berth or watch numbers, bit n − 1 for n. -/
def idxBits (set : List Idx4) : Nat := setBits Idx4.all set

def nat1 (b : Byte) : Nat := b.toNat

/-- The value of a two-byte field, high byte first. -/
def nat2 (hi lo : Byte) : Nat := hi.toNat * 256 + lo.toNat

/-! ### The CRC (R157) -/

/-- One bit of a byte enters the register, which shifts toward its least significant bit. -/
def crcBit (reg : BitVec 16) (b : Bool) : BitVec 16 :=
  if (reg.getLsbD 0) != b then (reg >>> 1) ^^^ 0x8408#16 else reg >>> 1

/-- A byte enters the register, least significant bit first. -/
def crcByte (reg : BitVec 16) (b : Byte) : BitVec 16 :=
  [0, 1, 2, 3, 4, 5, 6, 7].foldl (fun r n => crcBit r (b.getLsbD n)) reg

/-- The register after the bytes, preset to all ones. -/
def crcRegister (bytes : List Byte) : BitVec 16 := bytes.foldl crcByte 0xFFFF#16

/-- The CRC value as it is sent: the ones' complement of the register. -/
def crc (bytes : List Byte) : BitVec 16 := ~~~ crcRegister bytes

/-- The CRC high byte first, as every port but the summit line sends it. -/
def crcHighFirst (bytes : List Byte) : List Byte := byte2 (crc bytes).toNat

/-- The FCS low byte first, as the summit line sends it (section 11.3). -/
def fcs (bytes : List Byte) : List Byte := [byte (crc bytes).toNat, byte ((crc bytes).toNat / 256)]

/-! ### Records of the drive and test rail ports (Table 11-9, R198) -/

/-- A drive status record that matches its format gives the ready and fault flags as the governor takes them:
a set fault bit is not ready whatever bit 0 holds. -/
def parseStatus : List Byte → Option DriveStatus
  | [code, fl, c1, c2] =>
    if code = 0xD2#8 ∧ [c1, c2] = crcHighFirst [code, fl] then
      some { ready := fl.getLsbD 0 && !fl.getLsbD 1, fault := fl.getLsbD 1 }
    else none
  | _ => none

def statusRecord (ready fault : Bool) : List Byte :=
  let body := [0xD2#8, byte (flags [ready, fault])]
  body ++ crcHighFirst body

/-- A grip test result record that matches its format gives its force. -/
def parseGrip : List Byte → Option Nat
  | [code, hi, lo, c1, c2] =>
    if code = 0xE1#8 ∧ [c1, c2] = crcHighFirst [code, hi, lo] then some (nat2 hi lo) else none
  | _ => none

def gripRecord (force : Nat) : List Byte :=
  let body := 0xE1#8 :: byte2 force
  body ++ crcHighFirst body

/-- The drive command record as it stands on the drive port (Table 11-9). -/
def commandRecord (c : DriveCommand) : List Byte :=
  let body := 0xD1#8 :: (byte2 c.reference ++ byte1 (flags [c.brakeRelease, c.trip]))
  body ++ crcHighFirst body

/-! ### Frames of the tower string (Table 11-6, R197) -/

/-- A poll frame. -/
def pollFrame (address number : Nat) : List Byte :=
  let body := [byte (0x80 + address), byte number]
  body ++ crcHighFirst body

/-- What a reply frame of good format says: address, poll number, and the reply codes of the four points. -/
structure TowerFrame where
  address : Nat
  number  : Nat
  codes   : Quad Nat
deriving DecidableEq, Repr

/-- The bytes between two idles of the string as a reply frame: none for a bad format or a bad CRC (R127,
R197). -/
def parseReply : List Byte → Option TowerFrame
  | [a, n, x, y, c1, c2] =>
    if a.getLsbD 7 = false ∧ a ≠ 0#8 ∧ [c1, c2] = crcHighFirst [a, n, x, y] then
      some { address := a.toNat, number := n.toNat,
             codes := ⟨x.toNat % 16, x.toNat / 16, y.toNat % 16, y.toNat / 16⟩ }
    else none
  | _ => none

def replyFrame (f : TowerFrame) : List Byte :=
  let body := [byte f.address, byte f.number, byte (f.codes.v1 + 16 * f.codes.v2),
    byte (f.codes.v3 + 16 * f.codes.v4)]
  body ++ crcHighFirst body

/-- The code a reply's nibble stands for; 5 to 15 are taken as Broken (R129). -/
def replyCode : Nat → PointCode
  | 0 => .normal
  | 1 => .offsetIn
  | 2 => .offsetOut
  | 3 => .out
  | _ => .broken

/-! ### Frames of the summit line (Tables 11-4 and 11-5) -/

def runCode : RunState → Nat
  | .parked => 0
  | .waking => 1
  | .stopped => 2
  | .starting => 3
  | .running => 4
  | .stopping => 5
  | .tripped => 6

def runOf? : Nat → Option RunState
  | 0 => some .parked
  | 1 => some .waking
  | 2 => some .stopped
  | 3 => some .starting
  | 4 => some .running
  | 5 => some .stopping
  | 6 => some .tripped
  | _ => none

def stopCode : StopClass → Nat
  | .clear => 0
  | .service => 1
  | .emergency => 2

def stopOf? : Nat → Option StopClass
  | 0 => some .clear
  | 1 => some .service
  | 2 => some .emergency
  | _ => none

def signalCode : Signal → Nat
  | .ring => 1
  | .answer => 2
  | .clear => 3

def signalOf? : Nat → Option Signal
  | 1 => some .ring
  | 2 => some .answer
  | 3 => some .clear
  | _ => none

/-- The Beat state byte. -/
def beatState (b : ValleyBeat) : Nat :=
  bit b.loopOpen 0 + 2 * stopCode b.stop + bit b.ready 3 + 16 * runCode b.run

/-- The kind code of a frame the valley sends (Table 11-4). -/
def SentFrame.kind : SentFrame → Nat
  | .beat _ _ => 1
  | .control (.passage _) => 2
  | .control (.callSignal _ _) => 3
  | .voice _ => 4
  | .notice _ => 5

/-- The class of a frame in transmission (Table 8-2). -/
def SentFrame.cls : SentFrame → LineClass
  | .beat _ _ => .safety
  | .voice _ => .voice
  | .control _ => .control
  | .notice _ => .bulk

/-- The info field of a frame the valley sends (Table 11-5). -/
def SentFrame.info : SentFrame → List Byte
  | .beat n b => byte1 n ++ byte1 (beatState b) ++ byte2 0 ++ byte2 0xFFFF ++ int2 b.speed
  | .control (.passage n) => [byte 1, byte n, byte 0, byte 0]
  | .control (.callSignal sig id) => [byte (signalCode sig), byte id]
  | .voice f => byte f.id :: byte f.sequence :: f.block
  | .notice text => text

/-- The body of a frame: station code, control byte, info field and FCS (R157). -/
def SentFrame.body (f : SentFrame) : List Byte :=
  let station := match f with
    | .notice _ => byte 15
    | _ => byte 2
  let front := station :: byte f.kind :: f.info
  front ++ fcs front

/-- A byte's bits, least significant first (section 11.3). -/
def byteBits (b : Byte) : List Bool := [0, 1, 2, 3, 4, 5, 6, 7].map fun n => b.getLsbD n

/-- Zero insertion: a 0 after every five consecutive ones; `ones` have just been sent (R157). -/
def stuff : Nat → List Bool → List Bool
  | _, [] => []
  | ones, b :: bs =>
    if b then
      if ones = 4 then true :: false :: stuff 0 bs else true :: stuff (ones + 1) bs
    else false :: stuff 0 bs

/-- The bits of a body as the pair carries them (R157). -/
def wireBits (body : List Byte) : List Bool := stuff 0 (body.flatMap byteBits)

def bitsByte (bs : List Bool) : Byte := byte (flags bs)

/-- The bytes of a run of bits, least significant bit first, and the bits left over. -/
def bitsBytes : Nat → List Bool → List Byte
  | 0, _ => []
  | n + 1, bs => bitsByte (bs.take 8) :: bitsBytes n (bs.drop 8)

/-- What a received body is, by the four tests of R159 in their order. -/
inductive Received where
  | bad (e : FrameFault)
  | elsewhere
  | beat (b : BeatFields)
  | passage (departed : Bool) (number metres : Nat)
  | callSignal (signal : Signal) (id : Nat)
  | voice (id sequence : Nat) (block : List Byte)
  | notice (text : List Byte)
deriving DecidableEq, Repr

/-- A Beat's info field (R196): bit 7 of the state byte is ignored. -/
def parseBeat : List Byte → Option BeatFields
  | [n, st, c1, c2, w1, w2, v1, v2] =>
    match stopOf? (st.toNat / 2 % 4), runOf? (st.toNat / 16 % 8) with
    | some cls, some run =>
      some { number := n.toNat, loopOpen := st.getLsbD 0, stop := cls, ready := st.getLsbD 3, run := run,
             ceiling := nat2 c1 c2, wind := nat2 w1 w2, speed := (BitVec.ofNat 16 (nat2 v1 v2)).toInt }
    | _, _ => none
  | _ => none

/-- The kind and format test (R159, R196). -/
def parseInfo (control : Nat) (info : List Byte) : Received :=
  match control, info with
  | 1, info =>
    match parseBeat info with
    | some b => .beat b
    | none => .bad .format
  | 2, [k, n, _, m] =>
    if k = 2#8 then .passage false n.toNat m.toNat
    else if k = 3#8 then .passage true n.toNat m.toNat
    else .bad .format
  | 3, [sig, id] =>
    match signalOf? sig.toNat with
    | some x => .callSignal x id.toNat
    | none => .bad .format
  | 4, id :: sq :: block => if block.length = 40 then .voice id.toNat sq.toNat block else .bad .format
  | 5, info => if 1 ≤ info.length ∧ info.length ≤ 64 then .notice info else .bad .format
  | _, _ => .bad .format

/-- A received body of whole bytes, tested by R159. -/
def parseBody (body : List Byte) : Received :=
  if body.length < bodyMin ∨ bodyMax < body.length then .bad .length
  else
    let front := body.take (body.length - 2)
    if body.drop (body.length - 2) ≠ fcs front then .bad .fcs
    else
      match front with
      | station :: control :: info =>
        if station = 1#8 ∨ station = 15#8 then parseInfo control.toNat info else .elsewhere
      | _ => .bad .length

/-- The bits received between two flags, inserted zeros removed, tested by R159. -/
def parseBits (bits : List Bool) : Received :=
  if bits.length % 8 ≠ 0 then .bad .length else parseBody (bitsBytes (bits.length / 8) bits)

end Sys2Proof.Machine
end

