-- ==== Sys2Proof/Machine/Track.lean ====
section
/-! DEFINITION. The track controller (chapter 3): the buffer count, the launch gate and the release, the launch
in flight, the index step's limit and end, and the track requests. -/

namespace Sys2Proof.Machine

open Config

def carrierReport (e : CarrierEvent) (p : Place) (r : CarrierRec) : Report := .carrier e r.number p r.marks

/-! ### The buffer count (R54) -/

/-- The Track ceiling as the buffer count stands against the slow threshold (R54). -/
def trackCeilingTest (s : State) : State :=
  setCeiling .track (decide (s.track.settings.slow ≤ s.track.buffer.length)) s

/-- The buffer count has changed from `before`: the Track ceiling, and TrackFull at 6 (R54). A Declare that moves a
record within the buffer leaves the count as it was, and nothing follows (DESIGN CHOICE, log entry 25: R73 does not say
whether the removal and the placing each count). -/
def bufferChanged (before : Nat) (s : State) : State :=
  if s.track.buffer.length = before then s
  else if s.track.buffer.length = bufferPlaces then raise .trackFull (trackCeilingTest s)
  else trackCeilingTest s

/-! ### The launch gate and the release (R60 to R62) -/

/-- The marks that block a release (R60). -/
def blocked (r : CarrierRec) : Bool :=
  decide (Mark.stranger ∈ r.marks) || decide (Mark.duplicate ∈ r.marks) || decide (Mark.stuck ∈ r.marks) ||
    decide (Mark.held ∈ r.marks)

/-- The seven conditions of R60 on the launch berth's record `r`. -/
def gateOpen (s : State) (r : CarrierRec) : Bool :=
  decide (s.run.state = .running) && decide ((s.track.settings.vMin : Int) ≤ s.update.v) &&
    decide ((s.track.settings.spacing : Int) * 1000 ≤ travelDiff s.update.t s.track.releaseMark) &&
    s.track.launch.isNone && decide (s.roster.records.length < rosterMax) && !blocked r && !s.track.inhibit

/-- The release of the launch berth's record (R62). -/
def release (r : CarrierRec) (s : State) : State :=
  let t := s.update.t
  let s1 : State := { s with track := { s.track with
    releaseMark := t, launch := some { r with releaseTravel := some t }, launchBerth := none,
    launchCommand := true } }
  let s2 := offerControl (.passage r.number) s1
  let s3 := offerEvent { code := 1, carrier := carrierOf r.number r.marks } s2
  indexTest (queueReport (carrierReport (.released t) .launchRecord r) s3)

/-- The launch gate is tested (R60). -/
def gateTest (s : State) : State :=
  match s.track.launchBerth with
  | some r => if gateOpen s r then release r s else s
  | none => s

/-- The release mark drawn forward during a long period without releases (R61). -/
def markLimit (s : State) : State :=
  if travelSaturation < travelDiff s.update.t s.track.releaseMark then
    { s with track := { s.track with releaseMark := travelAdd s.update.t (-travelSaturation) } }
  else s

/-! ### The launch in flight (R63 to R66, R73) -/

/-- A record as the roster takes it (R105, R107): Outbound, anchored at T. -/
def rosterRecord (t : Travel) (cls : GripClass) (r : CarrierRec) : RosterRec :=
  { carrier := r.unmark [.skipped], gripClass := cls, leg := .outbound, anchor := t, position := 0,
    prevCoord := none, updateCoord := none, overdue := false, exempt := [] }

/-- The launch record `r` joins the roster's tail and the launch is no longer in flight (R64). -/
def completeLaunch (cls : GripClass) (r : CarrierRec) (s : State) : State :=
  gateTest { s with
    roster := { s.roster with records := s.roster.records ++ [rosterRecord s.update.t cls r] }
    track := { s.track with launch := none, launchCommand := false } }

/-- The class of a force (R63). -/
def gripClass (set : TrackSettings) (force : Nat) : GripClass :=
  if set.fOk ≤ force then .good else if set.fMin ≤ force then .marginal else .fail

/-- The launch record with its force and grip marks (R63). -/
def tested (cls : GripClass) (force : Nat) (r : CarrierRec) : CarrierRec :=
  let r1 := { r.unmark [.marginal, .gripFail, .noTest] with force := some force }
  match cls with
  | .marginal => r1.mark .marginal
  | .fail => r1.mark .gripFail
  | _ => r1

/-- What the class of a result brings besides its mark (R63). -/
def gripEffect (cls : GripClass) (carrier : Option (Nat × Bool)) (s : State) : State :=
  match cls with
  | .marginal => offerEvent { code := 3, carrier := carrier } s
  | .fail => raise .gripFail s
  | _ => s

def discardInput (s : State) : State :=
  { s with track := { s.track with discarded := satInc s.track.discarded } }

/-- A grip test result of good format (R63, R66). The report of an Unexpected result concerns no record: it carries the
place none and no marks (DESIGN CHOICE, log entry 25). -/
def gripResult (received : Nat) (s : State) : State :=
  match s.track.launch with
  | none =>
    queueReport (.carrier (.launchResult (some received) .unexpected) 0 .none []) (discardInput s)
  | some r =>
    let force := min received forceMax
    let cls := gripClass s.track.settings force
    let r1 := tested cls force r
    let carrier := carrierOf r1.number r1.marks
    let s1 := gripEffect cls carrier { s with track := { s.track with launch := some r1 } }
    let s2 := offerEvent { code := 4, carrier := carrier, value := force } s1
    completeLaunch cls r1 (queueReport (carrierReport (.launchResult (some force) cls) .launchRecord r1) s2)

/-- A record on the test rail port (R66, R198): one that does not match its format is discarded and counted. -/
def testRecord (record : List Byte) (s : State) : State :=
  match parseGrip record with
  | some force => gripResult force s
  | none => discardInput s

/-- The record of a launch that ends without a result, its force absent (R65, R73, R119). Until then a record in
flight keeps the force of its previous launch, since R62 lists no change of it (DEDUCED, log entry 26). -/
def untested (r : CarrierRec) : CarrierRec :=
  { (r.unmark [.marginal, .gripFail]).mark .noTest with force := none }

/-- The launch of `r` ends as NoTest; `raises` says whether LostLaunch is raised (R65, R73). -/
def endUntested (raises : Bool) (r : CarrierRec) (s : State) : State :=
  let r1 := untested r
  let s1 : State := { s with track := { s.track with launch := some r1 } }
  let s2 := if raises then raise .lostLaunch s1 else s1
  completeLaunch .noTest r1 (queueReport (carrierReport (.launchResult none .noTest) .launchRecord r1) s2)

/-- The lost-launch limit at a travel update (R65). -/
def lostLaunchTest (s : State) : State :=
  match s.track.launch with
  | some r =>
    if lostLaunch ≤ travelDiff s.update.t (r.releaseTravel.getD s.update.t) then endUntested true r s else s
  | none => s

/-- The track controller takes the travel update (R60, R61, R65). -/
def trackTravel (s : State) : State := gateTest (lostLaunchTest (markLimit s))

/-! ### The index step's limit and end (R57, R58) -/

/-- The index step's time limit expires, once, unless it is frozen (R57). -/
def indexLimitExpired (s : State) : State :=
  match s.track.step with
  | some st =>
    if st.expired || s.run.platformStop then s
    else raise .indexJam { s with track := { s.track with step := some ⟨0, true⟩ } }
  | none => s

/-- The places shifted forward by one (R58). -/
def Track.shift (k : Track) : Track :=
  { k with
    launchBerth := k.berths.v4
    berths := ⟨k.buffer.head?, k.berths.v1, k.berths.v2, k.berths.v3⟩
    buffer := k.buffer.tail
    step := none
    indexCommand := false }

/-- Index-done (R58, R81, R91). -/
def indexDone (s : State) : State :=
  match s.track.step with
  | none => discardInput s
  | some _ =>
    let s1 := occupyBerths { s with track := s.track.shift }
    let s2 := cycleTests (pendingFaults s1)
    let s3 := offerEvent { code := 16 } (bufferChanged s.track.buffer.length s2)
    indexTest (gateTest s3)

/-- At the entry to Parked an index step in flight ends without a shift (R57). Its report concerns no one record: it
carries the number 0, the place none and no marks (DESIGN CHOICE, log entry 25). -/
def cancelIndex (s : State) : State :=
  match s.track.step with
  | none => s
  | some _ =>
    queueReport (.carrier .indexCancelled 0 .none [])
      { s with track := { s.track with step := none, indexCommand := false } }

/-! ### Records by number (R68) -/

/-- Every record with its place: the buffer from its head, the berths, the launch berth, the launch record and
the roster from its head. -/
def placed (s : State) : List (Place × CarrierRec) :=
  s.track.buffer.map (fun r => (Place.buffer, r)) ++
    (Idx4.all.filterMap fun i => (s.track.berths.get i).map fun r => (Place.berth i, r)) ++
    (s.track.launchBerth.toList.map fun r => (Place.launchBerth, r)) ++
    (s.track.launch.toList.map fun r => (Place.launchRecord, r)) ++
    s.roster.records.map (fun r => (Place.roster, r.carrier))

def bearers (n : Nat) (s : State) : List (Place × CarrierRec) :=
  (placed s).filter fun p => decide (p.2.number = n)

/-- The lookup of R68: the one record that bears the number, or the refusal. -/
def lookup (n : Nat) (s : State) : Except Reason (Place × CarrierRec) :=
  if n = 0 ∨ 250 < n then .error .range
  else
    match bearers n s with
    | [] => .error .notFound
    | [p] => .ok p
    | _ => .error .conflict

/-- A request that names a carrier, on the record the lookup finds (R68). -/
def withNamed (n : Nat) (s : State) (act : Place → CarrierRec → State × ReplyResult) : State × ReplyResult :=
  match lookup n s with
  | .ok (p, r) => act p r
  | .error e => refuse e s

def onNumber (n : Nat) (f : CarrierRec → CarrierRec) (r : CarrierRec) : CarrierRec :=
  if r.number = n then f r else r

/-- Every record that bears `n` changed by `f`, wherever it stands. -/
def modifyNamed (n : Nat) (f : CarrierRec → CarrierRec) (s : State) : State :=
  { s with
    track := { s.track with
      buffer := s.track.buffer.map (onNumber n f)
      berths := s.track.berths.map (Option.map (onNumber n f))
      launchBerth := s.track.launchBerth.map (onNumber n f)
      launch := s.track.launch.map (onNumber n f) }
    roster := { s.roster with records := s.roster.records.map fun x => { x with carrier := onNumber n f x.carrier } } }

/-- The launch gate is tested where the request touched the launch berth's record. -/
def gateTestAt (p : Place) (s : State) : State := if p = .launchBerth then gateTest s else s

/-! ### Track requests (R69 to R74) -/

/-- Hold (R69). -/
def doHold (n : Nat) (s : State) : State × ReplyResult :=
  withNamed n s fun p r =>
    if p = .launchRecord then refuse .state s
    else if Mark.held ∈ r.marks then done s
    else
      let f := CarrierRec.mark .held
      done (gateTestAt p (queueReport (carrierReport .held p (f r)) (modifyNamed n f s)))

/-- Release (R70). -/
def doRelease (n : Nat) (s : State) : State × ReplyResult :=
  withNamed n s fun p r =>
    let f := CarrierRec.unmark [.held, .stranger, .stuck, .duplicate]
    done (gateTestAt p (queueReport (carrierReport .freed p (f r)) (modifyNamed n f s)))

/-- Renumber (R71). The number field of its report is the new number, beside the event's own fields of the old and
the new one (DESIGN CHOICE, log entry 25). -/
def doRenumber (n new : Nat) (s : State) : State × ReplyResult :=
  withNamed n s fun p r =>
    if new = 0 ∨ 250 < new then refuse .range s
    else if new = n then done s
    else if !(bearers new s).isEmpty then refuse .conflict s
    else
      let f := fun x : CarrierRec => { x.unmark [.unread, .inferred] with number := new }
      done (gateTestAt p (queueReport (carrierReport (.renumbered n new) p (f r)) (modifyNamed n f s)))

/-- Mark (R71). -/
def doMark (n : Nat) (s : State) : State × ReplyResult :=
  withNamed n s fun _ _ => done (modifyNamed n (CarrierRec.mark .marked) s)

/-- Unmark (R71). -/
def doUnmark (n : Nat) (s : State) : State × ReplyResult :=
  withNamed n s fun _ _ => done (modifyNamed n (CarrierRec.unmark [.marked]) s)

/-- Garage (R72). -/
def doGarage (s : State) : State × ReplyResult :=
  match s.track.launchBerth with
  | none => refuse .notFound s
  | some r =>
    done (indexTest (queueReport (carrierReport .garaged .launchBerth r)
      { s with track := { s.track with launchBerth := none } }))

/-- InhibitLaunch (R72). -/
def doInhibit (on : Bool) (s : State) : State × ReplyResult :=
  let t : State := { s with track := { s.track with inhibit := on } }
  done (if on then t else indexTest (gateTest t))

/-- Abandon (R73). -/
def doAbandon (s : State) : State × ReplyResult :=
  if s.run.state = .stopped ∨ s.run.state = .tripped then
    match s.track.launch with
    | none => refuse .notFound s
    | some r => if s.gov.v = 0 then done (endUntested false r s) else refuse .permissive s
  else refuse .state s

/-- The places a Declare can name (R195). -/
def declarePlace? : Nat → Option Place
  | 0 => some .buffer
  | 1 => some (.berth .i1)
  | 2 => some (.berth .i2)
  | 3 => some (.berth .i3)
  | 4 => some (.berth .i4)
  | 5 => some .launchBerth
  | _ => none

/-- The records in the eleven places that bear a number. -/
def inPlaces (n : Nat) (s : State) : List CarrierRec :=
  ((bearers n s).filter fun p => !decide (p.1 = .launchRecord) && !decide (p.1 = .roster)).map Prod.snd

/-- The launch record or the roster bears a number. -/
def launchedBears (n : Nat) (s : State) : Bool :=
  (bearers n s).any fun p => decide (p.1 = .launchRecord) || decide (p.1 = .roster)

/-- The record a Declare makes (R73). -/
def declaredRecord (n : Nat) (t : Travel) : CarrierRec :=
  { number := n, marks := [], entryTravel := t, gripStuck := false, cycles := [], reopens := 0, force := none,
    releaseTravel := none }

/-- The places without the record that bears a number: the buffer closes up (R73). -/
def Track.without (n : Nat) (k : Track) : Track :=
  { k with
    buffer := k.buffer.filter fun r => !decide (r.number = n)
    berths := k.berths.map fun o => o.filter fun r => !decide (r.number = n)
    launchBerth := k.launchBerth.filter fun r => !decide (r.number = n) }

/-- A record put into a place (R73). -/
def Track.put (p : Place) (r : CarrierRec) (k : Track) : Track :=
  match p with
  | .buffer => { k with buffer := k.buffer ++ [r] }
  | .berth i => { k with berths := k.berths.set i (some r) }
  | .launchBerth => { k with launchBerth := some r }
  | _ => k

def Track.occupiedAt (p : Place) (k : Track) : Bool :=
  match p with
  | .berth i => (k.berths.get i).isSome
  | .launchBerth => k.launchBerth.isSome
  | _ => false

/-- A berth as a Declare leaves it: one that receives a record has its cycle complete, one that a record leaves
is empty (R73, R81). -/
def Berth.declared (before after : Bool) (b : Berth) : Berth :=
  if before = after then b
  else if after then { b with occupied := true, cycleComplete := true }
  else { b with occupied := false }

def declareBerths (before after : Quad (Option CarrierRec)) (q : Quad Berth) : Quad Berth :=
  ⟨q.v1.declared before.v1.isSome after.v1.isSome, q.v2.declared before.v2.isSome after.v2.isSome,
   q.v3.declared before.v3.isSome after.v3.isSome, q.v4.declared before.v4.isSome after.v4.isSome⟩

/-- An accepted Declare (R73). R54 applies to the count it leaves, as against the one it found: a move to the
buffer's tail from within the buffer changes no count (DESIGN CHOICE, log entry 25). -/
def placeDeclared (p : Place) (n : Nat) (s : State) : State :=
  let r := ((inPlaces n s).head?).getD (declaredRecord n s.update.t)
  let k := (s.track.without n).put p r
  let t : State := { s with track := k, berths := declareBerths s.track.berths k.berths s.berths }
  indexTest (gateTest (bufferChanged s.track.buffer.length t))

/-- Declare (R73). -/
def doDeclare (place n : Nat) (s : State) : State × ReplyResult :=
  if s.run.state ≠ .parked then refuse .state s
  else
    match declarePlace? place with
    | none => refuse .range s
    | some p =>
      if n = 0 ∨ 250 < n then refuse .range s
      else if launchedBears n s ∨ 1 < (inPlaces n s).length then refuse .conflict s
      else if p = .buffer ∧ bufferPlaces ≤ s.track.buffer.length then refuse .full s
      else if s.track.occupiedAt p then refuse .busy s
      else done (placeDeclared p n s)

/-- SetSpacing (R74). -/
def doSetSpacing (g vMin : Nat) (s : State) : State × ReplyResult :=
  if 20 ≤ g ∧ g ≤ 1000 ∧ 50 ≤ vMin ∧ vMin ≤ 400 then
    done (gateTest { s with track := { s.track with
      settings := { s.track.settings with spacing := g, vMin := vMin } } })
  else refuse .range s

/-- SetTrack (R74). -/
def doSetTrack (slow limit : Nat) (accept : Bool) (s : State) : State × ReplyResult :=
  if 3 ≤ slow ∧ slow ≤ 5 ∧ 2 ≤ limit ∧ limit ≤ 30 then
    done (trackCeilingTest { s with track := { s.track with
      settings := { s.track.settings with slow := slow, limit := limit, acceptUnlisted := accept } } })
  else refuse .range s

/-- SetGrip (R74). -/
def doSetGrip (fMin fOk : Nat) (s : State) : State × ReplyResult :=
  if 100 ≤ fMin ∧ fMin ≤ 4000 ∧ 100 ≤ fOk ∧ fOk ≤ 4000 ∧ fMin ≤ fOk then
    done { s with track := { s.track with settings := { s.track.settings with fMin := fMin, fOk := fOk } } }
  else refuse .range s

end Sys2Proof.Machine
end

