-- ==== Sys2Proof/Machine/Roster.lean ====
section
/-! DEFINITION. The rope roster (chapter 5): positions, Overdue and Missing, summit passages, the matching of
valley entries with the entry event itself (R52, R53), and the roster requests. -/

namespace Sys2Proof.Machine

open Config

/-! ### Positions (R107) -/

/-- A record's position in mm from a travel value (R107). -/
def positionOf (k : Roster) (t : Travel) (r : RosterRec) : Int :=
  match r.leg with
  | .outbound => travelDiff t r.anchor
  | .atSummit => (k.lUp : Int) * 1000
  | .inbound => (k.lUp : Int) * 1000 + travelDiff t r.anchor

/-- The anchor drawn forward on a very long run (R107). -/
def saturateAnchor (t : Travel) (r : RosterRec) : RosterRec :=
  if r.leg ≠ .atSummit ∧ travelSaturation < travelDiff t r.anchor then
    { r with anchor := travelAdd t (-travelSaturation) }
  else r

/-- A record at a travel update (R107). -/
def RosterRec.travel (k : Roster) (t : Travel) (r : RosterRec) : RosterRec :=
  let r1 := saturateAnchor t r
  let pos := positionOf k t r1
  { r1 with prevCoord := r.updateCoord, position := pos, updateCoord := some (coordOf pos) }

/-- The leg end in mm; AtSummit records have none (section 5.4). -/
def legEnd (k : Roster) : Leg → Option Int
  | .outbound => some ((k.lUp : Int) * 1000)
  | .atSummit => none
  | .inbound => some (((k.lUp : Int) + (k.lDown : Int)) * 1000)

/-- A record's excess over its leg end. -/
def excess (k : Roster) (r : RosterRec) : Option Int := (legEnd k r.leg).map fun e => r.position - e

/-- The excess goes beyond `n` times the slack (R109, R110). -/
def beyond (k : Roster) (n : Int) (r : RosterRec) : Bool :=
  match excess k r with
  | some x => decide (n * (k.slack : Int) * 1000 < x)
  | none => false

/-- A record becomes overdue (R109). -/
def newlyOverdue (k : Roster) (r : RosterRec) : Bool := !r.overdue && beyond k 1 r

/-- Missing's condition (R110). -/
def missing (k : Roster) : Bool := k.records.any (beyond k 2)

/-- Counter event 13 and then the Overdue report of each record flagged, record by record from the roster's head
(R109; DESIGN CHOICE, log entry 28: the spec does not say whether several events 13 of one travel update are one offer,
taken before the reports). -/
def reportOverdue : List RosterRec → State → State
  | [], s => s
  | r :: rs, s =>
    reportOverdue rs (queueReport
      (.carrier (.overdue r.leg (coordOf r.position)) r.carrier.number .roster r.carrier.marks)
      (offerEvent { code := 13, carrier := carrierOf r.carrier.number r.carrier.marks } s))

def rosterWith (records : List RosterRec) (s : State) : State :=
  { s with roster := { s.roster with records := records } }

/-- The roster takes the travel update (R107 to R110): positions, Overdue, Missing, then the watches. -/
def rosterTravel (s : State) : State :=
  let k := s.roster
  let moved := k.records.map (RosterRec.travel k s.update.t)
  let flagged := moved.map fun r => if newlyOverdue k r then { r with overdue := true } else r
  let s1 := reportOverdue (moved.filter (newlyOverdue k)) (rosterWith flagged s)
  watchesTravel (if missing s1.roster then raise .missing s1 else s1)

/-! ### Records of a leg (R104) -/

/-- The first record that satisfies `p`, with the records before and behind it. -/
def splitFirst (p : RosterRec → Bool) : List RosterRec → Option (List RosterRec × RosterRec × List RosterRec)
  | [] => none
  | r :: rs =>
    if p r then some ([], r, rs)
    else (splitFirst p rs).map fun x => (r :: x.1, x.2.1, x.2.2)

def onLeg (leg : Leg) (r : RosterRec) : Bool := decide (r.leg = leg)

def bears (n : Nat) (r : RosterRec) : Bool := decide (r.carrier.number = n)

/-- Skipped added to the records of a leg (R112, R116). -/
def skipLeg (leg : Leg) (r : RosterRec) : RosterRec :=
  if r.leg = leg then { r with carrier := r.carrier.mark .skipped } else r

/-- The records of a leg that do not carry Skipped yet, which are reported (R112, R116). -/
def newlySkipped (leg : Leg) (rs : List RosterRec) : List RosterRec :=
  rs.filter fun r => onLeg leg r && !decide (Mark.skipped ∈ r.carrier.marks)

def reportSkipped : List RosterRec → State → State
  | [], s => s
  | r :: rs, s =>
    reportSkipped rs (queueReport (.carrier (.skipped r.leg (coordOf r.position)) r.carrier.number .roster
      (addMark .skipped r.carrier.marks)) s)

/-- The records passed over by an out-of-order passage or entry: reports, and Order raised, where there are
any (R112, R116). -/
def passedOver (leg : Leg) (before : List RosterRec) (s : State) : State :=
  if before.any (onLeg leg) then raise .order (reportSkipped (newlySkipped leg before) s) else s

/-! ### Passages (R111 to R114) -/

/-- A record moved to AtSummit (R111, R112, R115). -/
def RosterRec.arrive (lUp : Nat) (r : RosterRec) : RosterRec :=
  { r with leg := .atSummit, overdue := false, position := (lUp : Int) * 1000,
           carrier := r.carrier.unmark [.skipped] }

/-- A record moved to Inbound (R114, R115). -/
def RosterRec.depart (lUp : Nat) (t : Travel) (metres : Nat) (r : RosterRec) : RosterRec :=
  { r with leg := .inbound, overdue := false, anchor := travelAdd t (-((metres : Int) * 1000)),
           position := (lUp : Int) * 1000 + (metres : Int) * 1000,
           carrier := if r.leg = .outbound then r.carrier.unmark [.skipped] else r.carrier }

/-- The report of a stranger at the summit (R113). Without a record found it carries the place none and no marks (DESIGN
CHOICE, log entry 25). -/
def strangerReport (n : Nat) (found : Option RosterRec) : Report :=
  match found with
  | some r => .carrier (.summitStranger (some r.leg)) n .roster r.carrier.marks
  | none => .carrier (.summitStranger none) n .none []

/-- The roster record found under a number; none under 0. -/
def rosterFind (n : Nat) (s : State) : Option RosterRec :=
  if n = 0 then none else s.roster.records.find? (bears n)

/-- An Arrived passage (R111 to R113). The event 13 of a number that no roster record bears is carrier-bound and not
Marked (DESIGN CHOICE, log entry 28: R113 gives a Marked mark only where a record was found). -/
def arrived (n : Nat) (s : State) : State :=
  match (if n = 0 then none else splitFirst (fun r => onLeg .outbound r && bears n r) s.roster.records) with
  | some (before, r, behind) =>
    let skipped := before.map (skipLeg .outbound)
    passedOver .outbound before (rosterWith (skipped ++ r.arrive s.roster.lUp :: behind) s)
  | none =>
    let found := rosterFind n s
    let isMarked := (found.map fun r => decide (Mark.marked ∈ r.carrier.marks)).getD false
    let carrier := if n = 0 then none else some (n, isMarked)
    offerEvent { code := 13, carrier := carrier } (queueReport (strangerReport n found) s)

/-- A Departed passage (R114). -/
def departed (n metres : Nat) (s : State) : State :=
  match (if n = 0 then none else splitFirst (fun r => !onLeg .inbound r && bears n r) s.roster.records) with
  | some (before, r, behind) =>
    let t := rosterWith (before ++ r.depart s.roster.lUp s.update.t metres :: behind) s
    if r.leg = .outbound then
      queueReport (.carrier .arrivalUnseen n .roster (removeMarks [.skipped] r.carrier.marks))
        (offerEvent { code := 13, carrier := carrierOf n r.carrier.marks } t)
    else t
  | none => queueReport (strangerReport n (rosterFind n s)) s

/-! ### Valley entry (R52, R53, R116 to R119) -/

/-- The record a valley entry makes (R53). -/
def entryRecord (tag : Nat) (stuck : Bool) (t : Travel) : CarrierRec :=
  { number := tag, marks := [], entryTravel := t, gripStuck := stuck, cycles := [], reopens := 0, force := none,
    releaseTravel := none }

def unionMarks (a b : List Mark) : List Mark :=
  Mark.all.filter fun x => decide (x ∈ a) || decide (x ∈ b)

/-- The new track record with what the removed roster record gives it (R118, R119). -/
def adopt (unread : Bool) (x : RosterRec) (r : CarrierRec) : CarrierRec :=
  let given := removeMarks (if unread then [.skipped] else [.skipped, .unread, .inferred]) x.carrier.marks
  let r1 := { r with number := x.carrier.number, marks := unionMarks r.marks given, force := x.carrier.force }
  if unread then (r1.mark .unread).mark .inferred else r1

/-- The new record at the buffer's tail replaced. -/
def setTail (r : CarrierRec) (s : State) : State :=
  { s with track := { s.track with buffer := s.track.buffer.dropLast ++ [r] } }

/-- A roster record removed by a match and given to the new track record (R106, R116, R118): older Inbound
records are passed over where the tag was read, and the launch gate is tested, after Order has been raised (DESIGN
CHOICE, log entry 25: the spec does not order the gate test of the removal, R60 and R106, and the demand of R116). -/
def takeMatch (unread : Bool) (before : List RosterRec) (x : RosterRec) (behind : List RosterRec)
    (r : CarrierRec) (s : State) : State :=
  let kept := if unread then before else before.map (skipLeg .inbound)
  let t := rosterWith (kept ++ behind) (setTail (adopt unread x r) s)
  gateTest (if unread then t else passedOver .inbound before t)

/-- Whether another track record, or a roster record, bears a number; `s` is the state before the new record
joined (R117). -/
def borne (n : Nat) (s : State) : Bool := !(bearers n s).isEmpty

/-- The roster matches the new record, which stands at the buffer's tail; `wasBorne` says whether another record
bore its number before it joined (R116 to R119). -/
def matchEntry (wasBorne : Bool) (r : CarrierRec) (s : State) : State :=
  if r.number = 0 then
    match splitFirst (onLeg .inbound) s.roster.records with
    | some (before, x, behind) => takeMatch true before x behind r s
    | none => setTail ((r.mark .unread).mark .stranger) s
  else
    match splitFirst (fun x => onLeg .inbound x && bears r.number x) s.roster.records with
    | some (before, x, behind) => takeMatch false before x behind r s
    | none =>
      if wasBorne then setTail (r.mark .duplicate) s
      else if s.track.settings.acceptUnlisted then s
      else setTail (r.mark .stranger) s

/-- Marks that the entry adds after the match (R50, R53): Held after a failed or missing test, Stuck. -/
def entryMarks (stuck : Bool) (r : CarrierRec) : CarrierRec :=
  let r1 := if Mark.gripFail ∈ r.marks ∨ Mark.noTest ∈ r.marks then r.mark .held else r
  if stuck then r1.mark .stuck else r1

/-- The record at the buffer's tail. -/
def tailRecord (fallback : CarrierRec) (s : State) : CarrierRec := s.track.buffer.getLast?.getD fallback

/-- A tag above 250 is taken as 0 (R52, R53). -/
def entryTag (tag : Nat) : Nat := if 250 < tag then 0 else tag

/-- An entry event (R52, R53). An Overrun report names the place none, since its carrier has no record (DESIGN
CHOICE, log entry 25). -/
def entry (tag : Nat) (stuck : Bool) (s : State) : State :=
  let n := entryTag tag
  let count := s.track.buffer.length
  if bufferPlaces ≤ count then
    queueReport (.carrier (.overrun stuck) n .none []) (raise .entryOverrun s)
  else
    let r := entryRecord n stuck s.update.t
    let s1 : State := { s with track := { s.track with buffer := s.track.buffer ++ [r] } }
    let s2 := matchEntry (borne n s) r s1
    let r2 := entryMarks stuck (tailRecord r s2)
    let s3 := setTail r2 s2
    let s4 := if stuck then raise .gripStuck s3 else s3
    let s5 := bufferChanged count s4
    let s6 := offerEvent { code := 2, carrier := carrierOf r2.number r2.marks } s5
    indexTest (queueReport (carrierReport (.entry stuck s6.track.buffer.length) .buffer r2) s6)

/-! ### Requests to the roster (R120, R121) -/

/-- RemoveCarrier (R120). -/
def doRemoveCarrier (n : Nat) (s : State) : State × ReplyResult :=
  if s.run.state = .stopped ∨ s.run.state = .tripped then
    if n = 0 ∨ 250 < n then refuse .range s
    else
      match splitFirst (bears n) s.roster.records with
      | none => refuse .notFound s
      | some (before, r, behind) =>
        done (gateTest (queueReport
          (.carrier (.removed r.leg (coordOf r.position)) n .roster r.carrier.marks)
          (rosterWith (before ++ behind) s)))
  else refuse .state s

/-- AtSummit records take a new L_up at once (R121). -/
def placeSummit (lUp : Nat) (r : RosterRec) : RosterRec :=
  if r.leg = .atSummit then { r with position := (lUp : Int) * 1000 } else r

/-- SetGeometry (R121). -/
def doSetGeometry (lUp lDown slack : Nat) (s : State) : State × ReplyResult :=
  if s.run.state = .parked ∨ s.run.state = .stopped then
    if 500 ≤ lUp ∧ lUp ≤ 9000 ∧ 500 ≤ lDown ∧ lDown ≤ 9000 ∧ 10 ≤ slack ∧ slack ≤ 500 then
      done { s with roster := { records := s.roster.records.map (placeSummit lUp), lUp := lUp, lDown := lDown,
                                slack := slack } }
    else refuse .range s
  else refuse .state s

end Sys2Proof.Machine
end

