-- ==== Sys2Proof/Machine/Towers.lean ====
section
/-! DEFINITION. The tower scanner (chapter 6): the poll transaction, the schedule, the accepted reply, ages and
deadlines, the entries to Waking and Parked, and the tower requests. -/

namespace Sys2Proof.Machine

open Config

/-! ### Slots -/

def Slot.used (x : Slot) : Bool := x.address.isSome

/-- The slot of a number from 1 to 24 (R124). -/
def slotAt (n : Nat) (s : State) : Option Slot := if n = 0 then none else s.scanner.slots[n - 1]?

def setSlot (n : Nat) (x : Slot) (s : State) : State :=
  { s with scanner := { s.scanner with slots := s.scanner.slots.set (n - 1) x } }

/-- The codes a tower ceiling and the extra pass call an Offset (Table 6-3). -/
def isOffset : PointCode → Bool
  | .offsetIn | .offsetOut => true
  | _ => false

/-- The latch a code asks for: Out or Broken (R132). -/
def latchOf? : PointCode → Option Latch
  | .out => some .out
  | .broken => some .broken
  | _ => none

def Slot.anyPoint (x : Slot) (p : Idx4 → Bool) : Bool := Idx4.all.any fun i => x.enables.get i && p i

/-- The slot holds a point latch. -/
def Slot.latched (x : Slot) : Bool := Idx4.all.any fun i => !decide (x.latches.get i = .clear)

/-- The tower has a non-Normal point: an enabled point that shows an Offset, Out or Broken, or holds a latch
(section 6.2). -/
def Slot.nonNormal (x : Slot) : Bool :=
  x.anyPoint fun i => isOffset (x.codes.get i) || (latchOf? (x.codes.get i)).isSome ||
    !decide (x.latches.get i = .clear)

/-- The numbers of the slots that satisfy `p`, in slot order, the first slot having number `n`. -/
def slotNumbers (p : Slot → Bool) : Nat → List Slot → List Nat
  | _, [] => []
  | n, x :: xs => if p x then n :: slotNumbers p (n + 1) xs else slotNumbers p (n + 1) xs

/-! ### The Tower ceiling and the causes (R132, R134, R135) -/

/-- A slot calls for the Tower ceiling (R134). -/
def Slot.slows (x : Slot) : Bool :=
  x.used && (!decide (x.deadline = .within) || x.anyPoint fun i => isOffset (x.codes.get i))

def towerCeilingTest (s : State) : State := setCeiling .tower (s.scanner.slots.any Slot.slows) s

/-- TowerOut's cause persists (R132). -/
def towerOutCause (s : State) : Bool := s.scanner.slots.any Slot.latched

/-- TowerSilent's cause persists (R135). -/
def towerSilentCause (s : State) : Bool :=
  s.scanner.slots.any fun x => x.used && decide (x.deadline = .silent)

/-! ### The schedule (R126, R128, R130) -/

/-- The slot takes a poll in the pass of a round (R128). -/
def Slot.inPass : Pass → Slot → Bool
  | .main, x => x.used
  | .extra, x => x.used && x.extraDue

/-- The next slot of the pass in progress, in increasing slot order. -/
def nextInPass (k : Scanner) : Option Nat :=
  (slotNumbers (Slot.inPass k.pass) 1 k.slots).find? fun n => decide (k.passSlot < n)

/-- Extra due as the main pass ends (R128). -/
def markExtra (x : Slot) : Slot := { x with extraDue := x.used && x.nonNormal }

/-- The pass in progress is over when none of its slots is left; the main pass is then followed by the extra
pass, and the extra pass by the next round (R128). -/
def Scanner.turn (k : Scanner) : Scanner :=
  match nextInPass k, k.pass with
  | some _, _ => k
  | none, .main => { k with slots := k.slots.map markExtra, pass := .extra, passSlot := 0 }
  | none, .extra => { k with pass := .main, passSlot := 0 }

/-- The schedule moves on; a round whose extra pass holds no tower is followed at once by the next (R128). -/
def Scanner.advance (k : Scanner) : Scanner := k.turn.turn

/-- A poll frame's transmission begins with the present poll number, which then increases (R126). -/
def Scanner.poll (slot : Nat) (retry : Bool) (k : Scanner) : Scanner :=
  { k with transaction := some { slot := slot, retry := retry, number := k.pollNumber, timer := none },
           pollNumber := (k.pollNumber + 1) % 256, lastPolled := slot, pauseTimer := none }

/-- A transaction of the round starts (R128). -/
def startRound (s : State) : State :=
  let k := s.scanner.advance
  match nextInPass k with
  | some n => { s with scanner := { k.poll n false with passSlot := n } }
  | none => s

/-- The transaction in flight has ended and the schedule moves on (R126, R128). -/
def endTransaction (s : State) : State :=
  let k := { s.scanner with transaction := none }
  if s.run.state = .parked then { s with scanner := k }
  else { s with scanner := { k.advance with pauseTimer := some transactionGapMs } }

/-- A transaction ends unread (R126). -/
def endUnread (slot : Nat) (s : State) : State :=
  match slotAt slot s with
  | some x => endTransaction (setSlot slot { x with unread := satInc x.unread } s)
  | none => endTransaction s

/-- The transmission of a poll frame ends and the reply timer starts (R126). -/
def pollSent (s : State) : State :=
  match s.scanner.transaction with
  | some ⟨slot, retry, number, none⟩ =>
    { s with scanner := { s.scanner with transaction := some ⟨slot, retry, number, some replyMs⟩ } }
  | _ => s

/-- The reply timer expires: the retry, or the end as unread (R126). -/
def replyExpired (s : State) : State :=
  match s.scanner.transaction with
  | some ⟨slot, false, _, some _⟩ => { s with scanner := s.scanner.poll slot true }
  | some ⟨slot, true, _, some _⟩ => endUnread slot s
  | _ => s

/-- 1 ms has passed since the previous transaction ended (R128). -/
def transactionDue (s : State) : State :=
  if s.run.state = .parked ∨ s.scanner.transaction.isSome then s else startRound s

/-- The next used slot after the one last polled, round from slot 24 to slot 1 (R130). -/
def nextParked (k : Scanner) : Option Nat :=
  let used := slotNumbers Slot.used 1 k.slots
  match used.find? fun n => decide (k.lastPolled < n) with
  | some n => some n
  | none => used.head?

/-- The parked poll timer expires and starts again (R130). -/
def parkedPoll (s : State) : State :=
  if s.run.state = .parked then
    let k := { s.scanner with parkedTimer := some parkedPollMs }
    match s.scanner.transaction, nextParked s.scanner with
    | none, some n => { s with scanner := k.poll n false }
    | _, _ => { s with scanner := k }
  else s

/-! ### Tower events (R137) -/

def offerTowerEvent (kind : TowerKind) (slot : Nat) (point : Option Nat) (x : Slot) (s : State) : State :=
  towerOccasion { kind := kind, slot := slot, address := x.address.getD 0, point := point, coord := x.coord } s

/-- Counter event 7 of a new Offset (R131). -/
def offsetEvent (slot : Nat) (i : Idx4) : CounterEvent :=
  { code := 7, slot := some slot, point := some (idxNumber i) }

def latchKind : Latch → TowerKind
  | .broken => .broken
  | _ => .out

/-- The latch test of a point that shows Out or Broken (R132). `l` is the latch its code asks for. -/
def latchPoint (slot : Nat) (i : Idx4) (l : Latch) (s : State) : State :=
  match slotAt slot s with
  | some x =>
    let old := x.latches.get i
    let y := { x with latches := x.latches.set i l }
    if old = .clear then
      offerTower (offerTowerEvent (latchKind l) slot (some (idxNumber i)) y (raise .towerOut (setSlot slot y s)))
    else if old = l then s
    else offerTower (setSlot slot y s)
  | none => s

/-! ### The accepted reply (R129) -/

/-- The code an accepted reply leaves a point with (R129). -/
def pointCode (x : Slot) (codes : Quad Nat) (i : Idx4) : PointCode :=
  if x.enables.get i then replyCode (codes.get i) else .disabled

def replyCodes (x : Slot) (codes : Quad Nat) : Quad PointCode :=
  ⟨pointCode x codes .i1, pointCode x codes .i2, pointCode x codes .i3, pointCode x codes .i4⟩

/-- Steps 1 and 2 of R129. -/
def Slot.take (codes : Quad Nat) (x : Slot) : Slot :=
  { x with age := 0, deadline := .within, codes := replyCodes x codes }

/-- A point's code is new as an Offset (R131). -/
def newOffset (before after : PointCode) : Bool := isOffset after && !decide (after = before)

/-- The counter event of one point of a reply: `before` is the slot as it stood before the reply, `x` with its codes
taken. -/
def pointOffset (slot : Nat) (before x : Slot) (s : State) (i : Idx4) : State :=
  if newOffset (before.codes.get i) (x.codes.get i) then offerEvent (offsetEvent slot i) s else s

/-- The tower event of a new Offset, or the latch test, of one point of a reply (R131, R132). -/
def pointEvents (slot : Nat) (before x : Slot) (s : State) (i : Idx4) : State :=
  if newOffset (before.codes.get i) (x.codes.get i) then
    offerTowerEvent .offset slot (some (idxNumber i)) x s
  else
    match latchOf? (x.codes.get i) with
    | some l => latchPoint slot i l s
    | none => s

/-- Step 3 of R129: the reply's several events 7 are one offer, which the counter block takes one after another
(R141), and then the tower events and latchings, both in increasing point order (R137; DESIGN CHOICE, log entry 14: the
spec does not order the one offer and the tower events). -/
def replyEvents (slot : Nat) (before x : Slot) (s : State) : State :=
  Idx4.all.foldl (pointEvents slot before x) (Idx4.all.foldl (pointOffset slot before x) s)

/-- Step 5 of R129: the tower's first good reply since Waking began. -/
def hearTower (slot : Nat) (s : State) : State :=
  match slotAt slot s with
  | some x =>
    if s.run.state = .waking ∧ x.heard = false then wakingTest (setSlot slot { x with heard := true } s) else s
  | none => s

/-- What a Tower change is about (R138). -/
def Slot.shown (x : Slot) : Quad PointCode × Quad Latch × Deadline × Bool :=
  (x.codes, x.latches, x.deadline, x.heard)

/-- Step 6 of R129. -/
def replyChange (slot : Nat) (before : Slot) (s : State) : State :=
  match slotAt slot s with
  | some x => if x.shown = before.shown then s else offerTower s
  | none => s

/-- An accepted reply of the tower polled (R126, R129). -/
def acceptReply (slot : Nat) (codes : Quad Nat) (s : State) : State :=
  match slotAt slot s with
  | some before =>
    let x := before.take codes
    endTransaction (replyChange slot before (hearTower slot
      (towerCeilingTest (replyEvents slot before x (setSlot slot x s)))))
  | none => endTransaction s

/-- The used slot that bears a node address. -/
def slotOfAddress (a : Nat) (s : State) : Option Nat :=
  (slotNumbers (fun x => decide (x.address = some a)) 1 s.scanner.slots).head?

/-- A late reply (R127). -/
def lateReply (address : Nat) (s : State) : State :=
  offerEvent { code := 9, slot := slotOfAddress address s }
    { s with scanner := { s.scanner with late := satInc s.scanner.late } }

/-- A reply frame of good format and good CRC (R126, R127). -/
def towerFrame (f : TowerFrame) (s : State) : State :=
  match s.scanner.transaction with
  | none => lateReply f.address s
  | some tr =>
    if f.number ≠ tr.number then lateReply f.address s
    else if (slotAt tr.slot s).bind (fun x => x.address) = some f.address then acceptReply tr.slot f.codes s
    else s

/-- The scanner is sending a poll frame, and does not receive meanwhile (section 11.4). -/
def Scanner.sending (k : Scanner) : Bool :=
  match k.transaction with
  | some tr => tr.timer.isNone
  | none => false

/-- The bytes between two idles of the tower string (R127, R197). -/
def towerBytes (frame : List Byte) (s : State) : State :=
  if s.scanner.sending then s
  else
    match parseReply frame with
    | some f => towerFrame f s
    | none => s

/-! ### Ages and deadlines (R135, R136) -/

/-- A Within tower becomes Stale (R135). -/
def becomeStale (slot : Nat) (x : Slot) (s : State) : State :=
  let y := { x with deadline := .stale, age := max x.age (s.scanner.deadline + 1) }
  offerTower (towerCeilingTest (offerTowerEvent .stale slot none y
    (offerEvent { code := 8, slot := some slot } (setSlot slot y s))))

/-- A Stale tower becomes Silent (R135). -/
def becomeSilent (slot : Nat) (x : Slot) (s : State) : State :=
  offerTower (towerCeilingTest (raise .towerSilent
    (setSlot slot { x with deadline := .silent, age := max x.age (2 * s.scanner.deadline + 1) } s)))

/-- The age of a Within tower comes to exceed D (R135); in Parked no comparison is made. -/
def staleEvent (slot : Nat) (s : State) : State :=
  match slotAt slot s with
  | some x => if s.run.state ≠ .parked ∧ x.used ∧ x.deadline = .within then becomeStale slot x s else s
  | none => s

/-- The age of a Stale tower comes to exceed twice D (R135). -/
def silentEvent (slot : Nat) (s : State) : State :=
  match slotAt slot s with
  | some x => if s.run.state ≠ .parked ∧ x.used ∧ x.deadline = .stale then becomeSilent slot x s else s
  | none => s

/-- A tower passed over by the new D: Stale where Within, and Silent where Stale (R136). -/
def comparePassed (slot : Nat) (s : State) : State :=
  let s1 := match slotAt slot s with
    | some x =>
      if x.used ∧ x.deadline = .within ∧ s.scanner.deadline < x.age then becomeStale slot x s else s
    | none => s
  match slotAt slot s1 with
  | some x =>
    if x.used ∧ x.deadline = .stale ∧ 2 * s.scanner.deadline < x.age then becomeSilent slot x s1 else s1
  | none => s1

/-- The deadline state that a longer D returns a tower to, without events (R136). -/
def Slot.eased (d : Nat) (x : Slot) : Deadline :=
  match x.deadline with
  | .within => .within
  | .stale => if d < x.age then .stale else .within
  | .silent => if 2 * d < x.age then .silent else if d < x.age then .stale else .within

/-- One slot compared with the new D (R136); the number counts the slots returned, whose Tower changes are
offered after the ceiling is recomputed. -/
def compareSlot (slot : Nat) (p : State × Nat) : State × Nat :=
  match slotAt slot p.1 with
  | some x =>
    let d := x.eased p.1.scanner.deadline
    if x.used ∧ d ≠ x.deadline then (setSlot slot { x with deadline := d } p.1, p.2 + 1)
    else (comparePassed slot p.1, p.2)
  | none => p

def offerTowers : Nat → State → State
  | 0, s => s
  | n + 1, s => offerTowers n (offerTower s)

/-- The comparison of every tower with a new D, in slot order (R136). A tower that passes the new D has all of its R135
event at its slot, its Tower change included, before later slots are compared; the Tower changes of towers returned
come after the last recomputing of the ceiling (DESIGN CHOICE, log entry 14: R136's last sentence can be read as every
Tower change after it). -/
def compareSlots (s : State) : State :=
  let p := (List.range towerSlots).foldl (fun p n => compareSlot (n + 1) p) (s, 0)
  offerTowers p.2 (towerCeilingTest p.1)

/-! ### The entries to Waking and Parked (R130) -/

/-- The scanner at the entry to Waking. -/
def wakeTowers (s : State) : State :=
  let k := s.scanner
  let t : State := { s with scanner := { k with
    slots := k.slots.map fun x => if x.used then { x with heard := false, age := 0 } else x
    parkedTimer := none, pass := .main, passSlot := 0 } }
  if k.transaction.isNone then startRound t else t

/-- The scanner at the entry to Parked; the changes of heard flags and deadline states, of however many slots, are one
Tower change, after the ceiling is recomputed (R138; DESIGN CHOICE, log entry 14). -/
def parkTowers (s : State) : State :=
  let k := s.scanner
  let slots := k.slots.map fun x => if x.used then { x with heard := false, deadline := .within } else x
  let t := towerCeilingTest { s with scanner := { k with
    slots := slots, parkedTimer := some parkedPollMs, pauseTimer := none } }
  if slots.map Slot.shown = k.slots.map Slot.shown then t else offerTower t

/-! ### Requests to the scanner -/

/-- The configuration SetTower carries: an address of 0 stands for none (R195). -/
def slotOf (address coordinate enables : Nat) : Slot :=
  { Slot.unused with
    address := if address = 0 then none else some address, coord := coordinate,
    enables := ⟨enables.testBit 0, enables.testBit 1, enables.testBit 2, enables.testBit 3⟩ }

/-- Another used slot holds the address (R125). -/
def addressTaken (slot address : Nat) (s : State) : Bool :=
  !decide (address = 0) &&
    (slotNumbers (fun x => decide (x.address = some address)) 1 s.scanner.slots).any fun n => !decide (n = slot)

/-- The transaction in flight, if it is to this slot, ends at once as unread, without its retry (R125). -/
def endIfTo (slot : Nat) (s : State) : State :=
  match s.scanner.transaction with
  | some tr => if tr.slot = slot then endTransaction s else s
  | none => s

/-- An accepted SetTower (R125). A transaction to the slot that ends as unread leaves its unread
count at the 0 it is set to afresh; and where no transaction is in flight none starts, the next TRANSACTION_START beginning to poll a
slot that is the first one used (R128; both DESIGN CHOICE, log entry 14). -/
def placeSlot (slot : Nat) (x : Slot) (s : State) : State :=
  offerTower (towerCeilingTest (endIfTo slot (setSlot slot x.fresh s)))

/-- SetTower (R125). -/
def doSetTower (slot address coordinate enables : Nat) (s : State) : State × ReplyResult :=
  match slotAt slot s with
  | none => refuse .range s
  | some x =>
    if 63 < address ∨ 18000 < coordinate then refuse .range s
    else if s.run.state = .waking ∨ s.run.state = .starting ∨ s.run.state = .running ∨ s.run.state = .stopping then
      refuse .state s
    else if addressTaken slot address s then refuse .conflict s
    else if x.latched then refuse .busy s
    else done (placeSlot slot (slotOf address coordinate enables) s)

/-- SetScan (R136). -/
def doSetScan (deadline : Nat) (s : State) : State × ReplyResult :=
  if 200 ≤ deadline ∧ deadline ≤ 2000 then
    let t : State := { s with scanner := { s.scanner with deadline := deadline } }
    if s.run.state = .parked then done t else done (compareSlots t)
  else refuse .range s

/-- The points an AckTower names: 0 names all four (R133). -/
def ackPoints (point : Nat) : Option (List Idx4) :=
  if point = 0 then some Idx4.all else (idxOf? point).map fun i => [i]

/-- The latches of the named points cleared, each clearing a Tower change (R133). -/
def clearLatches (slot : Nat) : List Idx4 → State → State
  | [], s => s
  | i :: is, s =>
    match slotAt slot s with
    | some x =>
      if x.latches.get i = .clear then clearLatches slot is s
      else clearLatches slot is (offerTower (setSlot slot { x with latches := x.latches.set i .clear } s))
    | none => s

/-- AckTower (R133). -/
def doAckTower (slot point : Nat) (s : State) : State × ReplyResult :=
  match slotAt slot s, ackPoints point with
  | some x, some points =>
    if x.used = false then refuse .notFound s
    else if points.any fun i => !decide (x.latches.get i = .clear) && !decide (x.codes.get i = .normal) then
      refuse .permissive s
    else done (clearLatches slot points s)
  | _, _ => refuse .range s

end Sys2Proof.Machine
end

