-- ==== Sys2Proof/Machine/Control.lean ====
section
/-! DEFINITION. Run control (chapter 1): the cause question, the run-state requests, ClearStop, and the two stop
inputs. -/

namespace Sys2Proof.Machine

/-! ### The cause question (Table 1-6) -/

/-- The track places that hold a record: buffer, berths and launch berth (R49). -/
def Track.records (k : Track) : List CarrierRec :=
  k.buffer ++ (Idx4.all.filterMap k.berths.get) ++ k.launchBerth.toList

def rosterMarked (m : Mark) (s : State) : Bool := s.roster.records.any fun r => decide (m ∈ r.carrier.marks)

/-- The current band is one with a stop flag (R40). -/
def Governor.stopBand (g : Governor) : Bool :=
  match g.bandNow with
  | some b => b.ceiling.isNone
  | none => false

/-- Counter's cause persists (R145). -/
def counterCause (s : State) : Bool :=
  Idx4.all.any fun i => decide ((s.counter i).action = .stop) && (s.counter i).alarm

/-- An index step whose limit has expired is in flight (R57). -/
def indexJamCause (s : State) : Bool :=
  match s.track.step with
  | some st => st.expired
  | none => false

/-- The owner's answer to run control's cause question (Table 1-6, R15). -/
def causePersists (s : State) : Source → Bool
  | .deskStop => false
  | .platformStop => s.run.platformStop
  | .emergencyLoop => s.run.loopOpen
  | .summitService => decide (s.line.contents.stop = .service)
  | .summitEmergency => decide (s.line.contents.stop = .emergency) || s.line.contents.loopOpen
  | .lineLost => decide (4 ≤ s.line.miss)
  | .towerSilent => towerSilentCause s
  | .towerOut => towerOutCause s
  | .trackFull => decide (s.track.buffer.length = Config.bufferPlaces)
  | .entryOverrun => decide (s.track.buffer.length = Config.bufferPlaces)
  | .gripStuck => s.track.records.any fun r => decide (Mark.stuck ∈ r.marks)
  | .indexJam => indexJamCause s
  | .gripFail => rosterMarked .gripFail s
  | .lostLaunch => rosterMarked .noTest s
  | .order => rosterMarked .skipped s
  | .missing => missing s.roster
  | .overspeed => false
  | .rollback => false
  | .creep => false
  | .encoderLost => false
  | .driveFault => s.gov.status.fault
  | .wind => s.gov.stopBand
  | .counter => counterCause s
  | .watch => false

/-! ### Transitions with what the berths, the towers and the track add (R3, R5, R7) -/

/-- The entry to Parked (R5, R57, R97, R130). -/
def enterParked (s : State) : State :=
  parkTowers (parkBerths (cancelIndex (enterState .parked .park s)))

/-- The entry to Waking (R3, R97, R130). -/
def enterWaking (s : State) : State := wakeTowers (homeBerths (enterState .waking .wake s))

/-- The entry to Running, at which the launch gate is tested (R7, R60). -/
def enterRunning (s : State) : State := gateTest (enterState .running .referenceReached s)

/-! ### Requests -/

/-- Wake (R3). -/
def doWake (s : State) : State × ReplyResult :=
  if s.run.state = .parked then done (enterWaking s) else refuse .state s

/-- Park (R5). -/
def doPark (s : State) : State × ReplyResult :=
  match s.run.state with
  | .stopped | .waking => done (enterParked s)
  | .tripped => if s.gov.v = 0 then done (enterParked s) else refuse .permissive s
  | _ => refuse .state s

/-- The drive permissive (R6). -/
def drivePermissive (s : State) : Bool := s.gov.status.ready

/-- The summit permissive (R6). -/
def summitPermissive (s : State) : Bool := s.line.contents.ready

/-- Run (R6). -/
def doRun (s : State) : State × ReplyResult :=
  if s.run.state ≠ .stopped then refuse .state s
  else if s.run.demands ≠ [] then refuse .demand s
  else if drivePermissive s && summitPermissive s then done (enterState .starting .run s)
  else refuse .permissive s

/-- Stop (R8). -/
def doStop (s : State) : State × ReplyResult := done (raise .deskStop s)

/-- ResetTrip (R12). -/
def doResetTrip (s : State) : State × ReplyResult :=
  if s.run.state ≠ .tripped then refuse .state s
  else if stopClassOf s.run.demands = .emergency then refuse .demand s
  else if s.gov.v = 0 then done (enterState .stopped .resetTrip s)
  else refuse .permissive s

/-- A source removed from the set, the valley stop class given where it changes (R15, R18). -/
def clearSource (src : Source) (s : State) : State :=
  giveClass { s with run := { s.run with demands := removeSource src s.run.demands } }

/-- ClearStop (R15). -/
def doClearStop (code : Nat) (s : State) : State × ReplyResult :=
  match Source.all[code]? with
  | none => refuse .range s
  | some src =>
    if src ∈ s.run.demands then
      if causePersists s src then refuse .causePresent s else done (clearSource src s)
    else refuse .notFound s

/-! ### The stop inputs (R16, R17) -/

/-- The platform stop button input at a sampling: an event where its level changes (R16). -/
def platformInput (active : Bool) (s : State) : State :=
  if active = s.run.platformStop then s
  else
    let t : State := { s with run := { s.run with platformStop := active } }
    if active then raise .platformStop t else thaw t

/-- The emergency stop loop input at a sampling (R17). -/
def loopInput (opened : Bool) (s : State) : State :=
  if opened = s.run.loopOpen then s
  else
    let t : State := { s with run := { s.run with loopOpen := opened } }
    if opened then raise .emergencyLoop t else t

end Sys2Proof.Machine
end

