-- ==== Sys2Proof/Machine/Governor.lean ====
section
/-! DEFINITION. The speed governor (chapter 2): the eight stages of a window end, the thresholds of its
supervision, the drive status, the wind bands, and the governor requests. -/

namespace Sys2Proof.Machine

open Config

/-! ### Stages 1 to 3 (R20 to R23) -/

/-- An encoder pulse (R20). -/
def encoderPulse (backward : Bool) (s : State) : State :=
  if backward then { s with gov := { s.gov with pb := satInc s.gov.pb } }
  else { s with gov := { s.gov with pf := satInc s.gov.pf } }

/-- The measured speed from the sum of the history: a quarter, a half rounded away from zero (R23). -/
def meanSpeed (s : Int) : Int := if 0 ≤ s then (s + 2) / 4 else -((-s + 2) / 4)

def History.push (h : History) (d : Int) : History := ⟨d, h.h1, h.h2, h.h3⟩

def History.sum (h : History) : Int := h.h1 + h.h2 + h.h3 + h.h4

/-- The window's counts are plausible (R20). -/
def Governor.plausible (g : Governor) : Bool := decide (g.pf + g.pb ≤ pulseLimit)

/-- Net pulses at the calibration, with the residue carried (R22). -/
def Governor.acc (g : Governor) : Int :=
  ((g.pf : Int) - (g.pb : Int)) * (g.settings.calibration : Int) + (g.residue : Int)

/-- The window's increment d: 0 where the window is implausible (R21, R22). -/
def Governor.increment (g : Governor) : Int := if g.plausible then g.acc / 4096 else 0

/-- Stages 1 to 3 (R20 to R23). -/
def Governor.measure (g : Governor) : Governor :=
  let g1 := { g with lastPf := g.pf, lastPb := g.pb, pf := 0, pb := 0 }
  if g.plausible then
    let d := g.increment
    let h := g.history.push d
    { g1 with travel := travelAdd g.travel d, residue := (g.acc - 4096 * d).toNat, history := h,
              v := meanSpeed h.sum }
  else g1

/-! ### Stage 4: supervision (R24 to R27) -/

/-- The run states in which the reference follows the ramp (R25, R30). -/
def runMoves : RunState → Bool
  | .starting | .running | .stopping => true
  | _ => false

/-- The rollback distance before its test (R24). -/
def rolled (r : Nat) (d : Int) : Nat := if d < 0 then r + (-d).toNat else if 0 < d then 0 else r

/-- The overspeed test fails (R25). -/
def Governor.tooFast (g : Governor) (rs : RunState) : Bool :=
  runMoves rs && decide ((g.reference : Int) + (g.settings.margin : Int) < g.v)

/-- The creep test fails (R26). -/
def Governor.crept (g : Governor) (rs : RunState) : Bool :=
  decide (rs = .stopped) && match g.creepBase with
    | some base => decide (creepLimit < travelDiff g.travel base) || decide (travelDiff g.travel base < -creepLimit)
    | none => false

/-- A window without pulses at a reference of 100 or more (R27); `pulses` is the sum of its counts. -/
def Governor.pulseless (g : Governor) (pulses : Nat) : Bool :=
  decide (encoderLossReference ≤ g.reference) && decide (pulses = 0)

/-- The rollback test's distance and whether it raises Rollback (R24). -/
def Governor.rollbackTest (g : Governor) (rs : RunState) (d : Int) : Nat × Bool :=
  if rs = .parked then (0, false)
  else if g.settings.rollback < rolled g.rollback d then (0, true)
  else (rolled g.rollback d, false)

/-- A count of consecutive windows against its limit: the count kept, and whether the limit is reached. -/
def windowCount (fails : Bool) (limit count : Nat) : Nat × Bool :=
  if fails then if limit ≤ count + 1 then (0, true) else (count + 1, false) else (0, false)

/-- Stage 4 on the governor after its measurement. -/
def Governor.supervise (g : Governor) (rs : RunState) (d : Int) : Governor :=
  { g with
    rollback := (g.rollbackTest rs d).1
    overspeed := (windowCount (g.tooFast rs) overspeedWindows g.overspeed).1
    encoderLoss := (windowCount (g.pulseless (g.lastPf + g.lastPb)) encoderLossWindows g.encoderLoss).1 }

/-- The demands of stages 1 and 4, in the order of their tests (R21, R24 to R27). -/
def Governor.alarms (g : Governor) (rs : RunState) (d : Int) : List Source :=
  (if g.lastPf + g.lastPb ≤ pulseLimit then [] else [Source.encoderLost]) ++
    (if (g.rollbackTest rs d).2 then [Source.rollback] else []) ++
    (if (windowCount (g.tooFast rs) overspeedWindows g.overspeed).2 then [Source.overspeed] else []) ++
    (if g.crept rs then [Source.creep] else []) ++
    (if (windowCount (g.pulseless (g.lastPf + g.lastPb)) encoderLossWindows g.encoderLoss).2 then
      [Source.encoderLost] else [])

/-! ### Stages 5 and 6: target and ramp (R29, R30) -/

/-- The lowest value among the present ceilings (R29). -/
def Governor.lowest (g : Governor) : Nat := ((Ceiling.all.filterMap g.ceiling).min?).getD 0

/-- Stage 5 (R29). -/
def Governor.aim (g : Governor) (rs : RunState) : Governor :=
  match rs with
  | .starting | .running =>
    { g with target := g.lowest, limiting := Ceiling.all.filter fun c => decide (g.ceiling c = some g.lowest) }
  | .stopping => { g with target := 0, limiting := [] }
  | _ => { g with target := 0, limiting := [], reference := 0 }

/-- The reference after one ramp step (R30). -/
def rampStep (reference target up down : Nat) : Nat :=
  if reference < target then min target (reference + up)
  else if target < reference then max target (reference - down)
  else reference

/-- Stage 6 (R30). -/
def Governor.ramp (g : Governor) (rs : RunState) : Governor :=
  if runMoves rs then { g with reference := rampStep g.reference g.target g.settings.up g.settings.down } else g

/-! ### Stage 7: drive exchange (R33, R35) -/

/-- This window end counts a missed exchange (R35). -/
def Governor.misses (g : Governor) : Bool := !g.firstWindow && !g.statusSeen

/-- The fifth missed exchange: a faulted status is substituted (R35). -/
def Governor.substituted (g : Governor) : Governor :=
  { g with missed := missedExchanges, status := { ready := false, fault := true } }

/-- The missed-exchange count reaches 5 at this window end (R35). -/
def Governor.lastMiss (g : Governor) : Bool := g.misses && decide (g.missed + 1 = missedExchanges)

/-- Stage 7: the missed-exchange count, and the command record (R33, R35). -/
def Governor.exchange (g : Governor) : Governor :=
  let g1 := if g.lastMiss then g.substituted
    else if g.misses then { g with missed := min (g.missed + 1) missedExchanges } else g
  { g1 with firstWindow := false, statusSeen := false,
            command := some { reference := g1.reference, brakeRelease := g1.brakeReleased, trip := g1.tripFlag } }

/-! ### The window end (R19) -/

/-- The rope is quiet at a window end in Stopping (R10). -/
def quietNow (s : State) : Bool :=
  decide (s.run.state = .stopping) && decide (s.gov.reference = 0) && decide (s.gov.v = 0)

/-- Run control takes the tenth quiet window (R10). -/
def ropeAtRest (s : State) : State := enterState .stopped .ropeAtRest s

/-- The window result given to run control (R7, R10). -/
def windowResult (s : State) : State :=
  match s.run.state with
  | .starting => if s.gov.reference = s.gov.target then enterRunning s else s
  | .stopping =>
    if quietNow s then
      let t : State := { s with run := { s.run with quiet := s.run.quiet + 1 } }
      if quietWindows ≤ t.run.quiet then ropeAtRest t else t
    else { s with run := { s.run with quiet := 0 } }
  | _ => s

/-- The travel update at the blocks that take it (R36): the track controller, the roster with the watches, the
event counters. -/
def travelUpdate (u : TravelUpdate) (s : State) : State :=
  countersTravel (rosterTravel (trackTravel { s with update := u }))

/-- The travel update of the window end that leaves the governor at `g`: T before it, the increment d, and the run
state it began with, which is the governor's copy (R36, R37). -/
def Governor.travelled (g : Governor) (before : Travel) (d : Int) (rs : RunState) : TravelUpdate :=
  { t := g.travel, before := before, d := d, v := g.v, run := rs, km := crosses before g.travel d 1000000 }

/-- A Governor change where the target changed between window ends (R29, R47). -/
def offerTarget (old : Nat) (s : State) : State := if s.gov.target = old then s else offerGovernor s

/-- Stage 7 in the machine: the substituted status is a Governor change (R35). -/
def driveExchange (s : State) : State :=
  if s.gov.lastMiss then offerGovernor { s with gov := s.gov.exchange } else { s with gov := s.gov.exchange }

/-- The window end (R19): the governor's stages with the run state it began with; then the arrivals they give,
in the order of the stages: the demands of stage 4, the window result, DriveFault, the travel update. The
Governor report of a new target is built after stage 6 and carries the ramped reference (DESIGN CHOICE, log entry
22: R47 does not say whether before or after that ramp step). -/
def windowEnd (s : State) : State :=
  let rs := s.run.state
  let d := s.gov.increment
  let g := s.gov.measure
  let s1 := offerTarget s.gov.target { s with gov := ((g.supervise rs d).aim rs).ramp rs }
  let s2 := windowResult (raiseAll (g.alarms rs d) (driveExchange s1))
  let s3 := if s1.gov.lastMiss then raise .driveFault s2 else s2
  travelUpdate (s1.gov.travelled s.gov.travel d rs) s3

/-! ### The last count of a threshold, as its own event -/

/-- The window that brings the overspeed count to 3 (R25). -/
def overspeedReached (s : State) : State :=
  if s.gov.tooFast s.run.state && decide (overspeedWindows ≤ s.gov.overspeed + 1) then
    raise .overspeed { s with gov := { s.gov with overspeed := 0 } }
  else s

/-- The window that brings the encoder-loss count to 10 (R27). -/
def encoderLossReached (s : State) : State :=
  if s.gov.pulseless (s.gov.pf + s.gov.pb) && decide (encoderLossWindows ≤ s.gov.encoderLoss + 1) then
    raise .encoderLost { s with gov := { s.gov with encoderLoss := 0 } }
  else s

/-- The window that brings the quiet window count to 10 (R10). The count stands at 0 again in Stopped. -/
def quietReached (s : State) : State :=
  if quietNow s && decide (quietWindows ≤ s.run.quiet + 1) then ropeAtRest s else s

/-- The window that brings the missed-exchange count to 5 (R35). As at the window end, the Governor change of the
substituted status goes before DriveFault (DESIGN CHOICE, log entry 22). -/
def missedReached (s : State) : State :=
  if s.gov.lastMiss then raise .driveFault (offerGovernor { s with gov := s.gov.substituted }) else s

/-! ### The drive status (R34) -/

/-- A status record kept as the most recent drive status (R34). The Governor change of a new ready or fault flag is
offered before DriveFault is raised, so that its report shows the part before the trip (DESIGN CHOICE, log entry 22:
R34 does not order the two). -/
def takeStatus (d : DriveStatus) (s : State) : State :=
  let t : State := { s with gov := { s.gov with status := d, missed := 0, statusSeen := true } }
  let u := if d = s.gov.status then t else offerGovernor t
  if d.fault then raise .driveFault u else u

/-- A record on the drive port (R34, R198): one that does not match its format is discarded. -/
def driveRecord (record : List Byte) (s : State) : State :=
  match parseStatus record with
  | some d => takeStatus d s
  | none => s

/-! ### Wind bands (R38 to R42) -/

/-- The highest band whose entry wind is at or below a reading; 0 where there is none. -/
def highestBand (w : Nat) (bands : List WindBand) : Nat :=
  (bands.zipIdx.foldl (fun m p => if p.1.entry ≤ w then p.2 + 1 else m) 0)

/-- The reading lies below the entry of the current band less H (R39, R41). -/
def Governor.lowWind (g : Governor) (w : Nat) : Bool :=
  match g.bandNow with
  | some b => decide (w < b.entry - g.wind.hysteresis)
  | none => false

/-- The hold timer paused if it was Running (R39, R40). -/
def Governor.pauseHold (g : Governor) : Governor := if g.hold = .running then { g with hold := .paused } else g

/-- The hold timer runs: from Stopped from 0, from Paused from its kept time (R39). -/
def Governor.runHold (g : Governor) : Governor :=
  match g.hold with
  | .stopped => { g with hold := .running, holdMs := 0 }
  | .running => g
  | .paused => { g with hold := .running }

def Governor.stopHold (g : Governor) : Governor := { g with hold := .stopped, holdMs := 0 }

/-- A change of the band, its Governor change, and Wind where it is a stop band (R42, R47). -/
def enterBand (g : Governor) (s : State) : State :=
  let t := offerGovernor { s with gov := g }
  if g.stopBand then raise .wind t else t

/-- A beat's reading at the governor (R39). -/
def takeReading (w : Nat) (s : State) : State :=
  let top := highestBand w s.gov.wind.bands
  if s.gov.band < top then enterBand { s.gov.stopHold with band := top } s
  else if s.gov.lowWind w then { s with gov := s.gov.runHold }
  else { s with gov := s.gov.stopHold }

/-- The wind field of a valid beat at the governor (R39). -/
def takeWind (w : Option Nat) (s : State) : State :=
  match w with
  | some r => takeReading r s
  | none => { s with gov := s.gov.pauseHold }

/-- A missed beat is reported (R40). -/
def pauseWind (s : State) : State := { s with gov := s.gov.pauseHold }

/-- The hold timer reaches the hold time (R41). -/
def holdExpired (s : State) : State :=
  if s.gov.hold = .running then
    let g := { s.gov with band := s.gov.band - 1, holdMs := 0 }
    let low := match s.line.contents.wind with
      | some w => g.lowWind w
      | none => false
    enterBand (if low then g else { g with hold := .stopped }) s
  else s

/-! ### Requests to the governor (R43 to R45) -/

/-- The ranges of Table 2-7. -/
def settingsInRange (g : GovernorSettings) : Bool :=
  decide (1024 ≤ g.calibration) && decide (g.calibration ≤ 32767) && decide (100 ≤ g.max) && decide (g.max ≤ 800) &&
    decide (50 ≤ g.slow) && decide (g.slow ≤ 400) && decide (10 ≤ g.margin) && decide (g.margin ≤ 200) &&
    decide (100 ≤ g.rollback) && decide (g.rollback ≤ 2000) && decide (1 ≤ g.up) && decide (g.up ≤ 50) &&
    decide (1 ≤ g.down) && decide (g.down ≤ 50)

/-- A value clamped to the range 50 to Max (R43, R44). -/
def clampDesk (value max : Nat) : Nat := Nat.max 50 (Nat.min value max)

/-- The governor with its settings replaced (R43). -/
def Governor.withSettings (set : GovernorSettings) (g : Governor) : Governor :=
  { g with settings := set, desk := clampDesk g.desk set.max,
           residue := if set.calibration = g.settings.calibration then g.residue else 0 }

/-- SetGovernor and SetWind are accepted in Parked and Stopped (R43, R45). -/
def heldState (s : State) : Bool := decide (s.run.state = .parked) || decide (s.run.state = .stopped)

/-- SetGovernor (R43): the reply gives the Desk value that results. -/
def doSetGovernor (set : GovernorSettings) (s : State) : State × ReplyResult :=
  if heldState s then
    if settingsInRange set then
      let g := s.gov.withSettings set
      (updateCeilings g s, .done (byte2 g.desk))
    else refuse .range s
  else refuse .state s

/-- SetSpeed (R44): the reply gives the value taken. -/
def doSetSpeed (value : Nat) (s : State) : State × ReplyResult :=
  let taken := clampDesk value s.gov.settings.max
  (updateCeilings { s.gov with desk := taken } s, .done (byte2 taken))

/-- A band as SetWind carries it: a ceiling field of 0 is the stop flag (R195). -/
def bandOf (p : Nat × Nat) : WindBand := { entry := p.1, ceiling := if p.2 = 0 then none else some p.2 }

def increasing : List Nat → Bool
  | a :: b :: rest => decide (a < b) && increasing (b :: rest)
  | _ => true

/-- The ranges of R45. -/
def windInRange (bands : List (Nat × Nat)) (hysteresis hold : Nat) : Bool :=
  decide (bands.length ≤ 4) && (bands.all fun p => decide (1 ≤ p.1) && decide (p.1 ≤ 600)) &&
    increasing (bands.map Prod.fst) &&
    (bands.all fun p => decide (p.2 = 0) || (decide (50 ≤ p.2) && decide (p.2 ≤ 800))) &&
    (bands.dropLast.all fun p => !decide (p.2 = 0)) &&
    decide (hysteresis ≤ 50) && decide (10 ≤ hold) && decide (hold ≤ 600)

/-- SetWind (R45). Where the wind band and the Wind ceiling both change, one Governor change is offered (DESIGN CHOICE,
log entry 22: R47 does not say how many). -/
def doSetWind (bands : List (Nat × Nat)) (hysteresis hold : Nat) (s : State) : State × ReplyResult :=
  if heldState s then
    if windInRange bands hysteresis hold then
      let g := { s.gov.stopHold with
        wind := { bands := bands.map bandOf, hysteresis := hysteresis, hold := hold }, band := 0 }
      if s.gov.band = 0 then done { s with gov := g } else done (offerGovernor { s with gov := g })
    else refuse .range s
  else refuse .state s

end Sys2Proof.Machine
end

