-- ==== Sys2Proof/Machine/LineCtl.lean ====
section
/-! DEFINITION. The line controller (chapter 8), less its receiver: the transmitter, valley beats, summit beats and
their supervision, passages, the frame errors and the notices. -/

namespace Sys2Proof.Machine

open Config

/-! ### The transmitter (R162 to R164) -/

/-- A flag as the pair carries it (R157, R158). -/
def flagBits : List Bool := [false, true, true, true, true, true, true, false]

/-- The abort sequence: eight consecutive ones (R157). -/
def abortBits : List Bool := List.replicate 8 true

/-- A frame's transmission starts with the first bit of its body (R157). -/
def Transmit.start (f : SentFrame) : Transmit := .frame f (wireBits f.body).length

/-- The bits that the transmitter has still to send of what it is sending, in their order (R157): what is left of a
frame's body with its zeros inserted, and the flag that closes it; flags are sent whole, and an abort sequence is
followed by a flag. -/
def Transmit.bits : Transmit → List Bool
  | .flags => flagBits
  | .frame f left => (wireBits f.body).drop ((wireBits f.body).length - left) ++ flagBits
  | .aborting _ => abortBits ++ flagBits
  | .afterAbort => flagBits

/-- A Beat's transmission starts: it takes the next valley beat number (R165). -/
def startBeatFrame (b : ValleyBeat) (s : State) : State :=
  { s with line := { s.line with
    safety := none, transmit := .start (.beat s.line.beatNumber b), beatNumber := (s.line.beatNumber + 1) % 256 } }

def startVoiceFrame (f : VoiceFrame) (rest : List VoiceFrame) (s : State) : State :=
  { s with line := { s.line with voice := rest, transmit := .start (.voice f) } }

/-- A Control frame's transmission starts; the overflow flag clears as the queue becomes empty (R162). -/
def startControlFrame (f : ControlFrame) (rest : List ControlFrame) (s : State) : State :=
  let t : State := { s with line := { s.line with control := rest, transmit := .start (.control f) } }
  if rest.isEmpty && s.line.overflow then offerLine { t with line := { t.line with overflow := false } } else t

/-- The end of a flag with no frame in transmission: the head frame of the highest waiting class starts (R163).
A Bulk frame stays at the head of its queue (R162). -/
def startNext (s : State) : State :=
  match s.line.safety, s.line.voice, s.line.control, s.line.bulk with
  | some b, _, _, _ => startBeatFrame b s
  | none, f :: rest, _, _ => startVoiceFrame f rest s
  | none, [], f :: rest, _ => startControlFrame f rest s
  | none, [], [], text :: _ => { s with line := { s.line with transmit := .start (.notice text) } }
  | none, [], [], [] => s

/-- The transmitter sends flags (R157). -/
def sendFlags (s : State) : State := { s with line := { s.line with transmit := .flags } }

/-- The end of a flag with no frame in transmission (R163), which the flag after an abort sequence is too (R164). -/
def flagSent (s : State) : State :=
  match s.line.transmit with
  | .flags => startNext s
  | .afterAbort => startNext (sendFlags s)
  | _ => s

/-- A frame's closing flag has been sent: a Bulk frame leaves its queue, and the next frame is chosen (R162,
R163). -/
def frameSent (s : State) : State :=
  match s.line.transmit with
  | .frame (.notice _) _ => startNext (sendFlags { s with line := { s.line with bulk := s.line.bulk.tail } })
  | .frame _ _ => startNext (sendFlags s)
  | _ => s

/-- The abort sequence and the flag that follows it have been sent (R164). -/
def abortSent (s : State) : State :=
  match s.line.transmit with
  | .aborting _ => startNext (sendFlags s)
  | .afterAbort => startNext (sendFlags s)
  | _ => s

/-- The beat timer expires and starts again (R165). -/
def beatExpired (s : State) : State := offerBeat { s with line := { s.line with beatTimer := beatMs } }

/-! ### Summit beats (R167 to R170) -/

def Line.count (f : LineCounts → LineCounts) (l : Line) : Line := { l with counts := f l.counts }

def countLine (f : LineCounts → LineCounts) (s : State) : State := { s with line := s.line.count f }

/-- A Line change where a field of it changed from `before`. -/
def offerLineIf (before : LineSnapshot) (s : State) : State :=
  if lineSnapshot s = before then s else offerLine s

/-- Counter event 11, a number of times (R167). -/
def offerMissed : Nat → State → State
  | 0, s => s
  | n + 1, s => offerMissed n (offerEvent { code := 11 } s)

/-- The beats lost between the last beat and this one (R167). -/
def beatGap (last : Option Nat) (number : Nat) : Nat :=
  match last with
  | some l => (number + 256 - l % 256) % 256 - 1
  | none => 0

/-- Step 1 of R167. -/
def gapTest (number : Nat) (s : State) : State :=
  if s.line.heard then
    let n := beatGap s.line.lastBeat number
    countLine (fun c => { c with beatsMissed := satAdd c.beatsMissed n }) (offerMissed n s)
  else s

/-- Steps 2 and 3 of R167: number and heard flag, supervision and miss count, with the Line ceiling withdrawn
(R168). -/
def heardBeat (number : Nat) (s : State) : State :=
  let t : State := { s with line := { s.line with lastBeat := some number, heard := true } }
  let u := if s.line.heard then t else offerLine t
  let w : State := { u with line := { u.line with miss := 0, supervision := some supervisionFirstMs } }
  offerLineIf (lineSnapshot u) (setCeiling .line false w)

/-- The demands of a valid beat (R169). -/
def beatDemands (b : BeatFields) (s : State) : State :=
  if b.stop = .emergency ∨ b.loopOpen then raise .summitEmergency s
  else if b.stop = .service then raise .summitService s
  else s

def beatCeiling (b : BeatFields) : Option Nat :=
  if b.ceiling = 0 then none else some (Nat.max 50 (Nat.min b.ceiling 800))

def beatWind (b : BeatFields) : Option Nat := if b.wind = 0xFFFF then none else some (Nat.min b.wind windMax)

/-- The fields kept of a valid beat (R170, R196). -/
def beatContents (b : BeatFields) : SummitContents :=
  { run := b.run, stop := b.stop, loopOpen := b.loopOpen, ready := b.ready, ceiling := beatCeiling b,
    wind := beatWind b, speed := clampSpeed b.speed }

/-- The other fields of a valid beat (R170). -/
def takeFields (b : BeatFields) (s : State) : State :=
  let t := takeWind (beatWind b) (updateCeilings { s.gov with summitCeiling := beatCeiling b } s)
  offerLineIf (lineSnapshot t) { t with line := { t.line with contents := beatContents b } }

/-- A valid summit beat (R167 to R170). -/
def summitBeat (b : BeatFields) (s : State) : State :=
  let t := countLine (fun c => { c with beats := satInc c.beats }) s
  takeFields b (beatDemands b (heardBeat b.number (gapTest b.number t)))

/-- What the miss count does as it reaches a value (R168). -/
def missAction (miss : Nat) (s : State) : State :=
  if miss = 1 then pauseWind s
  else if miss = 2 then setCeiling .line true s
  else if miss = 4 then raise .lineLost s
  else s

/-- The supervision timer expires and starts again (R168). -/
def supervisionExpired (s : State) : State :=
  match s.line.supervision with
  | none => s
  | some _ =>
    let miss := min (s.line.miss + 1) 255
    let t : State := { s with line := { s.line with miss := miss, supervision := some supervisionNextMs } }
    let u := if miss = s.line.miss then t else missAction miss t
    if missBand miss = missBand s.line.miss then u else offerLine u

/-! ### Passages and frame errors (R159, R172) -/

/-- A good Arrived or Departed passage (R172): a number above 250 is given as 0. -/
def passage (departing : Bool) (number metres : Nat) (s : State) : State :=
  let n := if 250 < number then 0 else number
  let t := countLine (fun c => { c with passages := satInc c.passages }) s
  if departing then departed n metres t else arrived n t

/-- A damaged frame is discarded and counted (R159). -/
def frameError (e : FrameFault) (s : State) : State :=
  match e with
  | .length => countLine (fun c => { c with lengthErrors := satInc c.lengthErrors }) s
  | .fcs => offerEvent { code := 10 } (countLine (fun c => { c with fcsErrors := satInc c.fcsErrors }) s)
  | .format => countLine (fun c => { c with formatErrors := satInc c.formatErrors }) s

/-! ### Notices (R173, R174) -/

/-- The head of the notice inbox offered to the desk link (R174). -/
def offerNotice (s : State) : State :=
  match s.line.inbox with
  | [] => s
  | n :: _ =>
    queueReport (.notice n.text n.overrun)
      { s with line := { s.line with noticeOffered := true, noticeTaken := true } }

/-- The notice inbox with a notice received (R174). -/
def Line.receive (text : List Byte) (l : Line) : Line :=
  if l.inbox.length < noticeInbox then { l with inbox := l.inbox ++ [⟨text, false⟩] }
  else { l with
    inbox := l.inbox.dropLast ++ [⟨text, true⟩]
    counts := { l.counts with noticesLost := satInc l.counts.noticesLost } }

/-- A good Notice from the summit (R174). -/
def takeNotice (text : List Byte) (s : State) : State :=
  let t := countLine (fun c => { c with notices := satInc c.notices }) s
  let u : State := { t with line := t.line.receive text }
  if u.line.noticeOffered then u else offerNotice u

/-- The desk link gives notice that a report has been sent (R174, R190): a Notice's entry leaves the inbox and
the next is offered; after another report, an entry not taken is offered again. -/
def reportSent (wasNotice : Bool) (s : State) : State :=
  if wasNotice then
    offerNotice { s with line := { s.line with
      inbox := s.line.inbox.tail, noticeOffered := false, noticeTaken := false } }
  else if s.line.noticeOffered && !s.line.noticeTaken then offerNotice s
  else s

/-- SendNotice (R173). -/
def doSendNotice (text : List Byte) (s : State) : State × ReplyResult :=
  if text.length = 0 ∨ 64 < text.length then refuse .range s
  else if bulkQueue ≤ s.line.bulk.length then refuse .full s
  else done { s with line := { s.line with bulk := s.line.bulk ++ [text] } }

end Sys2Proof.Machine
end

