-- ==== Sys2Proof/Machine/Calls.lean ====
section
/-! DEFINITION. The call unit (chapter 9): call states and signals, the call timers, the codec period and the
playout queue. -/

namespace Sys2Proof.Machine

open Config

/-! ### Call states (R177 to R181, R185) -/

def sendSignal (sig : Signal) (id : Nat) (s : State) : State := offerControl (.callSignal sig id) s

/-- The playout queue emptied (R185). -/
def CallUnit.emptied (c : CallUnit) : CallUnit :=
  { c with queue := [], mode := .buffering, reference := none, last := none, concealStep := 0 }

/-- The current call id, and 0 where there is none: in Idle no rule uses it, and ReadStatus sends the 0 (R177; DESIGN
CHOICE, log entry 16). -/
def callId (s : State) : Nat := s.phone.id.getD 0

/-- The entry to Talking (R177, R181, R182, R185). -/
def enterTalking (id : Nat) (how : CallEvent) (s : State) : State :=
  queueReport (.call how id .talking)
    { s with phone := { s.phone.emptied with
      state := .talking, id := some id, ringRepeat := none, ringOut := none, ringingGap := none,
      voiceLoss := some voiceLossMs, sequence := 0 } }

/-- The return to Idle (R181, R185): the report gives the id of the call that ended. -/
def enterIdle (cause : CallEvent) (s : State) : State :=
  queueReport (.call cause (callId s) .idle)
    { s with phone := { s.phone.emptied with
      state := .idle, id := none, ringRepeat := none, ringOut := none, ringingGap := none, voiceLoss := none } }

/-- The entry to Ringing, or in Ringing the change of the current id (R179, R181). -/
def ringIn (id : Nat) (s : State) : State :=
  queueReport (.call .incoming id .ringing)
    { s with phone := { s.phone with state := .ringing, id := some id, ringingGap := some ringingGapMs } }

/-- The next own id: from 255 it returns to 1 (R177). -/
def nextOwnId (id : Nat) : Nat := if 255 ≤ id then 1 else id + 2

/-- Call (R178): the reply gives the call id. -/
def doCall (s : State) : State × ReplyResult :=
  match s.phone.state with
  | .idle =>
    let id := s.phone.nextId
    (sendSignal .ring id { s with phone := { s.phone with
      state := .calling, id := some id, nextId := nextOwnId id, ringRepeat := some ringRepeatMs,
      ringOut := some ringTimeoutMs } }, .done (byte1 id))
  | _ => refuse .busy s

/-- Answer (R178). -/
def doAnswer (s : State) : State × ReplyResult :=
  match s.phone.state with
  | .ringing => done (enterTalking (callId s) .connectedAccepted (sendSignal .answer (callId s) s))
  | _ => refuse .state s

/-- HangUp (R178). -/
def doHangUp (s : State) : State × ReplyResult :=
  match s.phone.state with
  | .idle => refuse .state s
  | _ => done (enterIdle .endedHungUp (sendSignal .clear (callId s) s))

/-! ### Signals from the summit (Table 9-2) -/

def ringSignal (id : Nat) (s : State) : State :=
  match s.phone.state with
  | .idle => ringIn id s
  | .calling =>
    let adopted := Nat.min (callId s) id
    enterTalking adopted .connectedGlare (sendSignal .answer adopted s)
  | .ringing =>
    if s.phone.id = some id then { s with phone := { s.phone with ringingGap := some ringingGapMs } }
    else ringIn id s
  | .talking => if s.phone.id = some id then sendSignal .answer id s else sendSignal .clear id s

def answerSignal (id : Nat) (s : State) : State :=
  if s.phone.id = some id then
    match s.phone.state with
    | .calling => enterTalking id .connectedAnswered s
    | .talking => s
    | _ => sendSignal .clear id s
  else sendSignal .clear id s

def clearSignal (id : Nat) (s : State) : State :=
  if s.phone.id = some id then enterIdle .endedCleared s else s

/-- A good CallSignal (R172, R179). -/
def callSignal (sig : Signal) (id : Nat) (s : State) : State :=
  let t := countLine (fun c => { c with callSignals := satInc c.callSignals }) s
  match sig with
  | .ring => ringSignal id t
  | .answer => answerSignal id t
  | .clear => clearSignal id t

/-! ### Timers (R180) -/

/-- The ring repeat timer expires. -/
def ringAgain (s : State) : State :=
  match s.phone.state, s.phone.ringRepeat with
  | .calling, some _ =>
    sendSignal .ring (callId s) { s with phone := { s.phone with ringRepeat := some ringRepeatMs } }
  | _, _ => s

/-- The ring timeout expires. -/
def ringExpired (s : State) : State :=
  match s.phone.state, s.phone.ringOut with
  | .calling, some _ => enterIdle .endedNoAnswer (sendSignal .clear (callId s) s)
  | _, _ => s

/-- The ringing gap expires. -/
def ringStopped (s : State) : State :=
  match s.phone.state, s.phone.ringingGap with
  | .ringing, some _ => enterIdle .endedRingStopped s
  | _, _ => s

/-- The voice loss timer expires. -/
def callLost (s : State) : State :=
  match s.phone.state, s.phone.voiceLoss with
  | .talking, some _ => enterIdle .endedLost (sendSignal .clear (callId s) s)
  | _, _ => s

/-! ### The playout queue (R183) -/

/-- s − r modulo 256. -/
def seqDiff (s r : Nat) : Nat := (s + 256 - r % 256) % 256

/-- A sequence is newer than the reference (R183). -/
def newer (s r : Nat) : Bool := decide (1 ≤ seqDiff s r) && decide (seqDiff s r ≤ 127)

/-- A block placed in the queue in its order of difference from the reference. -/
def placeBlock (r : Nat) (b : PlayoutBlock) : List PlayoutBlock → List PlayoutBlock
  | [] => [b]
  | x :: xs => if seqDiff b.sequence r < seqDiff x.sequence r then b :: x :: xs else x :: placeBlock r b xs

/-- Step 5 of R183. -/
def CallUnit.enqueue (r : Nat) (b : PlayoutBlock) (c : CallUnit) : CallUnit :=
  let q := placeBlock r b c.queue
  if playoutMax < q.length then
    { c with queue := q.tail, counts := { c.counts with overflow := satInc c.counts.overflow } }
  else { c with queue := q }

/-- Steps 3 to 5 of R183. -/
def CallUnit.takeBlock (r : Nat) (b : PlayoutBlock) (c : CallUnit) : CallUnit :=
  if newer b.sequence r = false then { c with counts := { c.counts with late := satInc c.counts.late } }
  else if c.queue.any fun x => decide (x.sequence = b.sequence) then
    { c with counts := { c.counts with duplicate := satInc c.counts.duplicate } }
  else c.enqueue r b

/-- R183 on the call unit. -/
def CallUnit.takeVoice (id : Nat) (b : PlayoutBlock) (c : CallUnit) : CallUnit :=
  if c.state = .talking ∧ c.id = some id then
    let r := c.reference.getD ((b.sequence + 255) % 256)
    { c with voiceLoss := some voiceLossMs, reference := some r }.takeBlock r b
  else { c with counts := { c.counts with foreign := satInc c.counts.foreign } }

/-- A good Voice frame (R172, R183). -/
def voice (id sequence : Nat) (block : List Byte) (s : State) : State :=
  let t := countLine (fun c => { c with voices := satInc c.voices }) s
  { t with phone := t.phone.takeVoice id ⟨sequence, block⟩ }

/-! ### The block period (R182, R184) -/

/-- The expected block is missing (R184). -/
def conceal (expected : Nat) (s : State) : State :=
  let c := s.phone
  offerEvent { code := 12 } { s with phone := { c with
    codec := if c.concealStep = 0 then c.last.getD silence else silence
    concealStep := 1
    reference := some expected
    counts := { c.counts with concealed := satInc c.counts.concealed }
    mode := if c.queue.isEmpty then .buffering else c.mode } }

/-- A period in Playing (R184). -/
def playing (s : State) : State :=
  let c := s.phone
  let expected := (c.reference.getD 0 + 1) % 256
  match c.queue with
  | b :: rest =>
    if b.sequence = expected then
      { s with phone := { c with
        queue := rest, codec := b.block, reference := some expected, last := some b.block, concealStep := 0 } }
    else conceal expected s
  | [] => conceal expected s

/-- The playout at a period end in Talking (R184). -/
def playout (s : State) : State :=
  match s.phone.mode with
  | .playing => playing s
  | .buffering =>
    match s.phone.queue with
    | b :: _ :: _ => playing { s with phone := { s.phone with
        mode := .playing, reference := some ((b.sequence + 255) % 256) } }
    | _ => { s with phone := { s.phone with codec := silence } }

/-- The captured block sent as a Voice frame (R182). -/
def sendBlock (captured : List Byte) (s : State) : State :=
  let t := offerVoice ⟨callId s, s.phone.sequence, captured⟩ s
  { t with phone := { t.phone with sequence := (t.phone.sequence + 1) % 256 } }

/-- A block period end (R182, R184). -/
def blockPeriod (captured : List Byte) (s : State) : State :=
  let t : State := { s with phone := { s.phone with blockTimer := blockMs } }
  match t.phone.state with
  | .talking => playout (sendBlock captured t)
  | _ => { t with phone := { t.phone with codec := silence } }

end Sys2Proof.Machine
end

