-- ==== Sys2Proof/Machine/Receiver.lean ====
section
/-! DEFINITION. The receiver of the summit line (R158 to R161): flags, aborts, body bits with inserted zeros
removed, the flag timer, and the handing on of what a frame turns out to be. -/

namespace Sys2Proof.Machine

open Config

/-- A received body is handed on by its kind, or discarded and counted (R159, R161). -/
def takeReceived (r : Received) (s : State) : State :=
  match r with
  | .bad e => frameError e s
  | .elsewhere => s
  | .beat b => summitBeat b s
  | .passage departing number metres => passage departing number metres s
  | .callSignal sig id => callSignal sig id s
  | .voice id sequence block => voice id sequence block s
  | .notice text => takeNotice text s

/-- The receiver in a state, with no frame in reception. -/
def Line.receiverTo (r : Receiver) (l : Line) : Line := { l with receiver := r, rxBits := [], rxOnes := 0 }

def receiverTo (r : Receiver) (s : State) : State := { s with line := s.line.receiverTo r }

/-- A flag is recognised (R158). -/
def flagReceived (s : State) : State :=
  let t := receiverTo .idle { s with line := { s.line with flagTimer := flagMs } }
  match s.line.receiver with
  | .hunting => offerLine t
  | .receiving => takeReceived (parseBits s.line.rxBits) t
  | _ => t

/-- The flag timer expires (R158). -/
def flagExpired (s : State) : State :=
  let t := receiverTo .hunting { s with line := { s.line with flagTimer := 0 } }
  if s.line.receiver = .hunting then t else offerLine t

/-- An abort (R158, R160). In Idle its ones have begun a frame without a whole byte. -/
def abortReceived (s : State) : State :=
  match s.line.receiver with
  | .receiving =>
    let t := receiverTo .discarding s
    if 8 ≤ s.line.rxBits.length then countLine (fun c => { c with aborts := satInc c.aborts }) t else t
  | .idle => receiverTo .discarding s
  | _ => s

/-- The bits of a 73rd body byte are complete (R159). -/
def overlong (bits : List Bool) : Bool := decide ((bodyMax + 1) * 8 ≤ bits.length)

/-- The bits of a body as they accumulate, each inserted zero removed; none once a 73rd byte completes. -/
def accumulate : List Bool → List Bool → Nat → Option (List Bool × Nat)
  | [], acc, ones => some (acc, ones)
  | b :: bs, acc, ones =>
    if ones = 5 ∧ b = false then accumulate bs acc 0
    else
      let acc' := acc ++ [b]
      if overlong acc' then none else accumulate bs acc' (if b then ones + 1 else 0)

/-- Bits of a frame in reception (R158, R159). -/
def receiveBits (bits : List Bool) (s : State) : State :=
  match accumulate bits s.line.rxBits s.line.rxOnes with
  | some (acc, ones) => { s with line := { s.line with receiver := .receiving, rxBits := acc, rxOnes := ones } }
  | none => frameError .length (receiverTo .discarding s)

/-- Bits other than a flag or an abort (R158). -/
def bodyBits (bits : List Bool) (s : State) : State :=
  match s.line.receiver with
  | .idle => if bits.isEmpty then s else receiveBits bits s
  | .receiving => receiveBits bits s
  | _ => s

end Sys2Proof.Machine
end

