-- ==== Sys2Proof/Machine/Requests.lean ====
section
/-! DEFINITION. The desk port's requests as bytes: the kind codes of Table 11-3, and the payloads of R195 in both
directions. -/

namespace Sys2Proof.Machine

/-- The kind code of a request (Table 11-3). -/
def requestKind : Request → Nat
  | .setGeometry _ _ _ => 0x10
  | .setGovernor _ => 0x11
  | .setSpacing _ _ => 0x12
  | .setWind _ _ _ => 0x13
  | .setBerth _ _ => 0x14
  | .setMotion _ => 0x15
  | .setTrack _ _ _ => 0x16
  | .setTower _ _ _ _ => 0x17
  | .setScan _ => 0x18
  | .setGrip _ _ => 0x19
  | .setCounter _ _ => 0x1A
  | .setWatch _ _ => 0x1B
  | .wake => 0x20
  | .park => 0x21
  | .run => 0x22
  | .stop => 0x23
  | .setSpeed _ => 0x24
  | .clearStop _ => 0x25
  | .resetTrip => 0x26
  | .restart => 0x27
  | .declare _ _ => 0x30
  | .release _ => 0x31
  | .hold _ => 0x32
  | .renumber _ _ => 0x33
  | .garage => 0x34
  | .inhibitLaunch _ => 0x35
  | .abandon => 0x36
  | .mark _ => 0x37
  | .unmark _ => 0x38
  | .berthCommand _ _ _ => 0x40
  | .removeCarrier _ => 0x41
  | .ackTower _ _ => 0x42
  | .armCounter _ => 0x43
  | .clearHits _ => 0x44
  | .call => 0x50
  | .answer => 0x51
  | .hangUp => 0x52
  | .sendNotice _ => 0x53
  | .releaseReports _ => 0x58
  | .readStatus => 0x60
  | .readTrack => 0x61
  | .readRoster _ => 0x62
  | .readBerths => 0x63
  | .readTowers _ => 0x64
  | .readCounters => 0x65
  | .readWatches => 0x66
  | .readLine => 0x67
  | .readGovernor => 0x68

/-- A flags byte with one flag. -/
def flag1 (b : Bool) : List Byte := [byte (bit b 0)]

/-- The bands of a SetWind payload (R195). -/
def encodeBands : List (Nat × Nat) → List Byte
  | [] => []
  | (e, c) :: rest => byte2 e ++ byte2 c ++ encodeBands rest

/-- A request's payload (R195). -/
def encodePayload : Request → List Byte
  | .setGeometry u d k => byte2 u ++ byte2 d ++ byte2 k
  | .setGovernor g =>
    byte2 g.calibration ++ byte2 g.max ++ byte2 g.slow ++ byte2 g.margin ++ byte2 g.rollback ++ byte2 g.up ++
      byte2 g.down
  | .setSpacing g v => byte2 g ++ byte2 v
  | .setWind bands h t => byte1 bands.length ++ encodeBands bands ++ byte1 h ++ byte2 t
  | .setBerth n r =>
    byte1 n ++ byte1 r.role ++ byte2 r.tUnlock ++ byte2 r.tOpen ++ byte2 r.dwell ++ byte2 r.tClose ++
      byte2 r.tLock ++ byte2 r.tRecover ++ byte1 r.maxReopens
  | .setMotion g => byte2 g
  | .setTrack slow limit accept => byte1 slow ++ byte2 limit ++ flag1 accept
  | .setTower slot address coord enables => byte1 slot ++ byte1 address ++ byte2 coord ++ byte1 enables
  | .setScan d => byte2 d
  | .setGrip a b => byte2 a ++ byte2 b
  | .setCounter n r =>
    byte1 n ++ byte1 r.event ++ byte2 r.preset ++ byte1 r.mask ++ byte1 r.qualifier ++ byte2 r.threshold ++
      byte1 r.action ++ flag1 r.freeze ++ byte1 r.window ++ flag1 r.chained
  | .setWatch n r =>
    byte1 n ++ byte2 r.base ++ byte2 r.size ++ byte1 r.kind ++ byte1 r.action ++ flag1 r.globalOn ++
      flag1 r.localOn
  | .setSpeed v => byte2 v
  | .clearStop n => byte1 n
  | .declare p n => byte1 p ++ byte1 n
  | .release n => byte1 n
  | .hold n => byte1 n
  | .renumber n m => byte1 n ++ byte1 m
  | .inhibitLaunch b => flag1 b
  | .mark n => byte1 n
  | .unmark n => byte1 n
  | .berthCommand n c m => byte1 n ++ byte1 c ++ byte1 m
  | .removeCarrier n => byte1 n
  | .ackTower n p => byte1 n ++ byte1 p
  | .armCounter n => byte1 n
  | .clearHits n => byte1 n
  | .sendNotice t => t
  | .releaseReports c => byte1 c
  | .readRoster n => byte1 n
  | .readTowers n => byte1 n
  | .wake | .park | .run | .stop | .resetTrip | .restart | .garage | .abandon | .call | .answer | .hangUp
  | .readStatus | .readTrack | .readBerths | .readCounters | .readWatches | .readLine | .readGovernor => []

/-! ### Decoding by kind (R188, R195): `none` is a payload whose length does not suit the kind -/

/-- A request without a payload. -/
def noPayload (r : Request) : List Byte → Option Request
  | [] => some r
  | _ => none

def payload1 (f : Nat → Request) : List Byte → Option Request
  | [a] => some (f a.toNat)
  | _ => none

def payload11 (f : Nat → Nat → Request) : List Byte → Option Request
  | [a, b] => some (f a.toNat b.toNat)
  | _ => none

def payload2 (f : Nat → Request) : List Byte → Option Request
  | [a, b] => some (f (nat2 a b))
  | _ => none

def payload22 (f : Nat → Nat → Request) : List Byte → Option Request
  | [a, b, c, d] => some (f (nat2 a b) (nat2 c d))
  | _ => none

def payloadGeometry : List Byte → Option Request
  | [a, b, c, d, e, f] => some (.setGeometry (nat2 a b) (nat2 c d) (nat2 e f))
  | _ => none

/-- SetGovernor's seven values (R43), the calibration and the rollback limit in two bytes each (DESIGN CHOICE, log entry
15: Table 11-1 gives mm no width of a setting). -/
def payloadGovernor : List Byte → Option Request
  | [a, b, c, d, e, f, g, h, i, j, k, l, m, n] =>
    some (.setGovernor { calibration := nat2 a b, max := nat2 c d, slow := nat2 e f, margin := nat2 g h,
                         rollback := nat2 i j, up := nat2 k l, down := nat2 m n })
  | _ => none

/-- The bands of a SetWind payload, and what follows them. -/
def decodeBands : Nat → List Byte → List (Nat × Nat) × List Byte
  | 0, rest => ([], rest)
  | n + 1, a :: b :: c :: d :: rest =>
    ((nat2 a b, nat2 c d) :: (decodeBands n rest).1, (decodeBands n rest).2)
  | _ + 1, rest => ([], rest)

/-- SetWind's payload is 4 + 4n bytes long (R195). -/
def payloadWind : List Byte → Option Request
  | n :: body =>
    if body.length = 3 + 4 * n.toNat then
      match decodeBands n.toNat body with
      | (bands, [h, a, b]) => some (.setWind bands h.toNat (nat2 a b))
      | _ => none
    else none
  | [] => none

def payloadBerth : List Byte → Option Request
  | [n, r, a, b, c, d, e, f, g, h, i, j, k, l, m] =>
    some (.setBerth n.toNat { role := r.toNat, tUnlock := nat2 a b, tOpen := nat2 c d, dwell := nat2 e f,
                              tClose := nat2 g h, tLock := nat2 i j, tRecover := nat2 k l, maxReopens := m.toNat })
  | _ => none

def payloadTrack : List Byte → Option Request
  | [a, b, c, d] => some (.setTrack a.toNat (nat2 b c) (d.getLsbD 0))
  | _ => none

/-- SetTower's values (R125), the coordinate in two bytes as Table 11-8 holds it (DESIGN CHOICE, log entry 15). -/
def payloadTower : List Byte → Option Request
  | [a, b, c, d, e] => some (.setTower a.toNat b.toNat (nat2 c d) e.toNat)
  | _ => none

def payloadCounter : List Byte → Option Request
  | [n, e, p1, p2, m, q, t1, t2, a, f, w, c] =>
    some (.setCounter n.toNat { event := e.toNat, preset := nat2 p1 p2, mask := m.toNat, qualifier := q.toNat,
                                threshold := nat2 t1 t2, action := a.toNat, freeze := f.getLsbD 0,
                                window := w.toNat, chained := c.getLsbD 0 })
  | _ => none

/-- SetWatch's values (R150), the base in two bytes, as metres (DESIGN CHOICE, log entry 15: Table 11-1 gives metres two
bytes and coordinates four, and the base is a coordinate in m). -/
def payloadWatch : List Byte → Option Request
  | [n, b1, b2, s1, s2, k, a, g, l] =>
    some (.setWatch n.toNat { base := nat2 b1 b2, size := nat2 s1 s2, kind := k.toNat, action := a.toNat,
                              globalOn := g.getLsbD 0, localOn := l.getLsbD 0 })
  | _ => none

def payloadInhibit : List Byte → Option Request
  | [a] => some (.inhibitLaunch (a.getLsbD 0))
  | _ => none

def payloadCommand : List Byte → Option Request
  | [a, b, c] => some (.berthCommand a.toNat b.toNat c.toNat)
  | _ => none

def payloadNotice (text : List Byte) : Option Request :=
  if text.length ≤ 248 then some (.sendNotice text) else none

/-- The payload decoder of a kind code; none for a code that names no request (R188). -/
def payloadDecoder : Nat → Option (List Byte → Option Request)
  | 0x10 => some payloadGeometry
  | 0x11 => some payloadGovernor
  | 0x12 => some (payload22 .setSpacing)
  | 0x13 => some payloadWind
  | 0x14 => some payloadBerth
  | 0x15 => some (payload2 .setMotion)
  | 0x16 => some payloadTrack
  | 0x17 => some payloadTower
  | 0x18 => some (payload2 .setScan)
  | 0x19 => some (payload22 .setGrip)
  | 0x1A => some payloadCounter
  | 0x1B => some payloadWatch
  | 0x20 => some (noPayload .wake)
  | 0x21 => some (noPayload .park)
  | 0x22 => some (noPayload .run)
  | 0x23 => some (noPayload .stop)
  | 0x24 => some (payload2 .setSpeed)
  | 0x25 => some (payload1 .clearStop)
  | 0x26 => some (noPayload .resetTrip)
  | 0x27 => some (noPayload .restart)
  | 0x30 => some (payload11 .declare)
  | 0x31 => some (payload1 .release)
  | 0x32 => some (payload1 .hold)
  | 0x33 => some (payload11 .renumber)
  | 0x34 => some (noPayload .garage)
  | 0x35 => some payloadInhibit
  | 0x36 => some (noPayload .abandon)
  | 0x37 => some (payload1 .mark)
  | 0x38 => some (payload1 .unmark)
  | 0x40 => some payloadCommand
  | 0x41 => some (payload1 .removeCarrier)
  | 0x42 => some (payload11 .ackTower)
  | 0x43 => some (payload1 .armCounter)
  | 0x44 => some (payload1 .clearHits)
  | 0x50 => some (noPayload .call)
  | 0x51 => some (noPayload .answer)
  | 0x52 => some (noPayload .hangUp)
  | 0x53 => some payloadNotice
  | 0x58 => some (payload1 .releaseReports)
  | 0x60 => some (noPayload .readStatus)
  | 0x61 => some (noPayload .readTrack)
  | 0x62 => some (payload1 .readRoster)
  | 0x63 => some (noPayload .readBerths)
  | 0x64 => some (payload1 .readTowers)
  | 0x65 => some (noPayload .readCounters)
  | 0x66 => some (noPayload .readWatches)
  | 0x67 => some (noPayload .readLine)
  | 0x68 => some (noPayload .readGovernor)
  | _ => none

/-- Tests 2 and 3 of R188 on a message's kind byte and payload. -/
def decodeRequest (kind : Nat) (payload : List Byte) : Except Reason Request :=
  match payloadDecoder kind with
  | none => .error .unknown
  | some f =>
    match f payload with
    | some r => .ok r
    | none => .error .length

end Sys2Proof.Machine
end

