-- ==== Sys2Proof/Machine/Reads.lean ====
section
/-! DEFINITION. The replies to the read requests, as the bytes of chapter 11 (section 11.5), each from the state as
it stands when the request is taken. -/

namespace Sys2Proof.Machine

open Config

/-! ### Codes of the enumerations (Table 11-1) -/

def markSet (set : List Mark) : List Byte := byte2 (setBits Mark.all set)

def sourceSet (set : List Source) : List Byte := byte3 (setBits Source.all set)

/-- The index of a source in Table 1-6. -/
def sourceCode (x : Source) : Nat := Source.all.idxOf x

def legCode : Leg → Nat
  | .outbound => 0
  | .atSummit => 1
  | .inbound => 2

def classCode : GripClass → Nat
  | .good => 0
  | .marginal => 1
  | .fail => 2
  | .noTest => 3
  | .unexpected => 4

def placeCode : Place → Nat
  | .buffer => 0
  | .berth i => idxNumber i
  | .launchBerth => 5
  | .launchRecord => 6
  | .roster => 7
  | .none => 8

def berthStateCode : BerthState → Nat
  | .parked => 0
  | .homing => 1
  | .locked => 2
  | .unlocking => 3
  | .unlocked => 4
  | .opening => 5
  | .opened => 6
  | .closing => 7
  | .closed => 8
  | .locking => 9
  | .fault => 10

def modeCode : BerthMode → Nat
  | .auto => 0
  | .manual => 1

def roleCode : Role → Nat
  | .unload => 0
  | .load => 1
  | .both => 2
  | .pass => 3

def motionCode : Motion → Nat
  | .opening => 1
  | .closing => 2
  | .homing => 3

def timerCode : BerthTimer → Nat
  | .recovery => 1
  | .unlock => 2
  | .run => 3
  | .dwell => 4
  | .lock => 5

def faultCode : FaultReason → Nat
  | .none => 0
  | .driveFault => 1
  | .unlockFailed => 2
  | .motionIncomplete => 3
  | .lockTimeout => 4
  | .homingObstructed => 5
  | .homeNoLock => 6

def pointReadCode : PointCode → Nat
  | .unknown => 0
  | .normal => 1
  | .offsetIn => 2
  | .offsetOut => 3
  | .out => 4
  | .broken => 5
  | .disabled => 6

def latchCode : Latch → Nat
  | .clear => 0
  | .out => 1
  | .broken => 2

def deadlineCode : Deadline → Nat
  | .within => 0
  | .stale => 1
  | .silent => 2

def holdCode : HoldCondition → Nat
  | .stopped => 0
  | .running => 1
  | .paused => 2

def qualifierCode : Qualifier → Nat
  | .all => 0
  | .marked => 1
  | .unmarked => 2

def actionCode : CounterAction → Nat
  | .report => 0
  | .slow => 1
  | .stop => 2

def watchKindCode : WatchKind → Nat
  | .carrier => 0
  | .tower => 1
  | .both => 2

def watchActionCode : WatchAction → Nat
  | .note => 0
  | .slow => 1
  | .stop => 2

def receiverCode : Receiver → Nat
  | .hunting => 0
  | .idle => 1
  | .receiving => 2
  | .discarding => 3

def lineClassCode : LineClass → Nat
  | .safety => 0
  | .voice => 1
  | .control => 2
  | .bulk => 3

def callStateCode : CallState → Nat
  | .idle => 0
  | .calling => 1
  | .ringing => 2
  | .talking => 3

def maskCode (set : List RunState) : Nat :=
  setBits [RunState.parked, .waking, .stopped, .starting, .running, .stopping, .tripped] set

/-! ### ReadTrack (R75) -/

/-- A track record (Table 11-7). -/
def trackRecordBytes (r : CarrierRec) : List Byte :=
  byte1 r.number ++ markSet r.marks ++ travel4 r.entryTravel ++ flag1 r.gripStuck ++ byte1 (idxBits r.cycles) ++
    byte1 r.reopens ++ opt2 r.force ++ optTravel r.releaseTravel

/-- The records of the places and the launch record, as ReadTrack lists them. -/
def trackEntries (s : State) : List (Place × CarrierRec) :=
  (placed s).filter fun p => !decide (p.1 = .roster)

def readTrack (s : State) : List Byte :=
  let k := s.track
  let t := s.update.t
  byte1 (flags [k.step.isSome, k.step.isSome && s.run.platformStop, indexJamCause s, k.launch.isSome, k.inhibit,
      k.settings.acceptUnlisted]) ++
    byte2 ((k.step.map fun x => x.remaining).getD 0) ++ travel4 k.releaseMark ++
    int4 (travelDiff t k.releaseMark) ++
    int4 ((k.launch.map fun r => travelDiff t (r.releaseTravel.getD t)).getD 0) ++
    byte2 k.discarded ++ byte2 k.settings.spacing ++ byte2 k.settings.vMin ++ byte1 k.settings.slow ++
    byte2 k.settings.limit ++ byte2 k.settings.fMin ++ byte2 k.settings.fOk ++ byte1 (trackEntries s).length ++
    (trackEntries s).flatMap fun p => byte (placeCode p.1) :: trackRecordBytes p.2

/-! ### ReadRoster (R122) -/

/-- A roster record of 39 bytes. -/
def rosterRecordBytes (k : Roster) (r : RosterRec) : List Byte :=
  byte1 r.carrier.number ++ markSet r.carrier.marks ++ opt2 r.carrier.force ++ byte1 (classCode r.gripClass) ++
    byte1 (legCode r.leg) ++ byte1 (flags [r.overdue, r.prevCoord.isSome]) ++ travel4 r.anchor ++
    int4 r.position ++ int4 (coordOf r.position) ++ int4 (r.prevCoord.getD 0) ++ byte1 (idxBits r.exempt) ++
    int4 ((excess k r).getD 0) ++ travel4 r.carrier.entryTravel ++ byte1 (idxBits r.carrier.cycles) ++
    byte1 r.carrier.reopens ++ travel4 (r.carrier.releaseTravel.getD 0)

def legCount (leg : Leg) (k : Roster) : Nat := (k.records.filter (onLeg leg)).length

def readRoster (start : Nat) (s : State) : List Byte :=
  let k := s.roster
  let page := (k.records.drop start).take 6
  byte2 k.lUp ++ byte2 k.lDown ++ byte2 k.slack ++ byte1 k.records.length ++ byte1 (legCount .outbound k) ++
    byte1 (legCount .atSummit k) ++ byte1 (legCount .inbound k) ++
    byte1 (flags [rosterMarked .skipped s, missing k]) ++ byte1 start ++ byte1 page.length ++
    page.flatMap (rosterRecordBytes k)

/-! ### ReadBerths (R103) -/

/-- The berth's motion request: its entry on the wait list. -/
def requestCode (s : State) (i : Idx4) : Nat :=
  match s.supply.wait.find? fun e => decide (e.1 = i) with
  | some (_, m) => motionCode m
  | none => 0

def berthTimerBytes (frozen : Bool) (b : Berth) : List Byte :=
  match b.timer with
  | none => byte1 0 ++ byte2 0
  | some (k, ms) => byte1 (timerCode k + bit frozen 7) ++ byte2 (min ms countMax)

def berthSettingBytes (x : BerthSettings) : List Byte :=
  byte1 (roleCode x.role) ++ byte2 x.tUnlock ++ byte2 x.tOpen ++ byte2 x.dwell ++ byte2 x.tClose ++
    byte2 x.tLock ++ byte2 x.tRecover ++ byte1 x.maxReopens

def berthBytes (s : State) (i : Idx4) : List Byte :=
  let b := s.berth i
  byte1 (berthStateCode b.state) ++ byte1 (modeCode b.mode) ++ byte1 (roleCode b.settings.role) ++
    flag1 b.occupied ++ flag1 b.cycleComplete ++ flag1 b.doorsRan ++ byte1 b.reopens ++ flag1 b.holdOpen ++
    byte1 (requestCode s i) ++ flag1 b.grant ++ berthTimerBytes s.run.platformStop b ++
    byte2 (min b.motionElapsed countMax) ++ flag1 b.motionSeen ++ byte1 (faultCode b.reason) ++
    flag1 b.faultPending ++ berthSettingBytes b.settings

/-- The wait list as four bytes in its order. -/
def waitBytes (wait : List (Idx4 × Motion)) : List Byte :=
  let codes := wait.map fun e => byte (idxNumber e.1 + 16 * motionCode e.2)
  (codes ++ List.replicate 4 (byte 0)).take 4

def senseBytes (b : Berth) : List Byte :=
  byte1 (flags [b.senses.motionComplete, b.senses.lockConfirm, b.senses.obstruction, b.senses.driveFault])

def readBerths (s : State) : List Byte :=
  Idx4.all.flatMap (berthBytes s) ++ byte1 (idxBits (grantHolders s)) ++ waitBytes s.supply.wait ++
    opt2 (s.supply.sinceGrant.map fun t => min t 65534) ++ byte2 s.supply.gap ++
    Idx4.all.flatMap fun i => senseBytes (s.berth i)

/-! ### ReadTowers (R138) -/

def codeNibbles (q : Quad PointCode) : Nat :=
  pointReadCode q.v1 + 16 * pointReadCode q.v2 + 256 * pointReadCode q.v3 + 4096 * pointReadCode q.v4

def latchPairs (q : Quad Latch) : Nat :=
  latchCode q.v1 + 4 * latchCode q.v2 + 16 * latchCode q.v3 + 64 * latchCode q.v4

/-- A tower slot entry (Table 11-8). -/
def slotBytes (n : Nat) (x : Slot) : List Byte :=
  byte1 n ++ byte1 (x.address.getD 0) ++ byte2 x.coord ++
    byte1 (flags [x.enables.v1, x.enables.v2, x.enables.v3, x.enables.v4]) ++ byte2 (codeNibbles x.codes) ++
    byte1 (latchPairs x.latches) ++ byte2 x.age ++ byte1 (deadlineCode x.deadline) ++
    byte1 (flags [x.heard, x.extraDue]) ++ byte2 x.unread

def slotPage : Nat → List Slot → List Byte
  | _, [] => []
  | n, x :: xs => slotBytes n x ++ slotPage (n + 1) xs

/-- ReadTowers' reply from one slot on (R138). R138 gives the pass in rounds and the parked poll timer in Parked alone;
in the other polling mode their fields hold the pass of the abandoned round and 0, and the slot of a transaction in
flight is given in both modes (DESIGN CHOICE, log entry 16). -/
def readTowers (start : Nat) (s : State) : List Byte :=
  let k := s.scanner
  let page := (k.slots.drop start).take 12
  byte2 k.deadline ++ flag1 (!decide (s.run.state = .parked)) ++ flag1 (decide (k.pass = .extra)) ++
    byte1 ((k.transaction.map fun t => t.slot).getD 0) ++ byte2 (k.parkedTimer.getD 0) ++ byte1 k.pollNumber ++
    byte2 k.late ++ byte1 (flags [s.gov.towerCeiling, towerOutCause s, towerSilentCause s]) ++ byte1 start ++
    byte1 page.length ++ slotPage (start + 1) page

/-! ### ReadCounters and ReadWatches (R148, R156) -/

def sampleBytes : Option Sample → List Byte
  | none => List.replicate 12 (byte 0)
  | some x =>
    byte1 1 ++ byte1 x.code ++ byte1 (x.carrier.getD 0) ++ byte1 (x.slot.getD 0) ++ byte1 (x.point.getD 0) ++
      travel4 x.t ++ byte1 (runCode x.run) ++ int2 (clampSpeed x.v)

def counterBytes (c : Counter) : List Byte :=
  byte1 c.event ++ byte2 c.preset ++ byte1 (maskCode c.mask) ++ byte1 (qualifierCode c.qualifier) ++
    byte2 c.threshold ++ byte1 (actionCode c.action) ++ flag1 c.freeze ++ byte1 c.window ++ flag1 c.chained ++
    byte2 c.value ++ flag1 c.alarm ++ flag1 c.frozen ++ byte2 c.expiries ++ sampleBytes c.sample

def readCounters (s : State) : List Byte :=
  Idx4.all.flatMap (fun i => counterBytes (s.counter i)) ++
    byte1 (flags [s.gov.counterCeiling, counterCause s])

/-- A watch's setup with the start and the end of its window (R156): base, size, start and end in two bytes each, and as
the end the first coordinate past the window, start + size (DESIGN CHOICE, log entry 23: R156 does not say whether the
end is the last coordinate inside, nor how many bytes the coordinates take). -/
def watchSetupBytes (w : Watch) : List Byte :=
  byte2 w.base ++ byte2 w.size ++ byte1 (watchKindCode w.kind) ++ byte1 (watchActionCode w.action) ++
    flag1 w.globalOn ++ flag1 w.localOn ++ byte2 w.start ++ byte2 (w.start + w.size)

/-- A count and the carrier numbers it counts. -/
def numberList (l : List Nat) : List Byte := byte1 l.length ++ l.map byte

/-- The carriers of ReadWatches for one watch (R156): the numbers that the most recent travel update gave inside its
window, and those of the roster's records that are exempt from it now, head first (DESIGN CHOICE, log entry 23: R156
gives the moment of the first list only). -/
def watchCarriers (s : State) (i : Idx4) : List Byte :=
  let w := s.watches.units.get i
  numberList ((s.watches.given.filter fun g => w.inside g.coord).map fun g => g.number) ++
    numberList ((s.roster.records.filter fun r => decide (i ∈ r.exempt)).map fun r => r.carrier.number)

def readWatches (s : State) : List Byte :=
  Idx4.all.flatMap (fun i => watchSetupBytes (s.watches.units.get i)) ++
    byte1 (flags (Idx4.all.map fun i => (s.watches.units.get i).enabled)) ++
    byte1 (flags (Idx4.all.map fun i => (s.watches.units.get i).hit)) ++
    Idx4.all.flatMap (watchCarriers s) ++ flag1 s.gov.watchCeiling

/-! ### ReadLine (R175) -/

/-- The frame in transmission, kept until its closing flag or abort sequence has been sent (R157). -/
def Transmit.sending? : Transmit → Option SentFrame
  | .flags => none
  | .frame f _ => some f
  | .aborting f => f
  | .afterAbort => none

def transmitBytes (t : Transmit) : List Byte :=
  match t.sending? with
  | some f => [byte (lineClassCode f.cls), byte f.kind]
  | none => [byte 0, byte 0]

def controlKind : ControlFrame → Byte
  | .passage _ => byte 2
  | .callSignal _ _ => byte 3

def contentsBytes (c : SummitContents) : List Byte :=
  byte1 (runCode c.run) ++ byte1 (stopCode c.stop) ++ flag1 c.loopOpen ++ flag1 c.ready ++ opt2 c.ceiling ++
    opt2 c.wind ++ int2 c.speed

def lineCountBytes (c : LineCounts) : List Byte :=
  byte2 c.beats ++ byte2 c.passages ++ byte2 c.callSignals ++ byte2 c.voices ++ byte2 c.notices ++
    byte2 c.fcsErrors ++ byte2 c.aborts ++ byte2 c.lengthErrors ++ byte2 c.formatErrors ++ byte2 c.beatsMissed ++
    byte2 c.voiceDropped ++ byte2 c.controlDropped ++ byte2 c.noticesLost

def lineFlags (s : State) : Nat :=
  flags [s.gov.summitCeiling.isSome, s.gov.lineCeiling, summitPermissive s, causePersists s .summitService,
    causePersists s .summitEmergency, causePersists s .lineLost]

def readLine (s : State) : List Byte :=
  let l := s.line
  byte1 (receiverCode l.receiver) ++ transmitBytes l.transmit ++ byte1 l.safety.toList.length ++
    (l.safety.toList.map fun _ => byte 1) ++ byte1 l.voice.length ++ (l.voice.map fun _ => byte 4) ++
    byte1 l.control.length ++ l.control.map controlKind ++ byte1 l.bulk.length ++
    (l.bulk.flatMap fun x => [byte 5, byte x.length]) ++ byte1 l.beatNumber ++ byte2 l.beatTimer ++
    flag1 l.heard ++ byte1 (l.lastBeat.getD 0) ++ byte1 l.miss ++ opt2 l.supervision ++ contentsBytes l.contents ++
    byte1 l.inbox.length ++ (l.inbox.flatMap fun n => byte n.text.length :: flag1 n.overrun) ++
    flag1 l.noticeOffered ++ lineCountBytes l.counts ++ flag1 l.overflow ++ byte1 (lineFlags s)

/-! ### ReadGovernor (R46) -/

def ceilingBytes (g : Governor) : List Byte := g.ceilings.flatMap opt2

def limitingSet (set : List Ceiling) : List Byte := byte2 (setBits Ceiling.all set)

def settingBytes (g : GovernorSettings) : List Byte :=
  byte2 g.calibration ++ byte2 g.max ++ byte2 g.slow ++ byte2 g.margin ++ byte2 g.rollback ++ byte2 g.up ++
    byte2 g.down

/-- The wind configuration in the reply (R46): H, in dm/s, in two bytes as Table 11-1 codes winds; a band's stop flag
is the ceiling field 0, as in SetWind's payload (DESIGN CHOICE, log entry 23: the spec does not say for the
reply). -/
def windBytes (w : WindConfig) : List Byte :=
  byte1 w.bands.length ++ (w.bands.flatMap fun b => byte2 b.entry ++ byte2 (b.ceiling.getD 0)) ++
    byte2 w.hysteresis ++ byte2 w.hold

def statusFlags (d : DriveStatus) : Nat := flags [d.ready, d.fault]

/-- ReadGovernor's reply (R46). The rollback distance and the settings in mm take two bytes (DESIGN CHOICE, log
entry 23: Table 11-1 names mm for long travel values and differences only). -/
def readGovernor (s : State) : List Byte :=
  let g := s.gov
  travel4 g.travel ++ byte2 g.residue ++ int4 g.history.h1 ++ int4 g.history.h2 ++ int4 g.history.h3 ++
    int4 g.history.h4 ++ byte2 g.lastPf ++ byte2 g.lastPb ++ int2 (clampSpeed g.v) ++ byte2 g.reference ++
    byte2 g.target ++ ceilingBytes g ++ limitingSet g.limiting ++ byte1 g.band ++ byte1 (holdCode g.hold) ++
    byte2 (g.holdMs / 1000) ++ byte2 g.rollback ++ byte1 g.overspeed ++ byte1 g.encoderLoss ++ byte1 g.missed ++
    byte1 (statusFlags g.status) ++ byte1 (flags [g.brakeReleased, g.tripFlag]) ++ settingBytes g.settings ++
    windBytes g.wind

/-! ### ReadStatus (R194) -/

def callCountBytes (c : CallCounts) : List Byte :=
  byte2 c.foreign ++ byte2 c.late ++ byte2 c.duplicate ++ byte2 c.overflow ++ byte2 c.concealed

def deskCountBytes (c : DeskCounts) : List Byte :=
  byte2 c.length ++ byte2 c.gap ++ byte2 c.crc ++ byte2 c.refusedFull ++ byte2 c.lost ++ byte2 c.overruns

/-- ReadStatus's reply (R194): the sources present as one set of three bytes and, for their classes, a second set of
three bytes with the Emergency sources among them; a current call id that is absent, in Idle, is sent as 0 (DESIGN
CHOICE, log entry 16: the spec codes neither). -/
def readStatus (s : State) : List Byte :=
  let d := s.desk
  byte1 (runCode s.run.state) ++ sourceSet s.run.demands ++
    sourceSet (s.run.demands.filter fun x => decide (x.cls = .emergency)) ++
    byte1 (stopCode (stopClassOf s.run.demands)) ++
    byte1 (flags [drivePermissive s, summitPermissive s, s.gov.brakeReleased]) ++
    byte1 (callStateCode s.phone.state) ++ byte1 (callId s) ++ callCountBytes s.phone.counts ++
    byte1 (flags [d.governor.latched, d.tower.latched, d.line.latched, d.berth.latched]) ++
    byte1 (d.urgent.length + d.others.length) ++ flag1 d.reportsLost ++ deskCountBytes d.counts

end Sys2Proof.Machine
end

