-- ==== Sys2Proof/Machine/Messages.lean ====
section
/-! DEFINITION. The messages the desk link sends, as the bytes of the desk port (section 11.2): reports, replies and
the envelope of Table 11-2. They are views of the state: nothing in the part reads them. -/

namespace Sys2Proof.Machine

/-! ### Fields of the reports -/

/-- The cause of a RunState report: 0 to 8, or 32 plus the source index. -/
def causeCode : Cause → Nat
  | .wake => 0
  | .run => 1
  | .park => 2
  | .resetTrip => 3
  | .powerOn => 4
  | .restart => 5
  | .wakeComplete => 6
  | .referenceReached => 7
  | .ropeAtRest => 8
  | .demand src => 32 + sourceCode src

def bandCode : MissBand → Nat
  | .zero => 0
  | .one => 1
  | .two => 2
  | .four => 3

def towerKindCode : TowerKind → Nat
  | .offset => 0
  | .out => 1
  | .broken => 2
  | .stale => 3

def garbledCode : GarbledCause → Nat
  | .length => 0
  | .gap => 1
  | .crc => 2
  | .overrun => 3

/-- The event of a Carrier report. -/
def carrierEventCode : CarrierEvent → Nat
  | .overrun _ => 0
  | .entry _ _ => 1
  | .indexCancelled => 2
  | .released _ => 3
  | .launchResult _ _ => 4
  | .held => 5
  | .freed => 6
  | .renumbered _ _ => 7
  | .garaged => 8
  | .overdue _ _ => 9
  | .skipped _ _ => 10
  | .summitStranger _ => 11
  | .arrivalUnseen => 12
  | .removed _ _ => 13

/-- The fields an event's rule adds to a Carrier report. -/
def carrierEventBytes : CarrierEvent → List Byte
  | .overrun stuck => flag1 stuck
  | .entry stuck count => flag1 stuck ++ byte1 count
  | .released t => travel4 t
  | .launchResult force cls => opt2 force ++ byte1 (classCode cls)
  | .renumbered old new => byte1 old ++ byte1 new
  | .overdue leg coord => byte1 (legCode leg) ++ int4 coord
  | .skipped leg coord => byte1 (legCode leg) ++ int4 coord
  | .summitStranger leg => byte1 ((leg.map legCode).getD 255)
  | .removed leg coord => byte1 (legCode leg) ++ int4 coord
  | .indexCancelled | .held | .freed | .garaged | .arrivalUnseen => []

def towerEntryBytes (e : TowerEntry) : List Byte :=
  byte1 e.address ++ byte2 (codeNibbles e.codes) ++ byte1 (latchPairs e.latches) ++
    byte1 (deadlineCode e.deadline) ++ flag1 e.heard

def berthEntryBytes (e : BerthEntry) : List Byte :=
  byte1 (berthStateCode e.state) ++ byte1 (modeCode e.mode) ++ flag1 e.occupied ++ flag1 e.cycleComplete ++
    flag1 e.holdOpen ++ byte1 (faultCode e.reason) ++ flag1 e.faultPending

/-- A match in a Watch report (R153). -/
def matchBytes (m : WatchMatch) : List Byte :=
  let front := byte1 (idxNumber m.watch)
  let back := int4 m.coord ++ byte1 (flags [m.enabled, m.raised])
  match m.tower with
  | some e => front ++ byte1 (1 + towerKindCode e.kind) ++ byte1 e.slot ++ byte1 (e.point.getD 0) ++ back
  | none => front ++ byte1 0 ++ byte1 (m.carrier.getD 0) ++ back

/-- The event of a Call report, and the way or the cause that goes with it (R181). -/
def callEventBytes (id : Nat) (st : CallState) : CallEvent → List Byte
  | .incoming => byte1 0 ++ byte1 id ++ byte1 (callStateCode st)
  | .connectedAnswered => byte1 1 ++ byte1 id ++ byte1 (callStateCode st) ++ byte1 0
  | .connectedAccepted => byte1 1 ++ byte1 id ++ byte1 (callStateCode st) ++ byte1 1
  | .connectedGlare => byte1 1 ++ byte1 id ++ byte1 (callStateCode st) ++ byte1 2
  | .endedHungUp => byte1 2 ++ byte1 id ++ byte1 (callStateCode st) ++ byte1 0
  | .endedCleared => byte1 2 ++ byte1 id ++ byte1 (callStateCode st) ++ byte1 1
  | .endedNoAnswer => byte1 2 ++ byte1 id ++ byte1 (callStateCode st) ++ byte1 2
  | .endedRingStopped => byte1 2 ++ byte1 id ++ byte1 (callStateCode st) ++ byte1 3
  | .endedLost => byte1 2 ++ byte1 id ++ byte1 (callStateCode st) ++ byte1 4

/-- The kind code of a report (Table 11-3). -/
def reportKind : Report → Nat
  | .stopDemand _ _ => 0xC0
  | .runState _ _ _ _ _ => 0xC1
  | .governor _ _ _ => 0xC2
  | .tower _ => 0xC3
  | .line _ => 0xC4
  | .berth _ _ _ => 0xC5
  | .carrier _ _ _ _ => 0xC6
  | .counter _ _ _ _ _ _ _ _ => 0xC7
  | .watch _ _ => 0xC8
  | .call _ _ _ => 0xC9
  | .notice _ _ => 0xCA
  | .garbled _ => 0xCB

/-- A report's fields, in the order in which its owning rule lists them. The matches of a Watch report are kept whole,
also where they are more than a message of 250 bytes can carry (DESIGN CHOICE, log entry 16: the spec is silent). -/
def reportFields : Report → List Byte
  | .stopDemand src cls => byte1 (sourceCode src) ++ byte1 (stopCode cls)
  | .runState new prev cause cls sources =>
    byte1 (runCode new) ++ byte1 (runCode prev) ++ byte1 (causeCode cause) ++ byte1 (stopCode cls) ++
      sourceSet sources
  | .governor f reference v =>
    byte1 (runCode f.run) ++ byte2 reference ++ byte2 f.target ++ int2 v ++ limitingSet f.limiting ++
      f.ceilings.flatMap opt2 ++ byte1 f.band ++ byte1 (statusFlags f.status)
  | .tower f => f.towers.flatMap towerEntryBytes ++ byte2 f.late
  | .line f =>
    flag1 (!f.hunting) ++ flag1 f.heard ++ byte1 (bandCode f.band) ++ byte1 (stopCode f.stop) ++
      flag1 f.loopOpen ++ flag1 f.ready ++ opt2 f.ceiling ++ flag1 f.overflow
  | .berth f grants wait =>
    Idx4.all.flatMap (fun i => berthEntryBytes (f.get i)) ++ byte1 (idxBits grants) ++ waitBytes wait
  | .carrier event number place marks =>
    byte1 (carrierEventCode event) ++ byte1 number ++ byte1 (placeCode place) ++ markSet marks ++
      carrierEventBytes event
  | .counter n event action alarm frozen value expiries sample =>
    byte1 (idxNumber n) ++ byte1 event ++ byte1 (actionCode action) ++ flag1 alarm ++ flag1 frozen ++
      byte2 value ++ byte2 expiries ++ sampleBytes sample
  | .watch hits found =>
    byte1 (flags [hits.v1, hits.v2, hits.v3, hits.v4]) ++ found.flatMap matchBytes
  | .call event id st => callEventBytes id st event
  | .notice text _ => text
  | .garbled cause => byte1 (garbledCode cause)

/-- The flags byte of a report: bit 0 ReportsLost, bit 1 a Notice's Overrun mark. -/
def reportFlags (lost : Bool) : Report → Nat
  | .notice _ overrun => flags [lost, overrun]
  | _ => flags [lost, false]

def reasonCode : Reason → Nat
  | .unknown => 0
  | .length => 1
  | .range => 2
  | .state => 3
  | .busy => 4
  | .demand => 5
  | .permissive => 6
  | .causePresent => 7
  | .conflict => 8
  | .notFound => 9
  | .full => 10

/-! ### The envelope (Table 11-2) -/

def envelope (kind : Nat) (tag : Byte) (payload : List Byte) : List Byte :=
  let body := byte (payload.length + 2) :: byte kind :: tag :: payload
  0xA7#8 :: body ++ crcHighFirst body

/-- A message as the desk port carries it. -/
def messageBytes : Message → List Byte
  | .reply r =>
    match r.result with
    | .done fields => envelope 0x80 r.tag (r.kind :: fields)
    | .refused reason => envelope 0x81 r.tag [r.kind, byte (reasonCode reason)]
  | .report r lost => envelope (reportKind r) 0 (byte (reportFlags lost r) :: reportFields r)

/-- A request as the host sends it. -/
def requestBytes (tag : Byte) (r : Request) : List Byte := envelope (requestKind r) tag (encodePayload r)

end Sys2Proof.Machine
end

