-- ==== Sys2Proof/Machine/Desk.lean ====
section
/-! DEFINITION. The desk link (chapter 10): receiving, the taking of requests, the sending of messages, the latched
classes, and the starts of the part. -/

namespace Sys2Proof.Machine

open Config

def State.withDesk (f : Desk → Desk) (s : State) : State := { s with desk := f s.desk }

def State.countDesk (f : DeskCounts → DeskCounts) (s : State) : State :=
  s.withDesk fun d => { d with counts := f d.counts }

/-! ### Requests of the desk link itself (R192, R193) -/

/-- Restart may be accepted: the refusal otherwise (R193). -/
def restartRefusal (s : State) : Option Reason :=
  match s.run.state with
  | .parked | .stopped | .tripped => if s.gov.v = 0 then none else some .permissive
  | _ => some .state

def unlatchGovernor (s : State) : State :=
  let t := s.withDesk fun d => { d with governor := { d.governor with latched := false } }
  if s.desk.governor.latched && !decide (s.desk.governor.snapshot = some (governorSnapshot s)) then
    offerGovernor t else t

def unlatchTower (s : State) : State :=
  let t := s.withDesk fun d => { d with tower := { d.tower with latched := false } }
  if s.desk.tower.latched && !decide (s.desk.tower.snapshot = some (towerSnapshot s)) then offerTower t else t

def unlatchLine (s : State) : State :=
  let t := s.withDesk fun d => { d with line := { d.line with latched := false } }
  if s.desk.line.latched && !decide (s.desk.line.snapshot = some (lineSnapshot s)) then offerLine t else t

def unlatchBerth (s : State) : State :=
  let t := s.withDesk fun d => { d with berth := { d.berth with latched := false } }
  if s.desk.berth.latched && !decide (s.desk.berth.snapshot = some (berthSnapshot s)) then offerBerth t else t

/-- ReleaseReports (R192): 0 Governor, 1 Tower, 2 Line, 3 Berth. -/
def doReleaseReports (reportClass : Nat) (s : State) : State × ReplyResult :=
  match reportClass with
  | 0 => done (unlatchGovernor s)
  | 1 => done (unlatchTower s)
  | 2 => done (unlatchLine s)
  | 3 => done (unlatchBerth s)
  | _ => refuse .range s

/-! ### Requests at their owners (R189, Table 10-2) -/

/-- A read is answered from the state as it stands. -/
def answerRead (fields : List Byte) (s : State) : State × ReplyResult := (s, .done fields)

/-- A request at its owner: the state it leaves and the reply it forms. Restart's reply is formed here and
placed by `takeRequest`. -/
def perform : Request → State → State × ReplyResult
  | .setGeometry u d k => doSetGeometry u d k
  | .setGovernor g => doSetGovernor g
  | .setSpacing g v => doSetSpacing g v
  | .setWind bands h t => doSetWind bands h t
  | .setBerth n r => doSetBerth n r
  | .setMotion g => doSetMotion g
  | .setTrack a b c => doSetTrack a b c
  | .setTower n a c e => doSetTower n a c e
  | .setScan d => doSetScan d
  | .setGrip a b => doSetGrip a b
  | .setCounter n r => doSetCounter n r
  | .setWatch n r => doSetWatch n r
  | .wake => doWake
  | .park => doPark
  | .run => doRun
  | .stop => doStop
  | .setSpeed v => doSetSpeed v
  | .clearStop n => doClearStop n
  | .resetTrip => doResetTrip
  | .restart => fun s =>
    match restartRefusal s with
    | some r => refuse r s
    | none => done (s.withDesk fun d => { d with restart := .waiting })
  | .declare p n => doDeclare p n
  | .release n => doRelease n
  | .hold n => doHold n
  | .renumber n m => doRenumber n m
  | .garage => doGarage
  | .inhibitLaunch b => doInhibit b
  | .abandon => doAbandon
  | .mark n => doMark n
  | .unmark n => doUnmark n
  | .berthCommand n c m => doBerthCommand n c m
  | .removeCarrier n => doRemoveCarrier n
  | .ackTower n p => doAckTower n p
  | .armCounter n => doArmCounter n
  | .clearHits n => doClearHits n
  | .call => doCall
  | .answer => doAnswer
  | .hangUp => doHangUp
  | .sendNotice t => doSendNotice t
  | .releaseReports c => doReleaseReports c
  | .readStatus => fun s => answerRead (readStatus s) s
  | .readTrack => fun s => answerRead (readTrack s) s
  | .readRoster n => fun s => answerRead (readRoster n s) s
  | .readBerths => fun s => answerRead (readBerths s) s
  | .readTowers n => fun s => answerRead (readTowers n s) s
  | .readCounters => fun s => answerRead (readCounters s) s
  | .readWatches => fun s => answerRead (readWatches s) s
  | .readLine => fun s => answerRead (readLine s) s
  | .readGovernor => fun s => answerRead (readGovernor s) s

/-- A reply placed: at the tail of the reply queue; an accepted Restart's ahead of every waiting message (R189,
R193). -/
def placeReply (atHead : Bool) (r : Reply) (s : State) : State :=
  s.withDesk fun d => { d with replies := if atHead then r :: d.replies else d.replies ++ [r] }

/-- An owner takes a request and its reply is placed (R189, R193). -/
def takeRequest (tag : Byte) (r : Request) (s : State) : State :=
  let p := perform r s
  placeReply (decide (r = .restart) && decide (p.2 = .done []))
    { tag := tag, kind := byte (requestKind r), result := p.2 } p.1

/-- Requests are given while the inbox holds one, the reply queue has a free place and no Restart has been
accepted (R189, R193). -/
def mayDispatch (s : State) : Bool :=
  decide (s.desk.replies.length < replyMax) && decide (s.desk.restart = .none)

/-- The head of the inbox is given, at most `n` times. -/
def dispatch : Nat → State → State
  | 0, s => s
  | n + 1, s =>
    if mayDispatch s then
      match s.desk.inbox with
      | [] => s
      | (tag, r) :: rest => dispatch n (takeRequest tag r (s.withDesk fun d => { d with inbox := rest }))
    else s

/-- The inbox is given to the owners as far as R189 allows. -/
def giveRequests (s : State) : State := dispatch inboxMax s

/-! ### Well-formed messages (R188) -/

/-- A message in error: its count and its Garbled report (R187, R188). -/
def garbled (cause : GarbledCause) (s : State) : State :=
  let t := s.countDesk fun c =>
    match cause with
    | .length => { c with length := satInc c.length }
    | .gap => { c with gap := satInc c.gap }
    | .crc => { c with crc := satInc c.crc }
    | .overrun => { c with overruns := satInc c.overruns }
  queueReport (.garbled cause) t

/-- A refusal by the desk link, before the request is in the inbox (R188). -/
def refuseMessage (tag kind : Byte) (r : Reason) (s : State) : State :=
  placeReply false { tag := tag, kind := kind, result := .refused r } s

/-- Tests 1 and 4 of R188 around a request of good kind and length, and its joining of the inbox. -/
def submit (tag : Byte) (r : Request) (s : State) : State :=
  if replyMax ≤ s.desk.replies.length then garbled .overrun s
  else if inboxMax ≤ s.desk.inbox.length then
    refuseMessage tag (byte (requestKind r)) .full
      (s.countDesk fun c => { c with refusedFull := satInc c.refusedFull })
  else giveRequests (s.withDesk fun d => { d with inbox := d.inbox ++ [(tag, r)] })

/-- A well-formed message (R188). -/
def takeMessage (kind tag : Byte) (payload : List Byte) (s : State) : State :=
  if replyMax ≤ s.desk.replies.length then garbled .overrun s
  else
    match decodeRequest kind.toNat payload with
    | .error r => refuseMessage tag kind r s
    | .ok r => submit tag r s

/-! ### The receiver (R187) -/

/-- The length byte is outside 2 to 250. -/
def badLength (b : Byte) : Bool := decide (b.toNat < 2) || decide (250 < b.toNat)

/-- The bytes after the sync byte, a complete message, tested for their CRC and taken (R187). -/
def takeComplete (bytes : List Byte) (s : State) : State :=
  let front := bytes.take (bytes.length - 2)
  if bytes.drop (bytes.length - 2) = crcHighFirst front then
    match front with
    | _ :: kind :: tag :: payload => takeMessage kind tag payload s
    | _ => s
  else garbled .crc s

/-- The bytes after the sync byte, with the one just received (R187). -/
def assemble (bytes : List Byte) (s : State) : State :=
  let waiting := s.withDesk fun d => { d with receiver := .waiting }
  match bytes with
  | [] => s
  | len :: _ =>
    if badLength len then garbled .length waiting
    else if bytes.length = len.toNat + 3 then takeComplete bytes waiting
    else s.withDesk fun d => { d with receiver := .assembling bytes gapMs }

/-- A byte arrives on the desk port (R187). -/
def deskByte (b : Byte) (s : State) : State :=
  match s.desk.receiver with
  | .waiting =>
    if b = 0xA7#8 then s.withDesk fun d => { d with receiver := .assembling [] gapMs } else s
  | .assembling bytes _ => assemble (bytes ++ [b]) s

/-- The gap timer expires (R187). -/
def gapTimerExpired (s : State) : State :=
  match s.desk.receiver with
  | .waiting => s
  | .assembling _ _ => garbled .gap (s.withDesk fun d => { d with receiver := .waiting })

/-! ### The transmitter (R190) -/

def startReport (r : Report) (s : State) : State :=
  s.withDesk fun d => { d with transmit := some (.report r d.reportsLost), reportsLost := false }

def startUrgent (r : Report) (rest : List Report) (s : State) : State :=
  startReport r (s.withDesk fun d => { d with urgent := rest })

def startOther (r : Report) (rest : List Report) (s : State) : State :=
  startReport r (s.withDesk fun d => { d with others := rest })

/-- A reply's transmission starts and its place becomes free (R189, R190). -/
def startReply (r : Reply) (rest : List Reply) (s : State) : State :=
  giveRequests (s.withDesk fun d => { d with replies := rest, transmit := some (.reply r) })

/-- The reply of an accepted Restart starts, ahead of every waiting message (R193). -/
def startRestartReply (s : State) : State :=
  match s.desk.replies with
  | r :: rest => s.withDesk fun d => { d with replies := rest, transmit := some (.reply r), restart := .sending }
  | [] => s

/-- The next message by its group (R190). -/
def startMessage (s : State) : State :=
  match s.desk.urgent, s.desk.replies, s.desk.others with
  | r :: rest, _, _ => startUrgent r rest s
  | [], r :: rest, _ => startReply r rest s
  | [], [], r :: rest => startOther r rest s
  | [], [], [] => s

/-- With the transmitter free, the next message starts (R190, R193). -/
def messageDue (s : State) : State :=
  if s.desk.transmit.isSome then s
  else if s.desk.restart = .waiting then startRestartReply s
  else startMessage s

/-! ### The starts (R193, R194 and each block's rule) -/

/-- The transmitter of the summit line at a Restart: a frame in transmission, which it is until its closing flag or
its abort sequence has been sent (R157), is cut off (R176). -/
def Transmit.cut : Transmit → Transmit
  | .flags => .flags
  | .frame _ _ => .aborting none
  | .aborting _ => .aborting none
  | .afterAbort => .flags

/-- Restart in every block (R2, R48, R51, R77, R123, R139, R148, R156, R176, R186, R193, R194): configuration
is kept. -/
def restartState (s : State) : State :=
  { run := .start
    gov := .start s.gov.settings s.gov.desk s.gov.wind
    update := .start
    track := .start s.track.settings
    berths := s.berths.map fun b => Berth.start b.mode b.settings
    supply := .start s.supply.gap
    roster := .start s.roster.lUp s.roster.lDown s.roster.slack
    scanner := .start s.scanner.slots s.scanner.deadline
    counters := ⟨s.counters.units.map Counter.restarted, 0, 0⟩
    watches := ⟨s.watches.units.map Watch.restarted, []⟩
    line := .start s.line.transmit.cut
    phone := .start
    desk := .start s.run.state .restart
    pending := s.pending }

/-- Power-on; commands still waiting outside the part go on waiting (R2, R193). -/
def powerOn (s : State) : State := { State.reset with pending := s.pending }

/-- The end of the Restart reply's transmission (R193). -/
def restartDue (s : State) : State := if s.desk.restart = .sending then restartState s else s

/-- The end of a message's transmission (R190, R193). -/
def messageSent (s : State) : State :=
  match s.desk.transmit with
  | none => s
  | some (.reply _) => restartDue (s.withDesk fun d => { d with transmit := none })
  | some (.report r _) => reportSent r.isNotice (s.withDesk fun d => { d with transmit := none })

end Sys2Proof.Machine
end

