-- ==== Sys2Proof/Machine/BerthCommands.lean ====
section
/-! DEFINITION. The commands of the berth controller (chapter 4): one meaning per row of the opcode table. A host request's meaning
is its arrival as a well-formed message of good kind and length (R188, R189). -/

namespace Sys2Proof.Machine

/-- RECOVERY_TIMER (R82): The recovery timer of a Locked berth expires and a due Auto cycle goes to Unlocking.
-/
def execRecoveryTimer (b : Idx4) (s : State) : Host.Outcome State Fault Refusal :=
  .next (recoveryExpired b s)

/-- UNLOCK_TIMER (R83): t_unlock expires and the berth becomes Unlocked or goes to Fault UnlockFailed. -/
def execUnlockTimer (b : Idx4) (s : State) : Host.Outcome State Fault Refusal :=
  .next (unlockExpired b s)

/-- MOTION_COMPLETE (R84): A motion-complete arrival in Opening or Closing sets motion-complete seen. -/
def execMotionComplete (b : Idx4) (active : Bool) (s : State) : Host.Outcome State Fault Refusal :=
  .next (motionCompleteSense b active s)

/-- OPENING_END (R84): The Opening run timer expires, the grant is released and the berth becomes Open or faults
MotionIncomplete. -/
def execOpeningEnd (b : Idx4) (s : State) : Host.Outcome State Fault Refusal :=
  .next (openingExpired b s)

/-- DWELL_EXPIRY (R85): The dwell timer expires and the berth places a Close request. -/
def execDwellExpiry (b : Idx4) (s : State) : Host.Outcome State Fault Refusal :=
  .next (dwellExpired b s)

/-- CLOSING_END (R86): The Closing run timer expires, the grant is released and the berth becomes Closed and
then Locking, or faults. -/
def execClosingEnd (b : Idx4) (s : State) : Host.Outcome State Fault Refusal :=
  .next (closingExpired b s)

/-- LOCK_CONFIRM (R87): A lock-confirm arrival in Locking makes the berth Locked and completes its cycle. -/
def execLockConfirm (b : Idx4) (active : Bool) (s : State) : Host.Outcome State Fault Refusal :=
  .next (lockConfirmSense b active s)

/-- LOCK_TIMER (R87): t_lock expires with no lock-confirm and the berth faults LockTimeout. -/
def execLockTimer (b : Idx4) (s : State) : Host.Outcome State Fault Refusal :=
  .next (lockExpired b s)

/-- OBSTRUCTION (R88): An obstruction arrival in Closing reverses the doors, or in Homing faults
HomingObstructed. -/
def execObstruction (b : Idx4) (active : Bool) (s : State) : Host.Outcome State Fault Refusal :=
  .next (obstructionSense b active s)

/-- DRIVE_FAULT_SENSE (R90): A drive-fault arrival sends the berth to Fault, or sets fault pending at a Locked
berth during an index step. -/
def execDriveFaultSense (b : Idx4) (active : Bool) (s : State) : Host.Outcome State Fault Refusal :=
  .next (driveFaultChange b active s)

/-- START_GAP_END (R94): The motion start gap passes and the motion supply tests for a grant. -/
def execStartGapEnd (s : State) : Host.Outcome State Fault Refusal :=
  .next (gapExpired s)

/-- HOMING_RUN_END (R98): A homing run timer expires; after the second the berth becomes Locked or faults
HomeNoLock. -/
def execHomingRunEnd (b : Idx4) (s : State) : Host.Outcome State Fault Refusal :=
  .next (homingExpired b s)

/-- SET_BERTH (R78): SetBerth replaces a berth's settings. -/
def execSetBerth (tag : Byte) (berth : Nat) (r : BerthRequest) (s : State) : Host.Outcome State Fault Refusal :=
  .next (submit tag (.setBerth berth r) s)

/-- SET_MOTION (R94): SetMotion replaces the motion start gap. -/
def execSetMotion (tag : Byte) (gap : Nat) (s : State) : Host.Outcome State Fault Refusal :=
  .next (submit tag (.setMotion gap) s)

/-- UNLOCK (R100): The Unlock berth command sends a Manual Locked berth to Unlocking. -/
def execUnlock (tag : Byte) (berth : Nat) (s : State) : Host.Outcome State Fault Refusal :=
  .next (submit tag (.berthCommand berth 0 0) s)

/-- OPEN (R100): The Open berth command places an Open request for a Manual berth. -/
def execOpenDoors (tag : Byte) (berth : Nat) (s : State) : Host.Outcome State Fault Refusal :=
  .next (submit tag (.berthCommand berth 1 0) s)

/-- CLOSE (R100): The Close berth command clears HoldOpen and places a Close request for a Manual berth. -/
def execCloseDoors (tag : Byte) (berth : Nat) (s : State) : Host.Outcome State Fault Refusal :=
  .next (submit tag (.berthCommand berth 2 0) s)

/-- LOCK (R100): The Lock berth command withdraws a waiting Open and sends the berth to Locking. -/
def execLock (tag : Byte) (berth : Nat) (s : State) : Host.Outcome State Fault Refusal :=
  .next (submit tag (.berthCommand berth 3 0) s)

/-- HOLD_OPEN (R101): The HoldOpen berth command sets HoldOpen. -/
def execHoldOpen (tag : Byte) (berth : Nat) (s : State) : Host.Outcome State Fault Refusal :=
  .next (submit tag (.berthCommand berth 4 0) s)

/-- END_DWELL (R101): The EndDwell berth command clears HoldOpen and places a Close request. -/
def execEndDwell (tag : Byte) (berth : Nat) (s : State) : Host.Outcome State Fault Refusal :=
  .next (submit tag (.berthCommand berth 5 0) s)

/-- REOPEN (R101): The Reopen berth command reverses a Closing or reopens a Closed berth. -/
def execReopen (tag : Byte) (berth : Nat) (s : State) : Host.Outcome State Fault Refusal :=
  .next (submit tag (.berthCommand berth 6 0) s)

/-- SKIP_CYCLE (R102): The SkipCycle berth command marks the cycle complete without moving the doors. -/
def execSkipCycle (tag : Byte) (berth : Nat) (s : State) : Host.Outcome State Fault Refusal :=
  .next (submit tag (.berthCommand berth 7 0) s)

/-- CLEAR_FAULT (R92): The ClearFault berth command leaves Fault for Parked or Homing. -/
def execClearFault (tag : Byte) (berth : Nat) (s : State) : Host.Outcome State Fault Refusal :=
  .next (submit tag (.berthCommand berth 8 0) s)

/-- SET_MODE (R102): The SetMode berth command sets Auto or Manual mode. -/
def execSetMode (tag : Byte) (berth : Nat) (mode : Nat) (s : State) : Host.Outcome State Fault Refusal :=
  .next (submit tag (.berthCommand berth 9 mode) s)

/-- READ_BERTHS (R103): ReadBerths replies with the berth records, settings and motion supply. -/
def execReadBerths (tag : Byte) (s : State) : Host.Outcome State Fault Refusal :=
  .next (submit tag .readBerths s)

end Sys2Proof.Machine
end

