-- ==== Sys2Proof/Machine/CallCommands.lean ====
section
/-! DEFINITION. The commands of the call unit (chapter 9): one meaning per row of the opcode table. A host request's meaning
is its arrival as a well-formed message of good kind and length (R188, R189). -/

namespace Sys2Proof.Machine

/-- CALL_SIGNAL (R179): A good CallSignal frame is taken by the call unit according to the call state and id. -/
def execCallSignal (signal : Signal) (id : Nat) (s : State) : Host.Outcome State Fault Refusal :=
  .next (callSignal signal id s)

/-- VOICE_FRAME (R183): A good Voice frame restarts voice loss and is queued for playout or dropped. -/
def execVoiceFrame (id : Nat) (sequence : Nat) (block : List Byte) (s : State) : Host.Outcome State Fault Refusal :=
  .next (voice id sequence block s)

/-- CALL (R178): Call in Idle chooses a call id, sends Ring and enters Calling. -/
def execCall (tag : Byte) (s : State) : Host.Outcome State Fault Refusal :=
  .next (submit tag .call s)

/-- ANSWER (R178): Answer in Ringing sends Answer and enters Talking. -/
def execAnswer (tag : Byte) (s : State) : Host.Outcome State Fault Refusal :=
  .next (submit tag .answer s)

/-- HANG_UP (R178): HangUp sends Clear and returns the call unit to Idle. -/
def execHangUp (tag : Byte) (s : State) : Host.Outcome State Fault Refusal :=
  .next (submit tag .hangUp s)

/-- RING_REPEAT (R180): The ring repeat timer expires in Calling and Ring is sent again. -/
def execRingRepeat (s : State) : Host.Outcome State Fault Refusal :=
  .next (ringAgain s)

/-- RING_TIMEOUT (R180): The 30 s ring timeout sends Clear and ends the call NoAnswer. -/
def execRingTimeout (s : State) : Host.Outcome State Fault Refusal :=
  .next (ringExpired s)

/-- RINGING_GAP (R180): 3 s without a Ring in Ringing ends the call RingStopped. -/
def execRingingGap (s : State) : Host.Outcome State Fault Refusal :=
  .next (ringStopped s)

/-- VOICE_LOSS (R180): 2 s without a Voice frame in Talking sends Clear and ends the call CallLost. -/
def execVoiceLoss (s : State) : Host.Outcome State Fault Refusal :=
  .next (callLost s)

/-- BLOCK_PERIOD (R182): The 10 ms codec period exchanges a captured block for a played block, sending a Voice
frame in Talking. -/
def execBlockPeriod (captured : List Byte) (s : State) : Host.Outcome State Fault Refusal :=
  .next (blockPeriod captured s)

end Sys2Proof.Machine
end

