-- ==== Sys2Proof/Machine/ControlCommands.lean ====
section
/-! DEFINITION. The commands of run control (chapter 1): one meaning per row of the opcode table. A host request's meaning
is its arrival as a well-formed message of good kind and length (R188, R189). -/

namespace Sys2Proof.Machine

/-- WAKE (R3): Wake request accepted in Parked enters Waking, sends berths to Homing and starts the tower
scanner's first round. -/
def execWake (tag : Byte) (s : State) : Host.Outcome State Fault Refusal :=
  .next (submit tag .wake s)

/-- PARK (R5): Park request accepted in Stopped, Waking or Tripped at rest enters Parked, parks the berths and
returns the towers to parked polling. -/
def execPark (tag : Byte) (s : State) : Host.Outcome State Fault Refusal :=
  .next (submit tag .park s)

/-- RUN (R6): Run request tested for Stopped, an empty demand set and both permissives, then enters Starting. -/
def execRun (tag : Byte) (s : State) : Host.Outcome State Fault Refusal :=
  .next (submit tag .run s)

/-- STOP (R8): Stop request raises the Service demand DeskStop in any run state. -/
def execStop (tag : Byte) (s : State) : Host.Outcome State Fault Refusal :=
  .next (submit tag .stop s)

/-- RESET_TRIP (R12): ResetTrip request moves Tripped to Stopped when no Emergency demand remains and the rope
is at rest. -/
def execResetTrip (tag : Byte) (s : State) : Host.Outcome State Fault Refusal :=
  .next (submit tag .resetTrip s)

/-- CLEAR_STOP (R15): ClearStop request removes a named demand unless its owner reports that the cause persists.
-/
def execClearStop (tag : Byte) (source : Nat) (s : State) : Host.Outcome State Fault Refusal :=
  .next (submit tag (.clearStop source) s)

/-- PLATFORM_STOP_INPUT (R16): A change of the platform stop button level raises PlatformStop when it becomes
active, and freezes or resumes berths and the index limit. -/
def execPlatformStopInput (active : Bool) (s : State) : Host.Outcome State Fault Refusal :=
  .next (platformInput active s)

/-- EMERGENCY_LOOP_INPUT (R17): A change of the emergency stop loop level raises EmergencyLoop when the loop
opens. -/
def execEmergencyLoopInput (opened : Bool) (s : State) : Host.Outcome State Fault Refusal :=
  .next (loopInput opened s)

/-- QUIET_WINDOWS (R10): The quiet window count reaching 10 in Stopping enters Stopped and applies the brake. -/
def execQuietWindows (s : State) : Host.Outcome State Fault Refusal :=
  .next (quietReached s)

end Sys2Proof.Machine
end

