-- ==== Sys2Proof/Machine/CounterCommands.lean ====
section
/-! DEFINITION. The commands of the event counters and position watches (chapter 7): one meaning per row of the opcode table. A host request's meaning
is its arrival as a well-formed message of good kind and length (R188, R189). -/

namespace Sys2Proof.Machine

/-- COUNTER_EXPIRY (R143): A counter reaching 0 captures its sample, sets Alarm, reports and fires its action.
-/
def execCounterExpiry (c : Idx4) (ev : CounterEvent) (s : State) : Host.Outcome State Fault Refusal :=
  .next (expiryEvent c ev s)

/-- SET_COUNTER (R147): SetCounter replaces a counter's setup and arms it. -/
def execSetCounter (tag : Byte) (counter : Nat) (r : CounterRequest) (s : State) : Host.Outcome State Fault Refusal :=
  .next (submit tag (.setCounter counter r) s)

/-- ARM_COUNTER (R146): ArmCounter reloads and clears the alarm of the named counters. -/
def execArmCounter (tag : Byte) (counter : Nat) (s : State) : Host.Outcome State Fault Refusal :=
  .next (submit tag (.armCounter counter) s)

/-- READ_COUNTERS (R148): ReadCounters replies with each counter's setup and state. -/
def execReadCounters (tag : Byte) (s : State) : Host.Outcome State Fault Refusal :=
  .next (submit tag .readCounters s)

/-- SET_WATCH (R150): SetWatch replaces a watch's setup. -/
def execSetWatch (tag : Byte) (watch : Nat) (r : WatchRequest) (s : State) : Host.Outcome State Fault Refusal :=
  .next (submit tag (.setWatch watch r) s)

/-- CLEAR_HITS (R153): ClearHits clears the named hit flags. -/
def execClearHits (tag : Byte) (watch : Nat) (s : State) : Host.Outcome State Fault Refusal :=
  .next (submit tag (.clearHits watch) s)

/-- READ_WATCHES (R156): ReadWatches replies with watch setups, hits and carriers in windows. -/
def execReadWatches (tag : Byte) (s : State) : Host.Outcome State Fault Refusal :=
  .next (submit tag .readWatches s)

end Sys2Proof.Machine
end

