-- ==== Sys2Proof/Machine/DeskCommands.lean ====
section
/-! DEFINITION. The commands of the desk link and the starts of the part (chapter 10): one meaning per row of the opcode table. A host request's meaning
is its arrival as a well-formed message of good kind and length (R188, R189). -/

namespace Sys2Proof.Machine

/-- POWER_ON (R2): Power-on clears all state, returns configuration to its defaults, enters Parked and queues
RunState with cause PowerOn. -/
def execPowerOn (s : State) : Host.Outcome State Fault Refusal :=
  .next (powerOn s)

/-- DESK_MESSAGE (R188): A complete well-formed desk message is checked and joins the request inbox or is
refused or counted as overrun. -/
def execDeskMessage (kind : Byte) (tag : Byte) (payload : List Byte) (s : State) : Host.Outcome State Fault Refusal :=
  .next (takeMessage kind tag payload s)

/-- GAP_TIMER (R187): The 5 ms gap timer expires during a message and it ends as a gap error. -/
def execGapTimer (s : State) : Host.Outcome State Fault Refusal :=
  .next (gapTimerExpired s)

/-- MESSAGE_START (R190): With the transmitter free, the next message is started by group precedence. -/
def execMessageStart (s : State) : Host.Outcome State Fault Refusal :=
  .next (messageDue s)

/-- MESSAGE_SENT (R190): A desk message's transmission ends and the line controller is informed of report
delivery. -/
def execMessageSent (s : State) : Host.Outcome State Fault Refusal :=
  .next (messageSent s)

/-- RELEASE_REPORTS (R192): ReleaseReports unlatches a class and reports it if its state differs from the
snapshot. -/
def execReleaseReports (tag : Byte) (reportClass : Nat) (s : State) : Host.Outcome State Fault Refusal :=
  .next (submit tag (.releaseReports reportClass) s)

/-- RESTART (R193): Restart accepted at rest stops request dispatch and places its Done reply ahead of all
waiting messages. -/
def execRestart (tag : Byte) (s : State) : Host.Outcome State Fault Refusal :=
  .next (submit tag .restart s)

/-- RESTART_START (R193): At the end of the Restart reply's transmission every block takes its start values
while configuration is kept. -/
def execRestartStart (s : State) : Host.Outcome State Fault Refusal :=
  .next (restartDue s)

/-- READ_STATUS (R194): ReadStatus replies with run state, demands, permissives, call state, latches and desk
counts. -/
def execReadStatus (tag : Byte) (s : State) : Host.Outcome State Fault Refusal :=
  .next (submit tag .readStatus s)

/-- DESK_BYTE_RECEIVED (R187): A byte arriving on the desk port starts a message when it is the sync byte in
Waiting, is added to the message in Assembling and restarts the gap timer, and ends the message as a length
error when it is a bad length byte. -/
def execDeskByteReceived (byte : Byte) (s : State) : Host.Outcome State Fault Refusal :=
  .next (deskByte byte s)

end Sys2Proof.Machine
end

