-- ==== Sys2Proof/Machine/GovernorCommands.lean ====
section
/-! DEFINITION. The commands of the speed governor (chapter 2): one meaning per row of the opcode table. A host request's meaning
is its arrival as a well-formed message of good kind and length (R188, R189). -/

namespace Sys2Proof.Machine

/-- ENCODER_PULSE (R20): A forward or backward encoder pulse increases its window count, saturating at 65535. -/
def execEncoderPulse (backward : Bool) (s : State) : Host.Outcome State Fault Refusal :=
  .next (encoderPulse backward s)

/-- WINDOW_END (R19): The 100 ms governor window ends and the eight stages of counts, travel, speed,
supervision, target, ramp, drive exchange and travel update run. -/
def execWindowEnd (s : State) : Host.Outcome State Fault Refusal :=
  .next (windowEnd s)

/-- OVERSPEED (R25): The overspeed count reaching 3 raises Overspeed and resets the count. -/
def execOverspeed (s : State) : Host.Outcome State Fault Refusal :=
  .next (overspeedReached s)

/-- ENCODER_LOSS (R27): The encoder-loss count reaching 10 windows raises EncoderLost and resets the count. -/
def execEncoderLoss (s : State) : Host.Outcome State Fault Refusal :=
  .next (encoderLossReached s)

/-- MISSED_EXCHANGE (R35): The missed-exchange count reaching 5 substitutes a not-ready faulted status and
raises DriveFault. -/
def execMissedExchange (s : State) : Host.Outcome State Fault Refusal :=
  .next (missedReached s)

/-- DRIVE_STATUS (R34): A drive status record arrives, replaces the most recent status, resets the missed count
and raises DriveFault if faulted. -/
def execDriveStatus (record : List Byte) (s : State) : Host.Outcome State Fault Refusal :=
  .next (driveRecord record s)

/-- HOLD_TIMER (R41): The wind hold timer reaching the hold time lowers the band by one. -/
def execHoldTimer (s : State) : Host.Outcome State Fault Refusal :=
  .next (holdExpired s)

/-- SET_GOVERNOR (R43): SetGovernor replaces the seven governor settings in Parked or Stopped. -/
def execSetGovernor (tag : Byte) (g : GovernorSettings) (s : State) : Host.Outcome State Fault Refusal :=
  .next (submit tag (.setGovernor g) s)

/-- SET_SPEED (R44): SetSpeed clamps the value to 50 to Max and stores it as the Desk ceiling. -/
def execSetSpeed (tag : Byte) (value : Nat) (s : State) : Host.Outcome State Fault Refusal :=
  .next (submit tag (.setSpeed value) s)

/-- SET_WIND (R45): SetWind replaces the wind configuration and returns the band to 0. -/
def execSetWind (tag : Byte) (bands : List (Nat × Nat)) (hysteresis : Nat) (hold : Nat) (s : State) : Host.Outcome State Fault Refusal :=
  .next (submit tag (.setWind bands hysteresis hold) s)

/-- READ_GOVERNOR (R46): ReadGovernor replies with the governor's state and settings. -/
def execReadGovernor (tag : Byte) (s : State) : Host.Outcome State Fault Refusal :=
  .next (submit tag .readGovernor s)

end Sys2Proof.Machine
end

