-- ==== Sys2Proof/Machine/LineCommands.lean ====
section
/-! DEFINITION. The commands of the line controller (chapter 8): one meaning per row of the opcode table. A host request's meaning
is its arrival as a well-formed message of good kind and length (R188, R189). -/

namespace Sys2Proof.Machine

/-- FLAG_RECEIVED (R158): A flag on the summit line restarts the flag timer and moves the receiver to Idle,
ending a frame in Receiving. -/
def execFlagReceived (s : State) : Host.Outcome State Fault Refusal :=
  .next (flagReceived s)

/-- FLAG_TIMER (R158): 20 ms without a flag puts the receiver in Hunting. -/
def execFlagTimer (s : State) : Host.Outcome State Fault Refusal :=
  .next (flagExpired s)

/-- ABORT_RECEIVED (R160): An abort in Receiving discards the frame, counts it and enters Discarding. -/
def execAbortReceived (s : State) : Host.Outcome State Fault Refusal :=
  .next (abortReceived s)

/-- FRAME_ERROR (R159): A received frame failing the length, FCS or format test is discarded and counted. -/
def execFrameError (e : FrameFault) (s : State) : Host.Outcome State Fault Refusal :=
  .next (frameError e s)

/-- SUMMIT_BEAT (R167): A valid summit beat counts missed beats, restarts supervision and takes the summit's
demands, ceiling, readiness and wind. -/
def execSummitBeat (b : BeatFields) (s : State) : Host.Outcome State Fault Refusal :=
  .next (summitBeat b s)

/-- SUPERVISION_TIMER (R168): The beat supervision timer expires, increasing the miss count and pausing wind,
asserting Line or raising LineLost. -/
def execSupervisionTimer (s : State) : Host.Outcome State Fault Refusal :=
  .next (supervisionExpired s)

/-- PASSAGE_FRAME (R172): A good Arrived or Departed Passage frame is given to the roster. -/
def execPassageFrame (departed : Bool) (number : Nat) (metres : Nat) (s : State) : Host.Outcome State Fault Refusal :=
  .next (passage departed number metres s)

/-- NOTICE_FRAME (R174): A good Notice from the summit enters the notice inbox. -/
def execNoticeFrame (text : List Byte) (s : State) : Host.Outcome State Fault Refusal :=
  .next (takeNotice text s)

/-- BEAT_TIMER (R165): The 100 ms beat timer expires and a valley beat is built and offered to the Safety queue.
-/
def execBeatTimer (s : State) : Host.Outcome State Fault Refusal :=
  .next (beatExpired s)

/-- FRAME_START (R163): At the end of a flag the transmitter starts the head frame of the highest waiting class.
-/
def execFrameStart (s : State) : Host.Outcome State Fault Refusal :=
  .next (flagSent s)

/-- FRAME_END (R162): A frame's closing flag is sent and a Bulk frame leaves its queue. -/
def execFrameEnd (s : State) : Host.Outcome State Fault Refusal :=
  .next (frameSent s)

/-- ABORT_END (R164): The abort sequence and following flag end and the transmitter chooses the next frame. -/
def execAbortEnd (s : State) : Host.Outcome State Fault Refusal :=
  .next (abortSent s)

/-- SEND_NOTICE (R173): SendNotice appends a Notice frame to the Bulk queue. -/
def execSendNotice (tag : Byte) (text : List Byte) (s : State) : Host.Outcome State Fault Refusal :=
  .next (submit tag (.sendNotice text) s)

/-- READ_LINE (R175): ReadLine replies with the line controller's state and counts. -/
def execReadLine (tag : Byte) (s : State) : Host.Outcome State Fault Refusal :=
  .next (submit tag .readLine s)

/-- BODY_BITS_RECEIVED (R158): Non-flag bits arriving on the summit line begin a frame in Idle and are
accumulated in Receiving, and a 73rd body byte is a length error that moves the receiver to Discarding. -/
def execBodyBitsReceived (bits : List Bool) (s : State) : Host.Outcome State Fault Refusal :=
  .next (bodyBits bits s)

end Sys2Proof.Machine
end

