-- ==== Sys2Proof/Machine/RosterCommands.lean ====
section
/-! DEFINITION. The commands of the roster (chapter 5): one meaning per row of the opcode table. A host request's meaning
is its arrival as a well-formed message of good kind and length (R188, R189). -/

namespace Sys2Proof.Machine

/-- REMOVE_CARRIER (R120): RemoveCarrier removes a roster record in Stopped or Tripped. -/
def execRemoveCarrier (tag : Byte) (number : Nat) (s : State) : Host.Outcome State Fault Refusal :=
  .next (submit tag (.removeCarrier number) s)

/-- SET_GEOMETRY (R121): SetGeometry replaces L_up, L_down and the slack. -/
def execSetGeometry (tag : Byte) (lUp : Nat) (lDown : Nat) (slack : Nat) (s : State) : Host.Outcome State Fault Refusal :=
  .next (submit tag (.setGeometry lUp lDown slack) s)

/-- READ_ROSTER (R122): ReadRoster replies with a page of roster records and the geometry. -/
def execReadRoster (tag : Byte) (start : Nat) (s : State) : Host.Outcome State Fault Refusal :=
  .next (submit tag (.readRoster start) s)

end Sys2Proof.Machine
end

