-- ==== Sys2Proof/Machine/TowerCommands.lean ====
section
/-! DEFINITION. The commands of the tower scanner (chapter 6): one meaning per row of the opcode table. A host request's meaning
is its arrival as a well-formed message of good kind and length (R188, R189). -/

namespace Sys2Proof.Machine

/-- POLL_SENT (R126): A poll frame's transmission ends and the 8 ms reply timer starts. -/
def execPollSent (s : State) : Host.Outcome State Fault Refusal :=
  .next (pollSent s)

/-- TOWER_REPLY (R129): A reply frame on the tower string is accepted and its codes, latches, age and ceiling
are taken, or it is discarded. -/
def execTowerReply (frame : List Byte) (s : State) : Host.Outcome State Fault Refusal :=
  .next (towerBytes frame s)

/-- REPLY_TIMER (R126): The reply timer expires, sending the retry or ending the transaction unread. -/
def execReplyTimer (s : State) : Host.Outcome State Fault Refusal :=
  .next (replyExpired s)

/-- TRANSACTION_START (R128): 1 ms after a transaction ends the next transaction of the round starts. -/
def execTransactionStart (s : State) : Host.Outcome State Fault Refusal :=
  .next (transactionDue s)

/-- PARKED_POLL_TIMER (R130): The 250 ms parked poll timer expires and a transaction starts for the next used
slot. -/
def execParkedPollTimer (s : State) : Host.Outcome State Fault Refusal :=
  .next (parkedPoll s)

/-- TOWER_STALE (R135): A tower's age exceeds the scan deadline and it becomes Stale. -/
def execTowerStale (slot : Nat) (s : State) : Host.Outcome State Fault Refusal :=
  .next (staleEvent slot s)

/-- TOWER_SILENT (R135): A Stale tower's age exceeds twice the deadline, it becomes Silent and TowerSilent is
raised. -/
def execTowerSilent (slot : Nat) (s : State) : Host.Outcome State Fault Refusal :=
  .next (silentEvent slot s)

/-- SET_TOWER (R125): SetTower replaces a slot's configuration and resets its runtime state. -/
def execSetTower (tag : Byte) (slot : Nat) (address : Nat) (coordinate : Nat) (enables : Nat) (s : State) : Host.Outcome State Fault Refusal :=
  .next (submit tag (.setTower slot address coordinate enables) s)

/-- SET_SCAN (R136): SetScan replaces the scan deadline and recompares every tower's age. -/
def execSetScan (tag : Byte) (deadline : Nat) (s : State) : Host.Outcome State Fault Refusal :=
  .next (submit tag (.setScan deadline) s)

/-- ACK_TOWER (R133): AckTower clears latches of points now showing Normal. -/
def execAckTower (tag : Byte) (slot : Nat) (point : Nat) (s : State) : Host.Outcome State Fault Refusal :=
  .next (submit tag (.ackTower slot point) s)

/-- READ_TOWERS (R138): ReadTowers replies with a page of tower slots and scanner state. -/
def execReadTowers (tag : Byte) (start : Nat) (s : State) : Host.Outcome State Fault Refusal :=
  .next (submit tag (.readTowers start) s)

end Sys2Proof.Machine
end

