-- ==== Sys2Proof/Machine/TrackCommands.lean ====
section
/-! DEFINITION. The commands of the track controller (chapter 3): one meaning per row of the opcode table. A host request's meaning
is its arrival as a well-formed message of good kind and length (R188, R189). -/

namespace Sys2Proof.Machine

/-- ENTRY (R53): An entry event appends a track record, matches it against the roster, applies marks and the
buffer count, and tests the index start. -/
def execEntry (carrierTag : Nat) (stuck : Bool) (s : State) : Host.Outcome State Fault Refusal :=
  .next (entry carrierTag stuck s)

/-- INDEX_TIME_LIMIT (R57): The index step's time limit expires and IndexJam is raised while the step stays in
flight. -/
def execIndexTimeLimit (s : State) : Host.Outcome State Fault Refusal :=
  .next (indexLimitExpired s)

/-- INDEX_DONE (R58): Index-done completes the step, shifts the places forward and gives the berths their
occupancy, or is discarded if no step is in flight. -/
def execIndexDone (s : State) : Host.Outcome State Fault Refusal :=
  .next (indexDone s)

/-- GRIP_TEST_RESULT (R63): A grip test result completes the launch in flight, classifies the force and may
raise GripFail. -/
def execGripTestResult (record : List Byte) (s : State) : Host.Outcome State Fault Refusal :=
  .next (testRecord record s)

/-- HOLD (R69): Hold sets Held on the named record. -/
def execHold (tag : Byte) (number : Nat) (s : State) : Host.Outcome State Fault Refusal :=
  .next (submit tag (.hold number) s)

/-- RELEASE (R70): Release removes Held, Stranger, Stuck and Duplicate from the named record. -/
def execRelease (tag : Byte) (number : Nat) (s : State) : Host.Outcome State Fault Refusal :=
  .next (submit tag (.release number) s)

/-- RENUMBER (R71): Renumber gives the named record a new unused number and clears Unread and Inferred. -/
def execRenumber (tag : Byte) (number : Nat) (new : Nat) (s : State) : Host.Outcome State Fault Refusal :=
  .next (submit tag (.renumber number new) s)

/-- MARK (R71): Mark sets Marked on the named record. -/
def execMark (tag : Byte) (number : Nat) (s : State) : Host.Outcome State Fault Refusal :=
  .next (submit tag (.mark number) s)

/-- UNMARK (R71): Unmark removes Marked from the named record. -/
def execUnmark (tag : Byte) (number : Nat) (s : State) : Host.Outcome State Fault Refusal :=
  .next (submit tag (.unmark number) s)

/-- GARAGE (R72): Garage discards the record in the launch berth. -/
def execGarage (tag : Byte) (s : State) : Host.Outcome State Fault Refusal :=
  .next (submit tag .garage s)

/-- INHIBIT_LAUNCH (R72): InhibitLaunch sets launch inhibit on or off. -/
def execInhibitLaunch (tag : Byte) (on : Bool) (s : State) : Host.Outcome State Fault Refusal :=
  .next (submit tag (.inhibitLaunch on) s)

/-- ABANDON (R73): Abandon ends a launch in flight at rest as NoTest and gives the record to the roster. -/
def execAbandon (tag : Byte) (s : State) : Host.Outcome State Fault Refusal :=
  .next (submit tag .abandon s)

/-- DECLARE (R73): Declare in Parked places or moves a record into a named track place. -/
def execDeclare (tag : Byte) (place : Nat) (number : Nat) (s : State) : Host.Outcome State Fault Refusal :=
  .next (submit tag (.declare place number) s)

/-- SET_SPACING (R74): SetSpacing replaces the spacing G and the launch minimum speed. -/
def execSetSpacing (tag : Byte) (g : Nat) (vMin : Nat) (s : State) : Host.Outcome State Fault Refusal :=
  .next (submit tag (.setSpacing g vMin) s)

/-- SET_TRACK (R74): SetTrack replaces the slow threshold, index time limit and AcceptUnlisted. -/
def execSetTrack (tag : Byte) (slow : Nat) (limit : Nat) (acceptUnlisted : Bool) (s : State) : Host.Outcome State Fault Refusal :=
  .next (submit tag (.setTrack slow limit acceptUnlisted) s)

/-- SET_GRIP (R74): SetGrip replaces F_min and F_ok. -/
def execSetGrip (tag : Byte) (fMin : Nat) (fOk : Nat) (s : State) : Host.Outcome State Fault Refusal :=
  .next (submit tag (.setGrip fMin fOk) s)

/-- READ_TRACK (R75): ReadTrack replies with the places, launch record, index step and settings. -/
def execReadTrack (tag : Byte) (s : State) : Host.Outcome State Fault Refusal :=
  .next (submit tag .readTrack s)

end Sys2Proof.Machine
end

