-- ==== Sys2Proof/Machine/Dispatch.lean ====
section
/-! DEFINITION. `exec`: one arm per command, each a direct call of its meaning. -/

namespace Sys2Proof.Machine

def exec (i : Instr) (s : State) : Host.Outcome State Fault Refusal :=
  match i with
  | .powerOn => Sys2Proof.Machine.execPowerOn s
  | .wake tag => Sys2Proof.Machine.execWake tag s
  | .park tag => Sys2Proof.Machine.execPark tag s
  | .run tag => Sys2Proof.Machine.execRun tag s
  | .stop tag => Sys2Proof.Machine.execStop tag s
  | .resetTrip tag => Sys2Proof.Machine.execResetTrip tag s
  | .clearStop tag source => Sys2Proof.Machine.execClearStop tag source s
  | .platformStopInput active => Sys2Proof.Machine.execPlatformStopInput active s
  | .emergencyLoopInput opened => Sys2Proof.Machine.execEmergencyLoopInput opened s
  | .encoderPulse backward => Sys2Proof.Machine.execEncoderPulse backward s
  | .windowEnd => Sys2Proof.Machine.execWindowEnd s
  | .overspeed => Sys2Proof.Machine.execOverspeed s
  | .encoderLoss => Sys2Proof.Machine.execEncoderLoss s
  | .quietWindows => Sys2Proof.Machine.execQuietWindows s
  | .missedExchange => Sys2Proof.Machine.execMissedExchange s
  | .driveStatus record => Sys2Proof.Machine.execDriveStatus record s
  | .holdTimer => Sys2Proof.Machine.execHoldTimer s
  | .setGovernor tag g => Sys2Proof.Machine.execSetGovernor tag g s
  | .setSpeed tag value => Sys2Proof.Machine.execSetSpeed tag value s
  | .setWind tag bands hysteresis hold => Sys2Proof.Machine.execSetWind tag bands hysteresis hold s
  | .readGovernor tag => Sys2Proof.Machine.execReadGovernor tag s
  | .entry carrierTag stuck => Sys2Proof.Machine.execEntry carrierTag stuck s
  | .indexTimeLimit => Sys2Proof.Machine.execIndexTimeLimit s
  | .indexDone => Sys2Proof.Machine.execIndexDone s
  | .gripTestResult record => Sys2Proof.Machine.execGripTestResult record s
  | .hold tag number => Sys2Proof.Machine.execHold tag number s
  | .release tag number => Sys2Proof.Machine.execRelease tag number s
  | .renumber tag number new => Sys2Proof.Machine.execRenumber tag number new s
  | .mark tag number => Sys2Proof.Machine.execMark tag number s
  | .unmark tag number => Sys2Proof.Machine.execUnmark tag number s
  | .garage tag => Sys2Proof.Machine.execGarage tag s
  | .inhibitLaunch tag on => Sys2Proof.Machine.execInhibitLaunch tag on s
  | .abandon tag => Sys2Proof.Machine.execAbandon tag s
  | .declare tag place number => Sys2Proof.Machine.execDeclare tag place number s
  | .setSpacing tag g vMin => Sys2Proof.Machine.execSetSpacing tag g vMin s
  | .setTrack tag slow limit acceptUnlisted => Sys2Proof.Machine.execSetTrack tag slow limit acceptUnlisted s
  | .setGrip tag fMin fOk => Sys2Proof.Machine.execSetGrip tag fMin fOk s
  | .readTrack tag => Sys2Proof.Machine.execReadTrack tag s
  | .recoveryTimer b => Sys2Proof.Machine.execRecoveryTimer b s
  | .unlockTimer b => Sys2Proof.Machine.execUnlockTimer b s
  | .motionComplete b active => Sys2Proof.Machine.execMotionComplete b active s
  | .openingEnd b => Sys2Proof.Machine.execOpeningEnd b s
  | .dwellExpiry b => Sys2Proof.Machine.execDwellExpiry b s
  | .closingEnd b => Sys2Proof.Machine.execClosingEnd b s
  | .lockConfirm b active => Sys2Proof.Machine.execLockConfirm b active s
  | .lockTimer b => Sys2Proof.Machine.execLockTimer b s
  | .obstruction b active => Sys2Proof.Machine.execObstruction b active s
  | .driveFaultSense b active => Sys2Proof.Machine.execDriveFaultSense b active s
  | .startGapEnd => Sys2Proof.Machine.execStartGapEnd s
  | .homingRunEnd b => Sys2Proof.Machine.execHomingRunEnd b s
  | .setBerth tag berth r => Sys2Proof.Machine.execSetBerth tag berth r s
  | .setMotion tag gap => Sys2Proof.Machine.execSetMotion tag gap s
  | .unlock tag berth => Sys2Proof.Machine.execUnlock tag berth s
  | .openDoors tag berth => Sys2Proof.Machine.execOpenDoors tag berth s
  | .closeDoors tag berth => Sys2Proof.Machine.execCloseDoors tag berth s
  | .lock tag berth => Sys2Proof.Machine.execLock tag berth s
  | .holdOpen tag berth => Sys2Proof.Machine.execHoldOpen tag berth s
  | .endDwell tag berth => Sys2Proof.Machine.execEndDwell tag berth s
  | .reopen tag berth => Sys2Proof.Machine.execReopen tag berth s
  | .skipCycle tag berth => Sys2Proof.Machine.execSkipCycle tag berth s
  | .clearFault tag berth => Sys2Proof.Machine.execClearFault tag berth s
  | .setMode tag berth mode => Sys2Proof.Machine.execSetMode tag berth mode s
  | .readBerths tag => Sys2Proof.Machine.execReadBerths tag s
  | .removeCarrier tag number => Sys2Proof.Machine.execRemoveCarrier tag number s
  | .setGeometry tag lUp lDown slack => Sys2Proof.Machine.execSetGeometry tag lUp lDown slack s
  | .readRoster tag start => Sys2Proof.Machine.execReadRoster tag start s
  | .pollSent => Sys2Proof.Machine.execPollSent s
  | .towerReply frame => Sys2Proof.Machine.execTowerReply frame s
  | .replyTimer => Sys2Proof.Machine.execReplyTimer s
  | .transactionStart => Sys2Proof.Machine.execTransactionStart s
  | .parkedPollTimer => Sys2Proof.Machine.execParkedPollTimer s
  | .towerStale slot => Sys2Proof.Machine.execTowerStale slot s
  | .towerSilent slot => Sys2Proof.Machine.execTowerSilent slot s
  | .setTower tag slot address coordinate enables => Sys2Proof.Machine.execSetTower tag slot address coordinate enables s
  | .setScan tag deadline => Sys2Proof.Machine.execSetScan tag deadline s
  | .ackTower tag slot point => Sys2Proof.Machine.execAckTower tag slot point s
  | .readTowers tag start => Sys2Proof.Machine.execReadTowers tag start s
  | .counterExpiry c ev => Sys2Proof.Machine.execCounterExpiry c ev s
  | .setCounter tag counter r => Sys2Proof.Machine.execSetCounter tag counter r s
  | .armCounter tag counter => Sys2Proof.Machine.execArmCounter tag counter s
  | .readCounters tag => Sys2Proof.Machine.execReadCounters tag s
  | .setWatch tag watch r => Sys2Proof.Machine.execSetWatch tag watch r s
  | .clearHits tag watch => Sys2Proof.Machine.execClearHits tag watch s
  | .readWatches tag => Sys2Proof.Machine.execReadWatches tag s
  | .flagReceived => Sys2Proof.Machine.execFlagReceived s
  | .flagTimer => Sys2Proof.Machine.execFlagTimer s
  | .abortReceived => Sys2Proof.Machine.execAbortReceived s
  | .frameError e => Sys2Proof.Machine.execFrameError e s
  | .summitBeat b => Sys2Proof.Machine.execSummitBeat b s
  | .supervisionTimer => Sys2Proof.Machine.execSupervisionTimer s
  | .passageFrame departed number metres => Sys2Proof.Machine.execPassageFrame departed number metres s
  | .callSignal signal id => Sys2Proof.Machine.execCallSignal signal id s
  | .voiceFrame id sequence block => Sys2Proof.Machine.execVoiceFrame id sequence block s
  | .noticeFrame text => Sys2Proof.Machine.execNoticeFrame text s
  | .beatTimer => Sys2Proof.Machine.execBeatTimer s
  | .frameStart => Sys2Proof.Machine.execFrameStart s
  | .frameEnd => Sys2Proof.Machine.execFrameEnd s
  | .abortEnd => Sys2Proof.Machine.execAbortEnd s
  | .sendNotice tag text => Sys2Proof.Machine.execSendNotice tag text s
  | .readLine tag => Sys2Proof.Machine.execReadLine tag s
  | .call tag => Sys2Proof.Machine.execCall tag s
  | .answer tag => Sys2Proof.Machine.execAnswer tag s
  | .hangUp tag => Sys2Proof.Machine.execHangUp tag s
  | .ringRepeat => Sys2Proof.Machine.execRingRepeat s
  | .ringTimeout => Sys2Proof.Machine.execRingTimeout s
  | .ringingGap => Sys2Proof.Machine.execRingingGap s
  | .voiceLoss => Sys2Proof.Machine.execVoiceLoss s
  | .blockPeriod captured => Sys2Proof.Machine.execBlockPeriod captured s
  | .deskMessage kind tag payload => Sys2Proof.Machine.execDeskMessage kind tag payload s
  | .gapTimer => Sys2Proof.Machine.execGapTimer s
  | .messageStart => Sys2Proof.Machine.execMessageStart s
  | .messageSent => Sys2Proof.Machine.execMessageSent s
  | .releaseReports tag reportClass => Sys2Proof.Machine.execReleaseReports tag reportClass s
  | .restart tag => Sys2Proof.Machine.execRestart tag s
  | .restartStart => Sys2Proof.Machine.execRestartStart s
  | .readStatus tag => Sys2Proof.Machine.execReadStatus tag s
  | .deskByteReceived byte => Sys2Proof.Machine.execDeskByteReceived byte s
  | .bodyBitsReceived bits => Sys2Proof.Machine.execBodyBitsReceived bits s

end Sys2Proof.Machine
end

