-- ==== Sys2Proof/Machine/Tick.lean ====
section
/-! DEFINITION. One millisecond of real time with no command waiting: the running timers run down, the elapsed times
advance, and nothing else changes. A timer that stands at 0 waits for the command that is its expiry. -/

namespace Sys2Proof.Machine

open Config

/-- A timer one millisecond on; none where it is stopped. -/
def runDown (t : Option Nat) : Option Nat := t.map fun ms => ms - 1

/-- A berth one millisecond on (R76): its timer, and its motion elapsed in Opening and Closing with a grant. -/
def Berth.tick (b : Berth) : Berth :=
  { b with
    timer := b.timer.map fun t => (t.1, t.2 - 1)
    motionElapsed :=
      if b.grant && (decide (b.state = .opening) || decide (b.state = .closing)) then satInc b.motionElapsed
      else b.motionElapsed }

/-- The berths, which the platform stop input freezes (R96). -/
def tickBerths (frozen : Bool) (q : Quad Berth) : Quad Berth := if frozen then q else q.map Berth.tick

/-- The index step's time limit, which the platform stop input freezes (R57). -/
def tickStep (frozen : Bool) (st : IndexStep) : IndexStep :=
  if frozen then st else { st with remaining := st.remaining - 1 }

/-- The hold timer advances while Running, up to the hold time (R38). -/
def Governor.tick (g : Governor) : Governor :=
  if g.hold = .running then { g with holdMs := min (g.holdMs + 1) (g.wind.hold * 1000) } else g

/-- A tower's age runs in every run state (R135). -/
def Slot.tick (x : Slot) : Slot := if x.address.isSome then { x with age := satInc x.age } else x

def Scanner.tick (k : Scanner) : Scanner :=
  { k with
    slots := k.slots.map Slot.tick
    transaction := k.transaction.map fun t => { t with timer := runDown t.timer }
    parkedTimer := runDown k.parkedTimer
    pauseTimer := runDown k.pauseTimer }

/-- The transmitter one millisecond on: the bits of a frame go out at the line's rate (R157), and an abort sequence
of eight bits is over. A frame whose closing flag is being sent, and the flag after an abort sequence, wait for the
command that ends them (log entry 11). -/
def Transmit.tick : Transmit → Transmit
  | .flags => .flags
  | .frame f left => .frame f (left - lineBitsPerMs)
  | .aborting _ => .afterAbort
  | .afterAbort => .afterAbort

def Line.tick (l : Line) : Line :=
  { l with flagTimer := l.flagTimer - 1, beatTimer := l.beatTimer - 1, supervision := runDown l.supervision,
           transmit := l.transmit.tick }

def CallUnit.tick (c : CallUnit) : CallUnit :=
  { c with ringRepeat := runDown c.ringRepeat, ringOut := runDown c.ringOut, ringingGap := runDown c.ringingGap,
           voiceLoss := runDown c.voiceLoss, blockTimer := c.blockTimer - 1 }

def DeskReceiver.tick : DeskReceiver → DeskReceiver
  | .waiting => .waiting
  | .assembling bytes gap => .assembling bytes (gap - 1)

/-- One millisecond with no command waiting. -/
def tick (s : State) : State :=
  let frozen := s.run.platformStop
  { s with
    gov := s.gov.tick
    track := { s.track with step := s.track.step.map (tickStep frozen) }
    berths := tickBerths frozen s.berths
    supply := { s.supply with sinceGrant := s.supply.sinceGrant.map satInc }
    scanner := s.scanner.tick
    line := s.line.tick
    phone := s.phone.tick
    desk := { s.desk with receiver := s.desk.receiver.tick } }

end Sys2Proof.Machine
end

