-- ==== Sys2Proof/Safety.lean ====
section
/-! DEFINITION. What a safe state of the part is, in the spec's own promises (each predicate is one promise: reset has
it and every step keeps it), and the words in which the statements say what a command does. -/

namespace Sys2Proof.Machine

open Config

/-! ### The promises -/

/-- The run state against the stop demand set: "The run state is Starting or Running only while the stop demand set
is empty" (R9) and "While an Emergency-class demand is present, the run state is Tripped, Parked or Waking"
(R11). -/
def DemandsObeyed (s : State) : Prop :=
  ((s.run.state = .starting ∨ s.run.state = .running) → s.run.demands = []) ∧
    (stopClassOf s.run.demands = .emergency →
      s.run.state = .tripped ∨ s.run.state = .parked ∨ s.run.state = .waking)

/-- The quiet window count stays below ten, and "The count is not kept in other states" than Stopping (R10). -/
def QuietCounted (s : State) : Prop := s.run.quiet < quietWindows ∧ (s.run.state ≠ .stopping → s.run.quiet = 0)

/-- The brake output and the drive trip flag (Table 1-5, R32): released in Starting, Running and Stopping alone; set
in Tripped alone. -/
def BrakeObeyed (s : State) : Prop :=
  s.gov.brakeReleased = runMoves s.run.state ∧ s.gov.tripFlag = decide (s.run.state = .tripped)

/-- The drive reference "never exceeds Max" and "is 0 in Parked, Waking, Stopped and Tripped" (R30). -/
def ReferenceBounded (s : State) : Prop :=
  s.gov.reference ≤ s.gov.settings.max ∧ (runMoves s.run.state = false → s.gov.reference = 0)

/-- A berth in Opening or Closing holds a grant, and a grant is held in Opening, Closing and Homing alone (R80, R94,
R95). -/
def Berth.grantSound (b : Berth) : Prop :=
  (b.state = .opening ∨ b.state = .closing → b.grant = true) ∧
    (b.grant = true → b.state = .opening ∨ b.state = .closing ∨ b.state = .homing)

/-- The states in which a berth waits for a grant of each kind (R83, R85, R98, R100, R101). -/
def Motion.suits (m : Motion) (st : BerthState) : Bool :=
  match m with
  | .opening => decide (st = .unlocked) || decide (st = .closed)
  | .closing => decide (st = .opened)
  | .homing => decide (st = .homing)

/-- The doors: at most two grants are held and no door moves without one (R80, R94), the wait list holds one entry a
berth, of a kind its state asks for (R93), and "No berth leaves Locked while an index step is in flight" (R56,
R91). -/
def DoorsSound (s : State) : Prop :=
  (grantHolders s).length ≤ grants ∧ (∀ i, (s.berth i).grantSound) ∧
    (s.supply.wait.map Prod.fst).Nodup ∧
    (∀ e ∈ s.supply.wait, (s.berth e.1).grant = false ∧ e.2.suits (s.berth e.1).state = true) ∧
    (s.track.step.isSome = true → ∀ i, (s.berth i).state = .locked)

/-- The places of the track and the roster hold no more than they can (R49, R64, R104). -/
def PlacesBounded (s : State) : Prop :=
  s.track.buffer.length ≤ bufferPlaces ∧
    s.roster.records.length + (if s.track.launch.isSome then 1 else 0) ≤ rosterMax

/-- The queues hold no more than they can (Figure 10-1, Table 8-3, R174, R183). -/
def QueuesBounded (s : State) : Prop :=
  s.desk.inbox.length ≤ inboxMax ∧ s.desk.replies.length ≤ replyMax ∧
    s.desk.urgent.length + s.desk.others.length ≤ reportMax ∧
    s.line.voice.length ≤ voiceQueue ∧ s.line.control.length ≤ controlQueue ∧ s.line.bulk.length ≤ bulkQueue ∧
    s.line.inbox.length ≤ noticeInbox ∧ s.phone.queue.length ≤ playoutMax

/-- A call id is held in Calling, Ringing and Talking alone (R177), and "The playout queue is empty whenever the
call state is not Talking" (R185). -/
def CallHeld (s : State) : Prop :=
  (s.phone.id.isSome = true ↔ s.phone.state ≠ .idle) ∧ (s.phone.state ≠ .talking → s.phone.queue = [])

/-- The tower table has 24 slots, and "No two used slots hold the same node address" (R124). -/
def TableSound (s : State) : Prop :=
  s.scanner.slots.length = towerSlots ∧ (s.scanner.slots.filterMap fun x => x.address).Nodup

/-- Each Slow ceiling is present exactly while its owner's condition holds: Line from the second missed beat (R168),
Tower (R134), Track at or above a slow threshold of 3 to 5 (R54), Counter (R145), Watch (R155). -/
def CeilingsTrue (s : State) : Prop :=
  s.gov.lineCeiling = decide (2 ≤ s.line.miss) ∧
    s.gov.towerCeiling = s.scanner.slots.any Slot.slows ∧
    (3 ≤ s.track.settings.slow ∧ s.gov.trackCeiling = decide (s.track.settings.slow ≤ s.track.buffer.length)) ∧
    s.gov.counterCeiling = s.counters.slow ∧
    s.gov.watchCeiling = s.watches.slow

/-- What one block gives another is what it holds: the line controller's valley stop class is that of the demand set
(R18), the conveyor outputs stand while their motions are in flight (R56, R62), and a berth is occupied exactly
where the track has a record in it (R81). -/
def NoticesTrue (s : State) : Prop :=
  s.line.stopClass = stopClassOf s.run.demands ∧ s.track.indexCommand = s.track.step.isSome ∧
    s.track.launchCommand = s.track.launch.isSome ∧
    ∀ i, (s.berth i).occupied = (s.track.berths.get i).isSome

/-- The numbers of the records that are not marked Duplicate, those with number 0 left out. -/
def plainNumbers (s : State) : List Nat :=
  (placed s).filterMap fun p =>
    if p.2.number = 0 ∨ Mark.duplicate ∈ p.2.marks then none else some p.2.number

/-- "Among track and roster records not marked Duplicate, no carrier number other than 0 appears twice" (R70). -/
def NumbersUnique (s : State) : Prop := (plainNumbers s).Nodup

/-- Berth settings within Table 4-3. -/
def BerthSettings.legal (b : BerthSettings) : Prop :=
  (100 ≤ b.tUnlock ∧ b.tUnlock ≤ 3000) ∧ (500 ≤ b.tOpen ∧ b.tOpen ≤ 5000) ∧ (2 ≤ b.dwell ∧ b.dwell ≤ 120) ∧
    (500 ≤ b.tClose ∧ b.tClose ≤ 5000) ∧ (100 ≤ b.tLock ∧ b.tLock ≤ 3000) ∧ b.tRecover ≤ 5000 ∧
    (1 ≤ b.maxReopens ∧ b.maxReopens ≤ 5)

/-- A wind configuration as R45 admits it: up to four bands with strictly rising entry winds, a stop band only the
last. -/
def WindConfig.legal (w : WindConfig) : Prop :=
  w.bands.length ≤ 4 ∧ (∀ b ∈ w.bands, 1 ≤ b.entry ∧ b.entry ≤ 600 ∧ ∀ c ∈ b.ceiling, 50 ≤ c ∧ c ≤ 800) ∧
    w.bands.Pairwise (fun a b => a.entry < b.entry) ∧ (∀ b ∈ w.bands.dropLast, b.ceiling.isSome = true) ∧
    w.hysteresis ≤ 50 ∧ (10 ≤ w.hold ∧ w.hold ≤ 600)

/-- Track settings within Table 3-3. -/
def TrackSettings.legal (k : TrackSettings) : Prop :=
  (20 ≤ k.spacing ∧ k.spacing ≤ 1000) ∧ (50 ≤ k.vMin ∧ k.vMin ≤ 400) ∧ (3 ≤ k.slow ∧ k.slow ≤ 5) ∧
    (2 ≤ k.limit ∧ k.limit ≤ 30) ∧ (100 ≤ k.fMin ∧ k.fMin ≤ k.fOk ∧ k.fOk ≤ 4000)

/-- The setup of counter `i` as R147 admits it, or as a start leaves it (R148): a threshold is kept for events 4 and 6
alone. -/
def Counter.legal (i : Idx4) (c : Counter) : Prop :=
  c.event ≤ 16 ∧ (1 ≤ c.preset ∧ c.preset ≤ 65535) ∧ (c.event ≠ 0 → c.mask ≠ []) ∧
    (c.event = 4 → 100 ≤ c.threshold ∧ c.threshold ≤ 4000) ∧
    (c.event = 6 → 100 ≤ c.threshold ∧ c.threshold ≤ 5000) ∧ (c.event ≠ 4 → c.event ≠ 6 → c.threshold = 0) ∧
    c.window ≤ 255 ∧ (i = .i1 → c.chained = false)

/-- A tower's node address and coordinate as R125 admits them. -/
def Slot.legal (x : Slot) : Prop := (∀ a ∈ x.address, 1 ≤ a ∧ a ≤ 63) ∧ x.coord ≤ 18000

/-- A watch's window as R150 admits it. -/
def Watch.legal (w : Watch) : Prop :=
  w.base ≤ 18000 ∧ (w.size = 16 ∨ w.size = 64 ∨ w.size = 256 ∨ w.size = 1024)

/-- Every setting in force lies in its range: a request out of range changes nothing (R43 to R45, R74, R78, R94,
R121, R125, R136, R147, R150), and the current wind band is 0 or a configured one (R38). -/
def SettingsLegal (s : State) : Prop :=
  settingsInRange s.gov.settings = true ∧ (50 ≤ s.gov.desk ∧ s.gov.desk ≤ s.gov.settings.max) ∧
    (s.gov.wind.legal ∧ s.gov.band ≤ s.gov.wind.bands.length) ∧ s.track.settings.legal ∧
    (∀ i, (s.berth i).settings.legal) ∧ s.supply.gap ≤ 2000 ∧
    (500 ≤ s.roster.lUp ∧ s.roster.lUp ≤ 9000) ∧ (500 ≤ s.roster.lDown ∧ s.roster.lDown ≤ 9000) ∧
    (10 ≤ s.roster.slack ∧ s.roster.slack ≤ 500) ∧ (200 ≤ s.scanner.deadline ∧ s.scanner.deadline ≤ 2000) ∧
    (∀ x ∈ s.scanner.slots, x.legal) ∧ (∀ i, (s.counter i).legal i) ∧ ∀ i, (s.watches.units.get i).legal

/-- All the promises. -/
def Safe (s : State) : Prop :=
  DemandsObeyed s ∧ QuietCounted s ∧ BrakeObeyed s ∧ ReferenceBounded s ∧ DoorsSound s ∧ PlacesBounded s ∧ QueuesBounded s ∧
    CallHeld s ∧ TableSound s ∧ CeilingsTrue s ∧ NoticesTrue s ∧ NumbersUnique s ∧ SettingsLegal s

/-! ### The words of the statements -/

/-- The blocks of Figure 1-1 as the state holds them, with the travel update, the motion supply and the queue of
waiting commands. -/
inductive Block where
  | run | gov | update | track | berths | supply | roster | scanner | counters | watches | line | phone | desk
  | pending
deriving DecidableEq, Repr

/-- A block stands in `t` as it stood in `s`. -/
def Block.kept (b : Block) (s t : State) : Prop :=
  match b with
  | .run => t.run = s.run
  | .gov => t.gov = s.gov
  | .update => t.update = s.update
  | .track => t.track = s.track
  | .berths => t.berths = s.berths
  | .supply => t.supply = s.supply
  | .roster => t.roster = s.roster
  | .scanner => t.scanner = s.scanner
  | .counters => t.counters = s.counters
  | .watches => t.watches = s.watches
  | .line => t.line = s.line
  | .phone => t.phone = s.phone
  | .desk => t.desk = s.desk
  | .pending => t.pending = s.pending

/-- Of the blocks, only those of `bs` may differ. -/
def Touches (bs : List Block) (s t : State) : Prop := ∀ b, b ∉ bs → b.kept s t

/-- The line controller stands as it stood, but that a Notice report may have been given back as not taken (R190). -/
def LineQuiet (s t : State) : Prop := t.line = { s.line with noticeTaken := t.line.noticeTaken }

/-- Of the desk link only the report queue has moved: reports, class latches, reports lost (R190, R191). -/
def DeskQuiet (s t : State) : Prop :=
  t.desk.receiver = s.desk.receiver ∧ t.desk.inbox = s.desk.inbox ∧ t.desk.replies = s.desk.replies ∧
    t.desk.transmit = s.desk.transmit ∧ t.desk.restart = s.desk.restart

/-- The desk link gives a request to its owner at once: an empty inbox, a free place for the reply and no Restart
accepted (R189, R193). -/
def DeskFree (s : State) : Prop :=
  s.desk.inbox = [] ∧ s.desk.replies.length < replyMax ∧ s.desk.restart = .none

/-- The reply to a request stands at the tail of the reply queue, and beside it only the report queue has moved
(R189). -/
def Answered (tag : Byte) (r : Request) (result : ReplyResult) (s t : State) : Prop :=
  t.desk.replies = s.desk.replies ++ [{ tag := tag, kind := byte (requestKind r), result := result }] ∧
    t.desk.receiver = s.desk.receiver ∧ t.desk.inbox = s.desk.inbox ∧ t.desk.transmit = s.desk.transmit ∧
    t.desk.restart = s.desk.restart

/-- The state with one more reply waiting, and nothing else changed. -/
def withReply (tag : Byte) (r : Request) (result : ReplyResult) (s : State) : State :=
  { s with desk := { s.desk with
    replies := s.desk.replies ++ [{ tag := tag, kind := byte (requestKind r), result := result }] } }

/-- The command is a request that is refused, with the reply as its only effect (R189). -/
def Refused (c : Instr) (tag : Byte) (r : Request) (reason : Reason) (s : State) : Prop :=
  exec c s = .next (withReply tag r (.refused reason) s)

/-- The run state after a demand of a class has joined the set (R9, R11). -/
def afterDemand (cls : StopClass) (st : RunState) : RunState :=
  match cls, st with
  | .emergency, .starting => .tripped
  | .emergency, .running => .tripped
  | .emergency, .stopping => .tripped
  | .emergency, .stopped => .tripped
  | .service, .starting => .stopping
  | .service, .running => .stopping
  | _, st => st

/-- The demand `src` has been raised, and no other: it is in the set, and the run state is what R9 and R11 require
where it was not there before (R14). -/
def Raised (src : Source) (s t : State) : Prop :=
  (∀ x, x ∈ t.run.demands ↔ x = src ∨ x ∈ s.run.demands) ∧
    t.run.state = (if src ∈ s.run.demands then s.run.state else afterDemand src.cls s.run.state)

/-- The blocks that raising a demand can touch: besides run control, what a run-state transition brings (R31, R55,
R82), the beat that carries the valley stop class (R18), and the reports. -/
def raiseBlocks : List Block := [.run, .gov, .track, .berths, .line, .desk]

/-- The blocks that an event of one berth can touch: besides the berths, the motion supply, the index step that may
start (R55), the counters (event 6 and the cycle events of Table 7-3) and what a counter's stop demand brings. -/
def doorBlocks : List Block := .supply :: .counters :: raiseBlocks

/-- The blocks that an event of the tower string can touch: besides the scanner, the counters and the watches it gives
its events to (R137), the ceilings, and what a demand brings. -/
def towerBlocks : List Block := .scanner :: .counters :: .watches :: raiseBlocks

/-- The blocks that a window end can touch: besides the governor, what its travel update moves (R36, R107, R155), and
what a demand brings. -/
def windowBlocks : List Block := .update :: .roster :: .counters :: .watches :: raiseBlocks

end Sys2Proof.Machine
end

