-- ==== Sys2Proof/WellFormed.lean ====
section
/-! DEFINITION. Well-formed commands: operands that the part's ports can carry (Table 11-1 and the layouts of chapter
11). `exec` gives every command a meaning; this is the senders' side of the interface. -/

namespace Sys2Proof

/-- A small number, an enumeration, a flags byte or a one-byte set. -/
def small (n : Nat) : Bool := decide (n < 256)

/-- A quantity. -/
def quantity (n : Nat) : Bool := decide (n < 65536)

/-- Where the SetWind payload still fits a message of 250 bytes (R195, Table 11-2). -/
def bandsFit (bands : List (Nat × Nat)) : Bool :=
  decide (bands.length ≤ 61) && bands.all fun p => quantity p.1 && quantity p.2

def governorFits (g : GovernorSettings) : Bool :=
  quantity g.calibration && quantity g.max && quantity g.slow && quantity g.margin && quantity g.rollback &&
    quantity g.up && quantity g.down

def berthFits (r : BerthRequest) : Bool :=
  small r.role && quantity r.tUnlock && quantity r.tOpen && quantity r.dwell && quantity r.tClose &&
    quantity r.tLock && quantity r.tRecover && small r.maxReopens

def counterFits (r : CounterRequest) : Bool :=
  small r.event && quantity r.preset && small r.mask && small r.qualifier && quantity r.threshold &&
    small r.action && small r.window

def watchFits (r : WatchRequest) : Bool :=
  quantity r.base && quantity r.size && small r.kind && small r.action

/-- The values of a request fit the fields that carry them (R195). -/
def requestFits : Request → Bool
  | .setGeometry u d k => quantity u && quantity d && quantity k
  | .setGovernor g => governorFits g
  | .setSpacing g v => quantity g && quantity v
  | .setWind bands h t => bandsFit bands && small h && quantity t
  | .setBerth n r => small n && berthFits r
  | .setMotion g => quantity g
  | .setTrack slow limit _ => small slow && quantity limit
  | .setTower n a c e => small n && small a && quantity c && small e
  | .setScan d => quantity d
  | .setGrip a b => quantity a && quantity b
  | .setCounter n r => small n && counterFits r
  | .setWatch n r => small n && watchFits r
  | .wake => true
  | .park => true
  | .run => true
  | .stop => true
  | .setSpeed v => quantity v
  | .clearStop n => small n
  | .resetTrip => true
  | .restart => true
  | .declare p n => small p && small n
  | .release n => small n
  | .hold n => small n
  | .renumber n m => small n && small m
  | .garage => true
  | .inhibitLaunch _ => true
  | .abandon => true
  | .mark n => small n
  | .unmark n => small n
  | .berthCommand n c m => small n && small c && small m
  | .removeCarrier n => small n
  | .ackTower n p => small n && small p
  | .armCounter n => small n
  | .clearHits n => small n
  | .call => true
  | .answer => true
  | .hangUp => true
  | .sendNotice t => decide (t.length ≤ 248)
  | .releaseReports c => small c
  | .readStatus => true
  | .readTrack => true
  | .readRoster n => small n
  | .readBerths => true
  | .readTowers n => small n
  | .readCounters => true
  | .readWatches => true
  | .readLine => true
  | .readGovernor => true

/-- A tower slot number (R124). -/
def slotNumber (n : Nat) : Bool := decide (1 ≤ n) && decide (n ≤ 24)

/-- An event as its owner offers it (R141, Table 7-3): event 14, and no other, carries a watch. -/
def eventFits (ev : CounterEvent) : Bool :=
  decide (1 ≤ ev.code) && decide (ev.code ≤ 16) && quantity ev.value &&
    (match ev.carrier with
      | some (n, _) => decide (1 ≤ n) && decide (n ≤ 250)
      | none => true) &&
    (match ev.slot with
      | some n => slotNumber n
      | none => true) &&
    (match ev.point with
      | some n => decide (1 ≤ n) && decide (n ≤ 4)
      | none => true) &&
    decide (ev.watch.isSome ↔ ev.code = 14)

/-- The fields of a Beat fit its info field (Table 11-5). -/
def beatFits (b : BeatFields) : Bool :=
  small b.number && quantity b.ceiling && quantity b.wind && decide (-32768 ≤ b.speed) && decide (b.speed ≤ 32767)

/-- Bits that hold no flag and no abort: no six consecutive ones, after `ones` of them (R158). -/
def noSixOnes : Nat → List Bool → Bool
  | _, [] => true
  | ones, b :: bs => if b then decide (ones < 5) && noSixOnes (ones + 1) bs else noSixOnes 0 bs

/-- A voice block of 40 bytes (R182). -/
def isBlock (block : List Byte) : Bool := decide (block.length = 40)

/-- The command's operands are such as its sender can give. -/
def wellFormed : Instr → Bool
  | .powerOn => true
  | .wake _ => true
  | .park _ => true
  | .run _ => true
  | .stop _ => true
  | .resetTrip _ => true
  | .clearStop _ n => requestFits (.clearStop n)
  | .platformStopInput _ => true
  | .emergencyLoopInput _ => true
  | .encoderPulse _ => true
  | .windowEnd => true
  | .overspeed => true
  | .encoderLoss => true
  | .quietWindows => true
  | .missedExchange => true
  | .driveStatus record => !record.isEmpty
  | .holdTimer => true
  | .setGovernor _ g => requestFits (.setGovernor g)
  | .setSpeed _ v => requestFits (.setSpeed v)
  | .setWind _ bands h t => requestFits (.setWind bands h t)
  | .readGovernor _ => true
  | .entry n _ => small n
  | .indexTimeLimit => true
  | .indexDone => true
  | .gripTestResult record => !record.isEmpty
  | .hold _ n => requestFits (.hold n)
  | .release _ n => requestFits (.release n)
  | .renumber _ n m => requestFits (.renumber n m)
  | .mark _ n => requestFits (.mark n)
  | .unmark _ n => requestFits (.unmark n)
  | .garage _ => true
  | .inhibitLaunch _ _ => true
  | .abandon _ => true
  | .declare _ p n => requestFits (.declare p n)
  | .setSpacing _ g v => requestFits (.setSpacing g v)
  | .setTrack _ a b c => requestFits (.setTrack a b c)
  | .setGrip _ a b => requestFits (.setGrip a b)
  | .readTrack _ => true
  | .recoveryTimer _ => true
  | .unlockTimer _ => true
  | .motionComplete _ _ => true
  | .openingEnd _ => true
  | .dwellExpiry _ => true
  | .closingEnd _ => true
  | .lockConfirm _ _ => true
  | .lockTimer _ => true
  | .obstruction _ _ => true
  | .driveFaultSense _ _ => true
  | .startGapEnd => true
  | .homingRunEnd _ => true
  | .setBerth _ n r => requestFits (.setBerth n r)
  | .setMotion _ g => requestFits (.setMotion g)
  | .unlock _ n => requestFits (.berthCommand n 0 0)
  | .openDoors _ n => requestFits (.berthCommand n 1 0)
  | .closeDoors _ n => requestFits (.berthCommand n 2 0)
  | .lock _ n => requestFits (.berthCommand n 3 0)
  | .holdOpen _ n => requestFits (.berthCommand n 4 0)
  | .endDwell _ n => requestFits (.berthCommand n 5 0)
  | .reopen _ n => requestFits (.berthCommand n 6 0)
  | .skipCycle _ n => requestFits (.berthCommand n 7 0)
  | .clearFault _ n => requestFits (.berthCommand n 8 0)
  | .setMode _ n m => requestFits (.berthCommand n 9 m)
  | .readBerths _ => true
  | .removeCarrier _ n => requestFits (.removeCarrier n)
  | .setGeometry _ u d k => requestFits (.setGeometry u d k)
  | .readRoster _ n => requestFits (.readRoster n)
  | .pollSent => true
  | .towerReply frame => !frame.isEmpty
  | .replyTimer => true
  | .transactionStart => true
  | .parkedPollTimer => true
  | .towerStale n => slotNumber n
  | .towerSilent n => slotNumber n
  | .setTower _ n a c e => requestFits (.setTower n a c e)
  | .setScan _ d => requestFits (.setScan d)
  | .ackTower _ n p => requestFits (.ackTower n p)
  | .readTowers _ n => requestFits (.readTowers n)
  | .counterExpiry _ ev => eventFits ev
  | .setCounter _ n r => requestFits (.setCounter n r)
  | .armCounter _ n => requestFits (.armCounter n)
  | .readCounters _ => true
  | .setWatch _ n r => requestFits (.setWatch n r)
  | .clearHits _ n => requestFits (.clearHits n)
  | .readWatches _ => true
  | .flagReceived => true
  | .flagTimer => true
  | .abortReceived => true
  | .frameError _ => true
  | .summitBeat b => beatFits b
  | .supervisionTimer => true
  | .passageFrame _ n m => small n && small m
  | .callSignal _ id => small id
  | .voiceFrame id sq block => small id && small sq && isBlock block
  | .noticeFrame text => decide (1 ≤ text.length) && decide (text.length ≤ 64)
  | .beatTimer => true
  | .frameStart => true
  | .frameEnd => true
  | .abortEnd => true
  | .sendNotice _ text => requestFits (.sendNotice text)
  | .readLine _ => true
  | .call _ => true
  | .answer _ => true
  | .hangUp _ => true
  | .ringRepeat => true
  | .ringTimeout => true
  | .ringingGap => true
  | .voiceLoss => true
  | .blockPeriod captured => isBlock captured
  | .deskMessage _ _ payload => decide (payload.length ≤ 248)
  | .gapTimer => true
  | .messageStart => true
  | .messageSent => true
  | .releaseReports _ c => requestFits (.releaseReports c)
  | .restart _ => true
  | .restartStart => true
  | .readStatus _ => true
  | .deskByteReceived _ => true
  | .bodyBitsReceived bits => noSixOnes 0 bits

end Sys2Proof
end

