-- ==== Sys2Proof/Certificates/Slice0/Obligations.lean ====
section
/-! DEFINITION. The statements for the provers. The words they use (`Touches`, `Answered`, `Raised` and the promises)
stand in Sys2Proof/Safety.lean. -/

open Sys2Proof Sys2Proof.Machine Sys2Proof.Config

/-! ### The step and the starts -/

/-- A step runs the command at the front of the queue, on the state with the queue's rest. -/
def Obligations.StepRunsTheFrontCommand : Prop :=
  ∀ (c : Instr) (rest : List Instr) (s : State),
    s.pending = c :: rest → step s = exec c { s with pending := rest }

/-- With an empty queue a step is one millisecond of time (the model's own choice, log entries 2 and 11): each block
stands as it stood but for its own timers and elapsed times, and nothing is decided; the platform stop input freezes
the berths and the index limit (R57, R96). -/
def Obligations.IdleStepOnlyPassesTime : Prop :=
  ∀ s : State, s.pending = [] → ∃ t, step s = .next t ∧
    Touches [.gov, .track, .berths, .supply, .scanner, .line, .phone, .desk] s t ∧
    t.gov = s.gov.tick ∧ t.gov = { s.gov with holdMs := t.gov.holdMs } ∧
    t.track = { s.track with step := s.track.step.map (tickStep s.run.platformStop) } ∧
    t.berths = tickBerths s.run.platformStop s.berths ∧
    (∀ i, t.berth i = { s.berth i with timer := (t.berth i).timer, motionElapsed := (t.berth i).motionElapsed } ∧
      (t.berth i).timer.map Prod.fst = (s.berth i).timer.map Prod.fst) ∧
    t.supply = { s.supply with sinceGrant := s.supply.sinceGrant.map fun ms => min (ms + 1) 65535 } ∧
    t.scanner = { s.scanner with
      slots := s.scanner.slots.map fun x => if x.used then { x with age := min (x.age + 1) 65535 } else x
      transaction := s.scanner.transaction.map fun a => { a with timer := a.timer.map fun ms => ms - 1 }
      parkedTimer := s.scanner.parkedTimer.map fun ms => ms - 1
      pauseTimer := s.scanner.pauseTimer.map fun ms => ms - 1 } ∧
    t.line = { s.line with flagTimer := s.line.flagTimer - 1, beatTimer := s.line.beatTimer - 1,
                           supervision := s.line.supervision.map fun ms => ms - 1,
                           transmit := s.line.transmit.tick } ∧
    t.phone = { s.phone with
      ringRepeat := s.phone.ringRepeat.map fun ms => ms - 1, ringOut := s.phone.ringOut.map fun ms => ms - 1,
      ringingGap := s.phone.ringingGap.map fun ms => ms - 1, voiceLoss := s.phone.voiceLoss.map fun ms => ms - 1,
      blockTimer := s.phone.blockTimer - 1 } ∧
    t.desk = { s.desk with receiver := s.desk.receiver.tick } ∧
    (s.run.platformStop = true → t.berths = s.berths ∧ t.track = s.track)

/-- Every promise of Sys2Proof/Safety.lean holds right after reset. -/
def Obligations.ResetKeepsEveryPromise : Prop :=
  Safe State.reset

/-- Power-on gives the reset state, the commands still waiting outside the part apart; a Restart whose reply has been
sent gives the start values with the configuration kept (R2, R48, R51, R77, R123, R139, R148, R156, R193). The values
that the spec gives for no start (log entry 17), the previous run state in the Restart's report (log entry 18) and the
queue that is kept (log entry 3) are the model's. -/
def Obligations.StartsTakeTheirValues : Prop :=
  (∀ s : State, exec .powerOn s = .next { State.reset with pending := s.pending }) ∧
    ∀ s : State, s.desk.restart = .sending → ∃ t, exec .restartStart s = .next t ∧
      t.run = State.reset.run ∧ t.phone = State.reset.phone ∧ t.update = State.reset.update ∧
      t.gov.settings = s.gov.settings ∧ t.gov.desk = s.gov.desk ∧ t.gov.wind = s.gov.wind ∧
      t.gov.travel = 0 ∧ t.gov.v = 0 ∧ t.gov.reference = 0 ∧ t.gov.band = 0 ∧ t.gov.brakeReleased = false ∧
      t.gov.status = ⟨false, false⟩ ∧ t.line.contents.ready = false ∧ t.line.heard = false ∧
      t.track = Track.start s.track.settings ∧
      (∀ i, (t.berth i).settings = (s.berth i).settings ∧ (t.berth i).mode = (s.berth i).mode ∧
        (t.berth i).state = .parked ∧ (t.berth i).grant = false ∧ (t.berth i).occupied = false) ∧
      t.supply = Supply.start s.supply.gap ∧
      t.scanner.deadline = s.scanner.deadline ∧
      t.scanner.slots.map (fun x => x.address) = s.scanner.slots.map (fun x => x.address) ∧
      (∀ i, t.counter i = { s.counter i with value := (s.counter i).preset, alarm := false, frozen := false,
                                             expiries := 0, sample := none }) ∧
      (∀ i, t.watches.units.get i = { s.watches.units.get i with localOn := false, hit := false }) ∧
      t.desk.urgent = [.runState .parked s.run.state .restart .clear []] ∧ t.desk.replies = [] ∧
      t.desk.inbox = [] ∧ t.pending = s.pending

/-- R123, R186: what the roster and the call unit are after power-on and after Restart. -/
def Obligations.StartsEmptyTheRosterAndTheCallUnit : Prop :=
  ((∀ s t : State, (exec .powerOn s = .next t ∨ (s.desk.restart = .sending ∧ exec .restartStart s = .next t)) →
       t.roster.records = [] ∧ causePersists t .order = false ∧ causePersists t .missing = false) ∧
     (∀ s t : State, exec .powerOn s = .next t →
       t.roster.lUp = 4000 ∧ t.roster.lDown = 4000 ∧ t.roster.slack = 50) ∧
     ∀ s t : State, s.desk.restart = .sending → exec .restartStart s = .next t →
       t.roster.lUp = s.roster.lUp ∧ t.roster.lDown = s.roster.lDown ∧ t.roster.slack = s.roster.slack ∧
         t.track.launch = none) ∧
  (∀ s t : State, (exec .powerOn s = .next t ∨ (s.desk.restart = .sending ∧ exec .restartStart s = .next t)) →
     t.phone.state = .idle ∧ t.phone.id = none ∧ t.phone.nextId = 1 ∧
       t.phone.ringRepeat = none ∧ t.phone.ringOut = none ∧ t.phone.ringingGap = none ∧ t.phone.voiceLoss = none ∧
       t.phone.sequence = 0 ∧ t.phone.queue = [] ∧ t.phone.mode = .buffering ∧ t.phone.reference = none ∧
       t.phone.last = none ∧ t.phone.counts = ⟨0, 0, 0, 0, 0⟩ ∧ t.phone.blockTimer = 10 ∧
       t.phone.codec = List.replicate 40 0xD5#8 ∧ t.line.control = [] ∧ t.desk.others = [])

/-! ### The promises that every step keeps -/

/-- R9, R11, R30: the rope moves under power only with an empty demand set and never with an Emergency demand; the
drive reference never exceeds Max and is 0 in the held states. -/
def Obligations.DemandsAndReferenceStayObeyed : Prop :=
  (∀ s t : State, step s = .next t → DemandsObeyed s → DemandsObeyed t) ∧
  (∀ s t : State, step s = .next t → ReferenceBounded s → ReferenceBounded t)

/-- R32: the brake output follows the run state at every transition, and is applied after either start. -/
def Obligations.BrakeFollowsTheRunState : Prop :=
  (∀ s t : State, step s = .next t → BrakeObeyed s → BrakeObeyed t) ∧
    (∀ s : State, BrakeObeyed s → (s.gov.brakeReleased = true ↔
      s.run.state = .starting ∨ s.run.state = .running ∨ s.run.state = .stopping)) ∧
    State.reset.gov.brakeReleased = false ∧ ∀ s : State, (restartState s).gov.brakeReleased = false

/-- R56, R80, R91, R93 to R95: grants, wait list and doors stay in agreement, and no berth leaves Locked while an
index step is in flight. -/
def Obligations.DoorsStaySound : Prop :=
  ∀ s t : State, step s = .next t → DoorsSound s → DoorsSound t

/-- R49, R52, R60, R64, R104, Figure 10-1, Table 8-3, R162, R174, R183, R188 to R190: no place and no queue holds more
than it can. -/
def Obligations.PlacesAndQueuesStayBounded : Prop :=
  (∀ s t : State, step s = .next t → PlacesBounded s → PlacesBounded t) ∧
  (∀ s t : State, step s = .next t → QueuesBounded s → QueuesBounded t)

/-- R177, R124, R125, R38, R43 to R45, R74, R78, R94, R121, R136, R147, R150: the call id follows the call state, no
tower address stands twice, and no request brings a setting out of its range: the governor's and the wind
configuration's, the track's and the grip thresholds, the berths' and the start gap, the geometry, the scan deadline and
the towers' addresses and coordinates, the counters' and the watches' setups. -/
def Obligations.TablesAndSettingsStayLegal : Prop :=
  (∀ s t : State, step s = .next t → CallHeld s → CallHeld t) ∧
  (∀ s t : State, step s = .next t → TableSound s → TableSound t) ∧
  (∀ s t : State, step s = .next t → SettingsLegal s → SettingsLegal t)

/-- R54, R134, R145, R155, R168: the five Slow ceilings stand exactly while their conditions hold. -/
def Obligations.CeilingsStayTrue : Prop :=
  ∀ s t : State, step s = .next t → CeilingsTrue s → CeilingsTrue t

/-- R18, R56, R62, R81: what one block was last told by another is what holds there. -/
def Obligations.NoticesStayTrue : Prop :=
  ∀ s t : State, step s = .next t → NoticesTrue s → NoticesTrue t

/-- R70, R117: carrier numbers stay unique among the records not marked Duplicate. -/
def Obligations.NumbersStayUnique : Prop :=
  ∀ s t : State, step s = .next t → NumbersUnique s → NumbersUnique t

/-- R185: the playout queue is emptied, with its mode, reference, last block and concealment step, at each entry to
Talking and each leaving of it, and it is empty outside Talking in every state that a run reaches. -/
def Obligations.PlayoutIsEmptiedAroundTalking : Prop :=
  (∀ c s t, exec c s = .next t → ¬ (s.phone.state = .talking ↔ t.phone.state = .talking) →
      t.phone.queue = [] ∧ t.phone.mode = .buffering ∧ t.phone.reference = none ∧ t.phone.last = none ∧
        t.phone.concealStep = 0) ∧
    (State.reset.phone.state ≠ .talking → State.reset.phone.queue = []) ∧
    ∀ s t, step s = .next t → (s.phone.state ≠ .talking → s.phone.queue = []) →
      (t.phone.state ≠ .talking → t.phone.queue = [])

/-! ### The desk port as bytes -/

/-- Every request whose values fit its fields is decoded from its kind code and payload as itself (R195). The payload
widths of SetGovernor, SetTrack, SetTower, SetCounter and SetWatch are the model's (log entry 15). -/
def Obligations.RequestPayloadsDecode : Prop :=
  ∀ r : Request, requestFits r = true → decodeRequest (requestKind r) (encodePayload r) = .ok r

/-- The bytes of a request, received one by one in Waiting, have exactly the effect of the request's arrival: sync
byte, length byte, CRC, kind and payload all count (R187, R188, R195, Table 11-2). That a request's row is its arrival
as a message is log entry 7, and the payload widths of five requests are log entry 15. -/
def Obligations.RequestBytesDeliverTheRequest : Prop :=
  ∀ (tag : Byte) (r : Request) (s : State), requestFits r = true → s.desk.receiver = .waiting →
    (requestBytes tag r).foldl (fun u b => deskByte b u) s = submit tag r s

/-! ### Run control (chapter 1) -/

/-- R3, R97, R130: Wake in Parked enters Waking, sends each Parked berth to Homing (to Fault where its doors are
obstructed, R98) and begins a fresh round of the towers. R5, R57, R97, R130: Park in Stopped, in Waking, and in
Tripped at rest. R6: the three conditions of Run, in their order, and the entry to Starting. -/
def Obligations.RunStateRequestsAct : Prop :=
  (∀ (tag : Byte) (s : State), DeskFree s →
     (s.run.state ≠ .parked → Refused (.wake tag) tag .wake .state s) ∧
     (s.run.state = .parked → s.supply.wait = [] → ∃ t, exec (.wake tag) s = .next t ∧
       Answered tag .wake (.done []) s t ∧
       t.run = { s.run with state := .waking, quiet := 0 } ∧
       (∀ i, (s.berth i).state = .parked → (t.berth i).state = .homing ∨
         ((s.berth i).senses.obstruction = true ∧ (t.berth i).state = .fault)) ∧
       (∀ x ∈ t.scanner.slots, x.used = true → x.heard = false ∧ x.age = 0) ∧
       t.scanner.parkedTimer = none ∧
       Touches [.run, .gov, .berths, .supply, .scanner, .line, .desk] s t ∧ LineQuiet s t)) ∧
  (∀ (tag : Byte) (s : State), DeskFree s →
     (s.run.state = .parked ∨ s.run.state = .starting ∨ s.run.state = .running ∨ s.run.state = .stopping →
       Refused (.park tag) tag .park .state s) ∧
     (s.run.state = .tripped → s.gov.v ≠ 0 → Refused (.park tag) tag .park .permissive s) ∧
     (s.run.state = .stopped ∨ s.run.state = .waking ∨ (s.run.state = .tripped ∧ s.gov.v = 0) →
       ∃ t, exec (.park tag) s = .next t ∧ Answered tag .park (.done []) s t ∧
         t.run = { s.run with state := .parked, quiet := 0 } ∧
         (∀ i, ((t.berth i).state = .parked ∨ (t.berth i).state = .fault) ∧
           (t.berth i).occupied = (s.berth i).occupied ∧ (t.berth i).cycleComplete = (s.berth i).cycleComplete) ∧
         t.supply.wait = [] ∧
         t.track = { s.track with step := none, indexCommand := t.track.indexCommand } ∧
         (s.track.step.isSome = true → t.track.indexCommand = false) ∧
         (∀ x ∈ t.scanner.slots, x.used = true → x.heard = false ∧ x.deadline = .within) ∧
         t.scanner.parkedTimer = some 250 ∧ t.gov.brakeReleased = false ∧ t.gov.tripFlag = false ∧
         Touches [.run, .gov, .track, .berths, .supply, .scanner, .line, .desk] s t ∧ LineQuiet s t)) ∧
  (∀ (tag : Byte) (s : State), DeskFree s →
     (s.run.state ≠ .stopped → Refused (.run tag) tag .run .state s) ∧
     (s.run.state = .stopped → s.run.demands ≠ [] → Refused (.run tag) tag .run .demand s) ∧
     (s.run.state = .stopped → s.run.demands = [] →
       ¬ (s.gov.status.ready = true ∧ s.line.contents.ready = true) → Refused (.run tag) tag .run .permissive s) ∧
     (s.run.state = .stopped → s.run.demands = [] → s.gov.status.ready = true → s.line.contents.ready = true →
       ∃ t, exec (.run tag) s = .next t ∧ Answered tag .run (.done []) s t ∧
         t.run = { s.run with state := .starting, quiet := 0 } ∧ t.gov.reference = 0 ∧ t.gov.brakeReleased = true ∧
         t.gov.tripFlag = false ∧ (∀ i, (t.watches.units.get i).localOn = false) ∧
         Touches [.run, .gov, .track, .berths, .watches, .line, .desk] s t ∧ LineQuiet s t))

/-- R8: Stop is accepted in every run state and raises DeskStop. R15, R18: ClearStop removes the named demand, unless
it is absent or its cause persists, and the valley stop class follows. -/
def Obligations.StopAndClearStopAct : Prop :=
  (∀ (tag : Byte) (s : State), causePersists s .deskStop = false ∧
     (DeskFree s → (∃ t, exec (.stop tag) s = .next t ∧
       Answered tag .stop (.done []) s t ∧ Raised .deskStop s t ∧
       (.deskStop ∉ s.run.demands → t.line.stopClass = stopClassOf t.run.demands ∧
         (s.desk.urgent.length + s.desk.others.length < 32 → Report.stopDemand .deskStop .service ∈ t.desk.urgent)) ∧
       Touches raiseBlocks s t) ∧
       (.deskStop ∈ s.run.demands → exec (.stop tag) s = .next (withReply tag .stop (.done []) s)))) ∧
  (∀ (tag : Byte) (n : Nat) (src : Source) (s : State), DeskFree s →
     (24 ≤ n → Refused (.clearStop tag n) tag (.clearStop n) .range s) ∧
     (Source.all[n]? = some src → src ∉ s.run.demands →
       Refused (.clearStop tag n) tag (.clearStop n) .notFound s) ∧
     (Source.all[n]? = some src → src ∈ s.run.demands → causePersists s src = true →
       Refused (.clearStop tag n) tag (.clearStop n) .causePresent s) ∧
     (Source.all[n]? = some src → src ∈ s.run.demands → causePersists s src = false →
       ∃ t, exec (.clearStop tag n) s = .next t ∧ Answered tag (.clearStop n) (.done []) s t ∧
         (∀ x, x ∈ t.run.demands ↔ x ∈ s.run.demands ∧ x ≠ src) ∧ t.run.state = s.run.state ∧
         t.desk.urgent = s.desk.urgent ∧ t.desk.others = s.desk.others ∧
         t.line.stopClass = stopClassOf t.run.demands ∧
         (s.line.stopClass ≠ t.line.stopClass → ∃ b, t.line.safety = some b ∧ b.stop = t.line.stopClass) ∧
         Touches [.run, .line, .desk] s t))

/-- R12: the three conditions of ResetTrip, in their order, and the return to Stopped. -/
def Obligations.ResetTripReturnsToStopped : Prop :=
  ∀ (tag : Byte) (s : State), DeskFree s →
    (s.run.state ≠ .tripped → Refused (.resetTrip tag) tag .resetTrip .state s) ∧
    (s.run.state = .tripped → (∃ x ∈ s.run.demands, x.cls = .emergency) →
      Refused (.resetTrip tag) tag .resetTrip .demand s) ∧
    (s.run.state = .tripped → (∀ x ∈ s.run.demands, x.cls ≠ .emergency) → s.gov.v ≠ 0 →
      Refused (.resetTrip tag) tag .resetTrip .permissive s) ∧
    (s.run.state = .tripped → (∀ x ∈ s.run.demands, x.cls ≠ .emergency) → s.gov.v = 0 →
      ∃ t, exec (.resetTrip tag) s = .next t ∧ Answered tag .resetTrip (.done []) s t ∧
        t.run = { s.run with state := .stopped, quiet := 0 } ∧ t.gov.tripFlag = false ∧ t.gov.brakeReleased = false ∧
        t.gov.creepBase = some s.gov.travel ∧
        (s.desk.urgent.length + s.desk.others.length < 32 ∨ s.desk.others ≠ [] →
          Report.runState .stopped .tripped .resetTrip (stopClassOf s.run.demands) s.run.demands ∈ t.desk.urgent) ∧
        Touches raiseBlocks s t ∧ LineQuiet s t)

/-- R16, R17: the stop inputs raise their demands on a change to active, and a change to inactive removes none. -/
def Obligations.StopInputsRaiseTheirDemands : Prop :=
  ∀ s : State,
    (s.run.platformStop = false → ∃ t, exec (.platformStopInput true) s = .next t ∧ Raised .platformStop s t ∧
      t.run.platformStop = true ∧ DeskQuiet s t ∧ Touches raiseBlocks s t) ∧
    (s.run.platformStop = true → ∃ t, exec (.platformStopInput false) s = .next t ∧ t.run.platformStop = false ∧
      (∀ x ∈ s.run.demands, x ∈ t.run.demands) ∧
      Touches [.run, .gov, .track, .berths, .supply, .counters, .line, .desk] s t) ∧
    (s.run.loopOpen = false → ∃ t, exec (.emergencyLoopInput true) s = .next t ∧ Raised .emergencyLoop s t ∧
      t.run.loopOpen = true ∧ DeskQuiet s t ∧ Touches raiseBlocks s t) ∧
    (s.run.loopOpen = true →
      exec (.emergencyLoopInput false) s = .next { s with run := { s.run with loopOpen := false } }) ∧
    (∀ b, s.run.platformStop = b → exec (.platformStopInput b) s = .next s) ∧
    ∀ b, s.run.loopOpen = b → exec (.emergencyLoopInput b) s = .next s

/-- R10: the tenth consecutive quiet window ends Stopping in Stopped, with the brake applied and the creep base
recorded; the count stays below ten and is not kept in other states. R25, R27, R35: the last window of a supervision
count raises its demand. That these last windows are commands of their own, beside WINDOW_END, is log entry 6
(DEDUCED). R24, R26: at a window end the rollback distance follows the increment and raises Rollback beyond its
setting, and in Stopped a drift of more than 500 mm from the creep base raises Creep. -/
def Obligations.WindowCountsReachTheirEnds : Prop :=
  (∀ s : State, s.run.state = .stopping → s.gov.reference = 0 → s.gov.v = 0 → 9 ≤ s.run.quiet →
     ∃ t, exec .quietWindows s = .next t ∧ t.run = { s.run with state := .stopped, quiet := 0 } ∧
       t.gov.brakeReleased = false ∧ t.gov.creepBase = some s.gov.travel ∧ DeskQuiet s t ∧
       Touches raiseBlocks s t ∧ LineQuiet s t) ∧
  (∀ s : State,
     (s.run.state = .starting ∨ s.run.state = .running ∨ s.run.state = .stopping →
       (s.gov.reference : Int) + s.gov.settings.margin < s.gov.v → 2 ≤ s.gov.overspeed →
       ∃ t, exec .overspeed s = .next t ∧ Raised .overspeed s t ∧ t.gov.overspeed = 0 ∧ DeskQuiet s t ∧
         Touches raiseBlocks s t) ∧
     (100 ≤ s.gov.reference → s.gov.pf = 0 → s.gov.pb = 0 → 9 ≤ s.gov.encoderLoss →
       ∃ t, exec .encoderLoss s = .next t ∧ Raised .encoderLost s t ∧ t.gov.encoderLoss = 0 ∧ DeskQuiet s t ∧
         Touches raiseBlocks s t) ∧
     (s.gov.firstWindow = false → s.gov.statusSeen = false → s.gov.missed = 4 →
       ∃ t, exec .missedExchange s = .next t ∧ Raised .driveFault s t ∧ t.gov.missed = 5 ∧
         t.gov.status = ⟨false, true⟩ ∧ DeskQuiet s t ∧ Touches raiseBlocks s t)) ∧
  (∀ s t : State, step s = .next t → QuietCounted s → QuietCounted t) ∧
  (∀ s : State, ∃ t, exec .windowEnd s = .next t ∧
     (s.run.state = .parked → t.gov.rollback = 0) ∧
     (∀ r : Nat, s.run.state ≠ .parked →
       r = (if t.update.d < 0 then s.gov.rollback + (-t.update.d).toNat
         else if 0 < t.update.d then 0 else s.gov.rollback) →
       (s.gov.settings.rollback < r → t.gov.rollback = 0 ∧ Source.rollback ∈ t.run.demands) ∧
       (r ≤ s.gov.settings.rollback → t.gov.rollback = r ∧
         (Source.rollback ∈ t.run.demands ↔ Source.rollback ∈ s.run.demands))) ∧
     (∀ base, s.run.state = .stopped → s.gov.creepBase = some base →
       (500 < (t.gov.travel - base).toInt ∨ (t.gov.travel - base).toInt < -500 →
         Source.creep ∈ t.run.demands) ∧
       (-500 ≤ (t.gov.travel - base).toInt → (t.gov.travel - base).toInt ≤ 500 →
         (Source.creep ∈ t.run.demands ↔ Source.creep ∈ s.run.demands))) ∧
     (s.run.state ≠ .stopped → (Source.creep ∈ t.run.demands ↔ Source.creep ∈ s.run.demands)))

/-! ### The speed governor (chapter 2) -/

/-- R20: a pulse increases its count, which stays at 65,535; nothing else changes. R20 to R23, R36: what a window end
measures. In a plausible window the net pulses at the calibration, with the residue carried, move T by the whole
millimetres d, and v is a quarter of the four-window sum, a half rounded away from zero; an implausible one keeps all
this and raises EncoderLost. R36, R37: the travel update carries T, the T before, d, v, the run state and the kilometre
event. -/
def Obligations.PulsesBecomeTravel : Prop :=
  (∀ s : State,
     exec (.encoderPulse false) s = .next { s with gov := { s.gov with pf := min (s.gov.pf + 1) 65535 } } ∧
     exec (.encoderPulse true) s = .next { s with gov := { s.gov with pb := min (s.gov.pb + 1) 65535 } }) ∧
  (∀ s : State, ∃ t, exec .windowEnd s = .next t ∧
     t.gov.pf = 0 ∧ t.gov.pb = 0 ∧ t.gov.lastPf = s.gov.pf ∧ t.gov.lastPb = s.gov.pb ∧
     t.update = { t := t.gov.travel, before := s.gov.travel, d := t.update.d, v := t.gov.v, run := s.run.state,
                  km := decide (0 < t.update.d ∧ s.gov.travel.toNat / 1000000 ≠ t.gov.travel.toNat / 1000000) } ∧
     Touches windowBlocks s t ∧ DeskQuiet s t ∧
     (s.gov.pf + s.gov.pb ≤ 4000 → ∃ d : Int, t.update.d = d ∧
       ((s.gov.pf : Int) - s.gov.pb) * s.gov.settings.calibration + s.gov.residue = 4096 * d + t.gov.residue ∧
       t.gov.residue < 4096 ∧ t.gov.travel = s.gov.travel + BitVec.ofInt 32 d ∧
       t.gov.history = ⟨d, s.gov.history.h1, s.gov.history.h2, s.gov.history.h3⟩ ∧
       ∃ m : Int, m = d + s.gov.history.h1 + s.gov.history.h2 + s.gov.history.h3 ∧
         (0 ≤ m → 4 * t.gov.v ≤ m + 2 ∧ m < 4 * t.gov.v + 2) ∧
         (m < 0 → m - 2 ≤ 4 * t.gov.v ∧ 4 * t.gov.v - 2 < m)) ∧
     (4000 < s.gov.pf + s.gov.pb → t.update.d = 0 ∧ t.gov.travel = s.gov.travel ∧ t.gov.residue = s.gov.residue ∧
       t.gov.history = s.gov.history ∧ t.gov.v = s.gov.v ∧ Source.encoderLost ∈ t.run.demands))

/-- R7, R11, R29, R30: in Starting and Running a window end takes the lowest present ceiling as the target and moves
the reference toward it by one step, without passing it; a trip in the same event sets it to 0; Starting ends exactly
when the two meet with no demand present. In Stopping the target is 0 and the reference ramps down; a window end with
reference and speed 0 adds one to the quiet window count, any other returns it to 0, and the tenth ends in Stopped
(R10). In the held states target and reference are 0. -/
def Obligations.WindowEndFollowsTheLowestCeiling : Prop :=
  (∀ s : State, (s.run.state = .starting ∨ s.run.state = .running) → ∃ t, exec .windowEnd s = .next t ∧
    (∃ c, s.gov.ceiling c = some t.gov.target) ∧ (∀ c v, s.gov.ceiling c = some v → t.gov.target ≤ v) ∧
    (∀ c, c ∈ t.gov.limiting ↔ s.gov.ceiling c = some t.gov.target) ∧
    t.gov.reference = (if t.run.state = .tripped then 0
      else if s.gov.reference < t.gov.target then min t.gov.target (s.gov.reference + s.gov.settings.up)
      else max t.gov.target (s.gov.reference - s.gov.settings.down)) ∧
    (s.run.state = .starting → t.run.demands = [] →
      t.run.state = (if t.gov.reference = t.gov.target then .running else .starting))) ∧
  (∀ s : State, s.run.state = .stopping → ∃ t, exec .windowEnd s = .next t ∧ t.gov.target = 0 ∧
    t.gov.limiting = [] ∧
    t.gov.reference = (if t.run.state = .tripped then 0 else s.gov.reference - s.gov.settings.down) ∧
    (t.run.state ≠ .tripped → t.gov.reference = 0 → t.gov.v = 0 → s.run.quiet < 9 →
      t.run.state = .stopping ∧ t.run.quiet = s.run.quiet + 1) ∧
    (t.run.state ≠ .tripped → t.gov.reference = 0 → t.gov.v = 0 → 9 ≤ s.run.quiet →
      t.run.state = .stopped ∧ t.run.quiet = 0 ∧ t.gov.brakeReleased = false ∧
        t.gov.creepBase = some t.gov.travel) ∧
    (t.run.state ≠ .tripped → t.gov.reference ≠ 0 ∨ t.gov.v ≠ 0 → t.run.state = .stopping ∧ t.run.quiet = 0)) ∧
  (∀ s : State, (s.run.state = .parked ∨ s.run.state = .waking ∨ s.run.state = .stopped ∨ s.run.state = .tripped) →
    ∃ t, exec .windowEnd s = .next t ∧ t.gov.target = 0 ∧ t.gov.limiting = [] ∧ t.gov.reference = 0)

/-- R34, R198: a status record replaces the drive status and ends the count of missed exchanges; a fault raises
DriveFault; a record that does not match its format changes nothing. R41: the hold timer reaching the hold time lowers
the band by one, and runs on only for a reading below the new band's entry wind less H. -/
def Obligations.DriveStatusAndHoldTimerAct : Prop :=
  (∀ (record : List Byte) (s : State),
     (parseStatus record = none → exec (.driveStatus record) s = .next s) ∧
     ∀ d, parseStatus record = some d → ∃ t, exec (.driveStatus record) s = .next t ∧
       t.gov.status = d ∧ t.gov.missed = 0 ∧ t.gov.statusSeen = true ∧
       (d.fault = true → Raised .driveFault s t ∧ Touches raiseBlocks s t) ∧
       (d.fault = false → t.run = s.run ∧ Touches [.gov, .line, .desk] s t ∧ LineQuiet s t) ∧ DeskQuiet s t) ∧
  (∀ s : State, s.gov.hold = .running → ∃ t, exec .holdTimer s = .next t ∧
     t.gov.band = s.gov.band - 1 ∧ t.gov.holdMs = 0 ∧
     (t.gov.hold = .running ∨ t.gov.hold = .stopped) ∧
     (t.gov.hold = .running ↔ ∃ w b, s.line.contents.wind = some w ∧ 1 < s.gov.band ∧
       s.gov.wind.bands[s.gov.band - 2]? = some b ∧ w < b.entry - s.gov.wind.hysteresis) ∧
     (∀ x ∈ s.run.demands, x ∈ t.run.demands) ∧ DeskQuiet s t ∧ Touches raiseBlocks s t)

/-- R43 to R45: the governor's three settings requests, accepted. -/
def Obligations.GovernorSettingsAreTaken : Prop :=
  ∀ (tag : Byte) (s : State), DeskFree s →
    (∀ g, (s.run.state = .parked ∨ s.run.state = .stopped) → settingsInRange g = true →
      ∃ t, exec (.setGovernor tag g) s = .next t ∧
        Answered tag (.setGovernor g) (.done (byte2 (Nat.max 50 (Nat.min s.gov.desk g.max)))) s t ∧
        t.gov = { s.gov with settings := g, desk := Nat.max 50 (Nat.min s.gov.desk g.max),
                             residue := if g.calibration = s.gov.settings.calibration then s.gov.residue else 0 } ∧
        Touches [.gov, .line, .desk] s t ∧ LineQuiet s t) ∧
    (∀ v, ∃ t, exec (.setSpeed tag v) s = .next t ∧
        Answered tag (.setSpeed v) (.done (byte2 (Nat.max 50 (Nat.min v s.gov.settings.max)))) s t ∧
        t.gov = { s.gov with desk := Nat.max 50 (Nat.min v s.gov.settings.max) } ∧
        Touches [.gov, .line, .desk] s t ∧ LineQuiet s t) ∧
    (∀ bands h hold, (s.run.state = .parked ∨ s.run.state = .stopped) → windInRange bands h hold = true →
      ∃ t, exec (.setWind tag bands h hold) s = .next t ∧ Answered tag (.setWind bands h hold) (.done []) s t ∧
        t.gov = { s.gov with wind := ⟨bands.map bandOf, h, hold⟩, band := 0, hold := .stopped, holdMs := 0 } ∧
        Touches [.gov, .line, .desk] s t ∧ LineQuiet s t)

/-! ### The terminal track (chapter 3) -/

/-- R52, R53, R116 to R119: an entry joins the buffer's tail with its tag, or with the number of the oldest Inbound
record where the tag was not read; a tag read that an Inbound record bears takes that record off the roster, the Inbound
records before it marked Skipped and Order raised; a record with GripFail or NoTest is Held (R50); a full buffer creates
no record and raises EntryOverrun. -/
def Obligations.EntryJoinsTheBuffer : Prop :=
  ∀ (tag : Nat) (stuck : Bool) (s : State),
    (6 ≤ s.track.buffer.length → ∃ t, exec (.entry tag stuck) s = .next t ∧ Raised .entryOverrun s t ∧
      t.track = s.track ∧ DeskQuiet s t ∧ Touches [.run, .gov, .berths, .line, .desk] s t) ∧
    (s.track.buffer.length < 6 → ∃ t r, exec (.entry tag stuck) s = .next t ∧
      t.track.buffer = s.track.buffer ++ [r] ∧ r.entryTravel = s.update.t ∧ r.gripStuck = stuck ∧
      r.cycles = [] ∧ r.reopens = 0 ∧ r.releaseTravel = none ∧
      (1 ≤ tag → tag ≤ 250 → r.number = tag) ∧
      (stuck = true → Mark.stuck ∈ r.marks ∧ Source.gripStuck ∈ t.run.demands) ∧
      (Mark.gripFail ∈ r.marks ∨ Mark.noTest ∈ r.marks → Mark.held ∈ r.marks) ∧
      (1 ≤ tag → tag ≤ 250 → (∀ x ∈ s.roster.records, x.carrier.number = tag → x.leg ≠ .inbound) →
        t.roster = s.roster ∧ r.force = none ∧
        ((∃ p ∈ placed s, p.2.number = tag) → Mark.duplicate ∈ r.marks) ∧
        ((∀ p ∈ placed s, p.2.number ≠ tag) →
          (Mark.stranger ∈ r.marks ↔ s.track.settings.acceptUnlisted = false))) ∧
      (tag = 0 ∨ 250 < tag → (∀ x ∈ s.roster.records, x.leg ≠ .inbound) →
        r.number = 0 ∧ Mark.unread ∈ r.marks ∧ Mark.stranger ∈ r.marks ∧ t.roster = s.roster) ∧
      (∀ before x behind, tag = 0 ∨ 250 < tag → s.roster.records = before ++ x :: behind → x.leg = .inbound →
        (∀ y ∈ before, y.leg ≠ .inbound) →
        r.number = x.carrier.number ∧ Mark.unread ∈ r.marks ∧ Mark.inferred ∈ r.marks ∧
          r.force = x.carrier.force ∧ t.roster.records = before ++ behind) ∧
      (∀ before x behind, 1 ≤ tag → tag ≤ 250 → s.roster.records = before ++ x :: behind → x.leg = .inbound →
        x.carrier.number = tag → (∀ y ∈ before, y.leg = .inbound → y.carrier.number ≠ tag) →
        r.force = x.carrier.force ∧ Mark.skipped ∉ r.marks ∧ Mark.unread ∉ r.marks ∧ Mark.inferred ∉ r.marks ∧
          (∀ m ∈ x.carrier.marks, m ≠ .skipped → m ≠ .unread → m ≠ .inferred → m ∈ r.marks) ∧
          t.roster.records = before.map (fun y => if y.leg = .inbound then
            { y with carrier := { y.carrier with marks := addMark .skipped y.carrier.marks } } else y) ++ behind ∧
          (∀ y ∈ before, y.leg = .inbound → Source.order ∈ t.run.demands) ∧
          ((∀ y ∈ before, y.leg ≠ .inbound) →
            (Source.order ∈ t.run.demands ↔ Source.order ∈ s.run.demands))) ∧
      DeskQuiet s t ∧ Touches (.roster :: .counters :: raiseBlocks) s t)

/-- R57, R58, R81: the time limit of a step in flight raises IndexJam once and leaves the step in flight; index-done
shifts the places forward by one and gives the berths their occupancy; without a step it is a discarded input. -/
def Obligations.IndexStepEndsAsItShould : Prop :=
  ∀ s : State,
    (∀ st, s.track.step = some st → st.expired = false → s.run.platformStop = false →
      ∃ t, exec .indexTimeLimit s = .next t ∧ Raised .indexJam s t ∧
        t.track = { s.track with step := some ⟨0, true⟩ } ∧ t.berths = s.berths ∧ DeskQuiet s t ∧
        Touches [.run, .gov, .track, .line, .desk] s t) ∧
    (∀ st, s.track.step = some st → ∃ t, exec .indexDone s = .next t ∧
      t.track.buffer = s.track.buffer.tail ∧
      t.track.berths = ⟨s.track.buffer.head?, s.track.berths.v1, s.track.berths.v2, s.track.berths.v3⟩ ∧
      (t.track.launchBerth = s.track.berths.v4 ∨
        (t.track.launchBerth = none ∧ t.track.launch.isSome = true)) ∧
      (∀ i, (t.berth i).occupied = (t.track.berths.get i).isSome) ∧ DeskQuiet s t ∧
      Touches doorBlocks s t) ∧
    (s.track.step = none → exec .indexDone s =
      .next { s with track := { s.track with discarded := min (s.track.discarded + 1) 65535 } })

/-- R63, R64, R66, R105: a grip test result completes the launch in flight, classified by the thresholds in force, and
its record joins the roster's tail Outbound, anchored at T, and the launch is no longer in flight: what may then be in
flight is the launch berth's record, released by the launch gate (R60, R62). Without a launch a result is a discarded
input. -/
def Obligations.GripResultCompletesTheLaunch : Prop :=
  ∀ (record : List Byte) (received : Nat) (s : State), parseGrip record = some received →
    (∀ r, s.track.launch = some r → ∃ t q, exec (.gripTestResult record) s = .next t ∧
      t.roster.records = s.roster.records ++ [q] ∧ q.carrier.number = r.number ∧
      q.carrier.force = some (min received 4000) ∧ q.leg = .outbound ∧ q.anchor = s.update.t ∧
      q.overdue = false ∧ q.prevCoord = none ∧ q.exempt = [] ∧
      q.gripClass = (if s.track.settings.fOk ≤ min received 4000 then .good
        else if s.track.settings.fMin ≤ min received 4000 then .marginal else .fail) ∧
      (Mark.marginal ∈ q.carrier.marks ↔ q.gripClass = .marginal) ∧
      (Mark.gripFail ∈ q.carrier.marks ↔ q.gripClass = .fail) ∧ Mark.noTest ∉ q.carrier.marks ∧
      (q.gripClass = .fail → Source.gripFail ∈ t.run.demands) ∧
      ((t.track.launch = none ∧ t.track.launchCommand = false ∧ t.track.launchBerth = s.track.launchBerth) ∨
        ∃ b, s.run.state = .running ∧ s.track.launchBerth = some b ∧ t.track.launchBerth = none ∧
          t.track.launch = some { b with releaseTravel := some s.update.t } ∧ t.track.launchCommand = true) ∧
      DeskQuiet s t ∧
      Touches (.roster :: .counters :: raiseBlocks) s t) ∧
    (s.track.launch = none → ∃ t, exec (.gripTestResult record) s = .next t ∧
      t.track = { s.track with discarded := min (s.track.discarded + 1) 65535 } ∧ DeskQuiet s t ∧
      LineQuiet s t ∧ Touches [.track, .line, .desk] s t)

/-- R68 to R71: the requests that change the marks or the number of the one record that bears a number. Where that
record stands in the launch berth, Release and Renumber test the launch gate, and a carrier let go offers counter
event 1 (R60, R62). The records of every other number stay as they are and where they are. -/
def Obligations.NamedRecordRequestsAct : Prop :=
  ∀ (tag : Byte) (n : Nat) (p : Place) (r : CarrierRec) (s : State), DeskFree s → 1 ≤ n → n ≤ 250 →
    bearers n s = [(p, r)] →
    (p ≠ .launchRecord → Mark.held ∉ r.marks → ∃ t, exec (.hold tag n) s = .next t ∧
      Answered tag (.hold n) (.done []) s t ∧ bearers n t = [(p, { r with marks := addMark .held r.marks })] ∧
      (∀ m, m ≠ n → bearers m t = bearers m s) ∧ Touches [.track, .roster, .line, .desk] s t ∧ LineQuiet s t) ∧
    (p ≠ .launchRecord → Mark.held ∈ r.marks →
      exec (.hold tag n) s = .next (withReply tag (.hold n) (.done []) s)) ∧
    (p = .launchRecord → Refused (.hold tag n) tag (.hold n) .state s) ∧
    (p ≠ .launchBerth → ∃ t, exec (.release tag n) s = .next t ∧ Answered tag (.release n) (.done []) s t ∧
      bearers n t =
        [(p, { r with marks := removeMarks [.held, .stranger, .stuck, .duplicate] r.marks })] ∧
      (∀ m, m ≠ n → bearers m t = bearers m s) ∧ Touches [.track, .roster, .line, .desk] s t ∧ LineQuiet s t) ∧
    (p = .launchBerth → ∃ t, exec (.release tag n) s = .next t ∧ Answered tag (.release n) (.done []) s t ∧
      Touches (.counters :: raiseBlocks) s t ∧ (∀ m, m ≠ n → bearers m t = bearers m s) ∧
      ∃ q, q.number = n ∧ (∀ m ∈ [Mark.held, .stranger, .stuck, .duplicate], m ∉ q.marks) ∧
        (t.track.launchBerth = some q ∨ (t.track.launchBerth = none ∧ t.track.launch = some q))) ∧
    (∃ t, exec (.mark tag n) s = .next t ∧ Answered tag (.mark n) (.done []) s t ∧
      bearers n t = [(p, { r with marks := addMark .marked r.marks })] ∧
      (∀ m, m ≠ n → bearers m t = bearers m s) ∧ Touches [.track, .roster, .desk] s t) ∧
    (∃ t, exec (.unmark tag n) s = .next t ∧ Answered tag (.unmark n) (.done []) s t ∧
      bearers n t = [(p, { r with marks := removeMarks [.marked] r.marks })] ∧
      (∀ m, m ≠ n → bearers m t = bearers m s) ∧ Touches [.track, .roster, .desk] s t) ∧
    (∀ new, 1 ≤ new → new ≤ 250 → new ≠ n → bearers new s = [] → p ≠ .launchBerth →
      ∃ t, exec (.renumber tag n new) s = .next t ∧ Answered tag (.renumber n new) (.done []) s t ∧
        bearers n t = [] ∧
        bearers new t = [(p, { r with number := new, marks := removeMarks [.unread, .inferred] r.marks })] ∧
        (∀ m, m ≠ n → m ≠ new → bearers m t = bearers m s) ∧
        Touches [.track, .roster, .line, .desk] s t ∧ LineQuiet s t) ∧
    (∀ new, 1 ≤ new → new ≤ 250 → new ≠ n → bearers new s = [] → p = .launchBerth →
      ∃ t, exec (.renumber tag n new) s = .next t ∧ Answered tag (.renumber n new) (.done []) s t ∧
        Touches (.counters :: raiseBlocks) s t ∧ bearers n t = [] ∧
        (∀ m, m ≠ n → m ≠ new → bearers m t = bearers m s) ∧ ∃ q, q.number = new ∧ (t.track.launchBerth = some q ∨
          (t.track.launchBerth = none ∧ t.track.launch = some q))) ∧
    (∀ new, 1 ≤ new → new ≤ 250 → new ≠ n → bearers new s ≠ [] →
      Refused (.renumber tag n new) tag (.renumber n new) .conflict s)

/-- R72, R73: Garage discards the launch berth's record, InhibitLaunch sets the inhibit and off tests the launch gate,
whose release offers counter event 1 (R62), Abandon ends a launch at rest as NoTest with its force absent. R73:
Declare in Parked puts a new record, or the record that bears the number, into a free place. -/
def Obligations.LaunchRequestsAct : Prop :=
  (∀ (tag : Byte) (s : State), DeskFree s →
     (s.track.launchBerth = none → Refused (.garage tag) tag .garage .notFound s) ∧
     (∀ r, s.track.launchBerth = some r → ∃ t, exec (.garage tag) s = .next t ∧
       Answered tag .garage (.done []) s t ∧
       t.track = { s.track with launchBerth := none, step := t.track.step, indexCommand := t.track.indexCommand } ∧
       Touches [.track, .line, .desk] s t ∧ LineQuiet s t) ∧
     (∃ t, exec (.inhibitLaunch tag true) s = .next t ∧ Answered tag (.inhibitLaunch true) (.done []) s t ∧
       t.track = { s.track with inhibit := true } ∧ Touches [.track, .desk] s t) ∧
     (∃ t, exec (.inhibitLaunch tag false) s = .next t ∧ Answered tag (.inhibitLaunch false) (.done []) s t ∧
       Touches (.counters :: raiseBlocks) s t ∧ t.track.inhibit = false ∧ t.track.buffer = s.track.buffer ∧
       t.track.berths = s.track.berths ∧
       (t.track.launchBerth = s.track.launchBerth ∨
         (t.track.launchBerth = none ∧ t.track.launch.isSome = true))) ∧
     (∀ r, (s.run.state = .stopped ∨ s.run.state = .tripped) → s.track.launch = some r → s.gov.v = 0 →
       ∃ t q, exec (.abandon tag) s = .next t ∧ Answered tag .abandon (.done []) s t ∧
         t.track = { s.track with launch := none, launchCommand := false } ∧
         t.roster = { s.roster with records := s.roster.records ++ [q] } ∧ q.carrier.number = r.number ∧
         q.gripClass = .noTest ∧ Mark.noTest ∈ q.carrier.marks ∧ q.carrier.force = none ∧ q.leg = .outbound ∧ q.anchor = s.update.t ∧
         Touches [.track, .roster, .line, .desk] s t ∧ LineQuiet s t)) ∧
  (∀ (tag : Byte) (place n : Nat) (p : Place) (s : State), DeskFree s → s.run.state = .parked →
     declarePlace? place = some p → 1 ≤ n → n ≤ 250 → launchedBears n s = false → (inPlaces n s).length ≤ 1 →
     (p = .buffer → s.track.buffer.length < 6) → s.track.occupiedAt p = false →
     ∃ t r, exec (.declare tag place n) s = .next t ∧ Answered tag (.declare place n) (.done []) s t ∧
       bearers n t = [(p, r)] ∧ (inPlaces n s = [] → r = declaredRecord n s.update.t) ∧
       (inPlaces n s ≠ [] → inPlaces n s = [r]) ∧
       (∀ m, m ≠ n → bearers m t = bearers m s) ∧ t.run.state = .parked ∧
       Touches [.run, .gov, .track, .berths, .line, .desk] s t)

/-- R60 to R62: the launch gate releases exactly when its seven conditions hold together, and what a release does.
R74: the track controller's settings; SetSpacing tests the gate, whose release offers counter event 1. -/
def Obligations.LaunchGateAndTrackSettings : Prop :=
  (∀ (r : CarrierRec) (s : State), s.track.launchBerth = some r →
     ((s.run.state = .running ∧ (s.track.settings.vMin : Int) ≤ s.update.v ∧
         (s.track.settings.spacing : Int) * 1000 ≤ (s.update.t - s.track.releaseMark).toInt ∧
         s.track.launch = none ∧ s.roster.records.length < 96 ∧
         Mark.stranger ∉ r.marks ∧ Mark.duplicate ∉ r.marks ∧ Mark.stuck ∉ r.marks ∧ Mark.held ∉ r.marks ∧
         s.track.inhibit = false) →
       (gateTest s).track.launch = some { r with releaseTravel := some s.update.t } ∧
         (gateTest s).track.launchBerth = none ∧ (gateTest s).track.launchCommand = true ∧
         (gateTest s).track.releaseMark = s.update.t ∧ (gateTest s).roster = s.roster ∧
         (s.line.control.length < 16 → ControlFrame.passage r.number ∈ (gateTest s).line.control)) ∧
     (¬ (s.run.state = .running ∧ (s.track.settings.vMin : Int) ≤ s.update.v ∧
         (s.track.settings.spacing : Int) * 1000 ≤ (s.update.t - s.track.releaseMark).toInt ∧
         s.track.launch = none ∧ s.roster.records.length < 96 ∧
         Mark.stranger ∉ r.marks ∧ Mark.duplicate ∉ r.marks ∧ Mark.stuck ∉ r.marks ∧ Mark.held ∉ r.marks ∧
         s.track.inhibit = false) → gateTest s = s)) ∧
  (∀ (tag : Byte) (s : State), DeskFree s →
     (∀ g v, 20 ≤ g → g ≤ 1000 → 50 ≤ v → v ≤ 400 → ∃ t, exec (.setSpacing tag g v) s = .next t ∧
       Answered tag (.setSpacing g v) (.done []) s t ∧
       t.track.settings = { s.track.settings with spacing := g, vMin := v } ∧
       t.track.buffer = s.track.buffer ∧ t.track.berths = s.track.berths ∧
       (t.track.launchBerth = s.track.launchBerth ∨
         (t.track.launchBerth = none ∧ t.track.launch.isSome = true)) ∧
       Touches (.counters :: raiseBlocks) s t) ∧
     (∀ slow limit accept, 3 ≤ slow → slow ≤ 5 → 2 ≤ limit → limit ≤ 30 →
       ∃ t, exec (.setTrack tag slow limit accept) s = .next t ∧
         Answered tag (.setTrack slow limit accept) (.done []) s t ∧
         t.track = { s.track with
           settings := { s.track.settings with slow := slow, limit := limit, acceptUnlisted := accept } } ∧
         t.gov = { s.gov with trackCeiling := decide (slow ≤ s.track.buffer.length) } ∧
         Touches [.gov, .track, .line, .desk] s t ∧ LineQuiet s t) ∧
     (∀ fMin fOk, 100 ≤ fMin → fMin ≤ fOk → fOk ≤ 4000 → ∃ t, exec (.setGrip tag fMin fOk) s = .next t ∧
       Answered tag (.setGrip fMin fOk) (.done []) s t ∧
       t.track = { s.track with settings := { s.track.settings with fMin := fMin, fOk := fOk } } ∧
       Touches [.track, .desk] s t))

/-! ### The berths (chapter 4) -/

/-- R82 to R87, R90: each timer of the door cycle, running and not frozen, brings its berth to the state that follows;
where the berth was not ready for it, to Fault with the reason. R82 to R87, R96, R98: a timer row of a berth whose
timer is not running, or is frozen by the platform stop input, changes nothing. That a cycle's start clears doors ran
and the reopen count, and that a run's end releases the grant, with its test of R94, before the berth's own next
request, is log entry 12 (DEDUCED). -/
def Obligations.DoorTimersAct : Prop :=
  (∀ (i : Idx4) (ms : Nat) (s : State), s.run.platformStop = false →
     ((s.berth i).state = .locked → (s.berth i).timer = some (.recovery, ms) →
       ∃ t, exec (.recoveryTimer i) s = .next t ∧ DeskQuiet s t ∧ LineQuiet s t ∧
         Touches [.berths, .line, .desk] s t ∧
         t.berths = s.berths.set i (if cycleReady s { s.berth i with timer := none } then
           { s.berth i with state := .unlocking, timer := some (.unlock, (s.berth i).settings.tUnlock),
                            doorsRan := false, reopens := 0 }
           else { s.berth i with timer := none })) ∧
     ((s.berth i).state = .unlocking → (s.berth i).timer = some (.unlock, ms) →
       ∃ t, exec (.unlockTimer i) s = .next t ∧ DeskQuiet s t ∧ Touches doorBlocks s t ∧
         ((s.berth i).senses.lockConfirm = true →
           (t.berth i).state = .fault ∧ (t.berth i).reason = .unlockFailed) ∧
         ((s.berth i).senses.lockConfirm = false → (s.berth i).mode = .manual →
           t.berths = s.berths.set i { s.berth i with state := .unlocked, timer := none } ∧
             t.supply = s.supply) ∧
         ((s.berth i).senses.lockConfirm = false → (s.berth i).mode = .auto → (∀ e ∈ s.supply.wait, e.1 ≠ i) →
           ((t.berth i).state = .unlocked ∧ (i, Motion.opening) ∈ t.supply.wait) ∨
             ((t.berth i).state = .opening ∧ (t.berth i).grant = true))) ∧
     ((s.berth i).state = .opening → (s.berth i).timer = some (.run, ms) →
       ∃ t, exec (.openingEnd i) s = .next t ∧ DeskQuiet s t ∧ Touches doorBlocks s t ∧
         ((s.berth i).motionSeen = false → (t.berth i).state = .fault ∧ (t.berth i).reason = .motionIncomplete) ∧
         ((s.berth i).motionSeen = true → s.supply.wait = [] → (s.berth i).mode = .manual →
           t.berths = s.berths.set i { s.berth i with state := .opened, grant := false, timer := none }) ∧
         ((s.berth i).motionSeen = true → s.supply.wait = [] → (s.berth i).mode = .auto →
           (s.berth i).holdOpen = false → (s.berth i).reopens = 0 →
           t.berths = s.berths.set i { s.berth i with
             state := .opened, grant := false, timer := some (.dwell, (s.berth i).settings.dwell * 1000) }) ∧
         ((s.berth i).motionSeen = true → s.supply.wait = [] → (s.berth i).mode = .auto →
           (s.berth i).holdOpen = false → (s.berth i).reopens ≠ 0 → (s.berth i).senses.obstruction = false →
           ((t.berth i).state = .opened ∧ (t.berth i).grant = false ∧ (t.berth i).timer = none ∧
               t.supply.wait = [(i, .closing)]) ∨
             ((t.berth i).state = .closing ∧ (t.berth i).grant = true ∧
               (t.berth i).timer = some (.run, (s.berth i).settings.tClose) ∧ t.supply.wait = [])) ∧
         ((s.berth i).motionSeen = true → (∀ e ∈ s.supply.wait, e.1 ≠ i) →
           (s.berth i).mode = .manual ∨ (s.berth i).holdOpen = true →
           t.berth i = { s.berth i with state := .opened, grant := false, timer := none })) ∧
     ((s.berth i).state = .opened → (s.berth i).timer = some (.dwell, ms) → (s.berth i).senses.obstruction = false →
       s.supply.wait = [] → ∃ t, exec (.dwellExpiry i) s = .next t ∧ DeskQuiet s t ∧ Touches doorBlocks s t ∧
         (((t.berth i).state = .opened ∧ (t.berth i).timer = none ∧ t.supply.wait = [(i, .closing)]) ∨
           ((t.berth i).state = .closing ∧ (t.berth i).grant = true ∧
             (t.berth i).timer = some (.run, (s.berth i).settings.tClose) ∧ (t.berth i).motionElapsed = 0 ∧
             (t.berth i).motionSeen = false ∧ t.supply.wait = []))) ∧
     ((s.berth i).state = .closing → (s.berth i).timer = some (.run, ms) →
       ∃ t, exec (.closingEnd i) s = .next t ∧ DeskQuiet s t ∧ Touches doorBlocks s t ∧
         ((s.berth i).motionSeen = false → (t.berth i).state = .fault ∧ (t.berth i).reason = .motionIncomplete) ∧
         ((s.berth i).motionSeen = true → s.supply.wait = [] → (s.berth i).mode = .manual →
           (t.berth i).state = .closed ∧ (t.berth i).grant = false ∧ (t.berth i).timer = none) ∧
         ((s.berth i).motionSeen = true → (∀ e ∈ s.supply.wait, e.1 ≠ i) → (s.berth i).mode = .manual →
           t.berth i = { s.berth i with state := .closed, grant := false, timer := none }) ∧
         ((s.berth i).motionSeen = true → s.supply.wait = [] → (s.berth i).mode = .auto →
           (s.berth i).senses.lockConfirm = false →
           (t.berth i).state = .locking ∧ (t.berth i).grant = false ∧
             (t.berth i).timer = some (.lock, (s.berth i).settings.tLock))) ∧
     ((s.berth i).state = .locking → (s.berth i).timer = some (.lock, ms) →
       ∃ t, exec (.lockTimer i) s = .next t ∧ DeskQuiet s t ∧ Touches doorBlocks s t ∧ (t.berth i).state = .fault ∧
         (t.berth i).reason = .lockTimeout ∧ (t.berth i).cycleComplete = (s.berth i).cycleComplete) ∧
     ((s.berth i).state = .homing → (s.berth i).timer = some (.run, ms) → (s.berth i).grant = true →
       ∃ t, exec (.homingRunEnd i) s = .next t ∧ DeskQuiet s t ∧ Touches doorBlocks s t ∧
         ((s.berth i).homingRun ≤ 1 → t = s.setBerth i { s.berth i with
           homingRun := 2, timer := some (.run, (s.berth i).settings.tClose) }) ∧
         (1 < (s.berth i).homingRun → (s.berth i).senses.lockConfirm = false →
           (t.berth i).state = .fault ∧ (t.berth i).reason = .homeNoLock) ∧
         (1 < (s.berth i).homingRun → (s.berth i).senses.lockConfirm = true → s.supply.wait = [] →
           (s.berth i).settings.tRecover ≠ 0 → (t.berth i).state = .locked ∧ (t.berth i).grant = false))) ∧
  (∀ (i : Idx4) (s : State), s.run.platformStop = true ∨ (s.berth i).timer = none →
     exec (.recoveryTimer i) s = .next s ∧ exec (.unlockTimer i) s = .next s ∧ exec (.openingEnd i) s = .next s ∧
       exec (.dwellExpiry i) s = .next s ∧ exec (.closingEnd i) s = .next s ∧ exec (.lockTimer i) s = .next s ∧
       exec (.homingRunEnd i) s = .next s)

/-- R79, R84, R86 to R91, R98: what the arrival of each sense does in the states whose rules name it, and that a sense
becoming inactive changes its level alone. -/
def Obligations.SensesActAsArrivals : Prop :=
  ∀ (i : Idx4) (s : State),
    (exec (.motionComplete i false) s = .next (s.setBerth i { s.berth i with
        senses := { (s.berth i).senses with motionComplete := false } }) ∧
      exec (.lockConfirm i false) s = .next (s.setBerth i { s.berth i with
        senses := { (s.berth i).senses with lockConfirm := false } }) ∧
      exec (.obstruction i false) s = .next (s.setBerth i { s.berth i with
        senses := { (s.berth i).senses with obstruction := false } }) ∧
      exec (.driveFaultSense i false) s = .next (s.setBerth i { s.berth i with
        senses := { (s.berth i).senses with driveFault := false } })) ∧
    ((s.berth i).senses.motionComplete = false → (s.berth i).state = .closing →
      exec (.motionComplete i true) s = .next (s.setBerth i { s.berth i with
        senses := { (s.berth i).senses with motionComplete := true }, motionSeen := true,
        closeTime := some ((s.berth i).closeTime.getD (s.berth i).motionElapsed) })) ∧
    ((s.berth i).senses.motionComplete = false → (s.berth i).state = .opening →
      exec (.motionComplete i true) s = .next (s.setBerth i { s.berth i with
        senses := { (s.berth i).senses with motionComplete := true }, motionSeen := true })) ∧
    ((s.berth i).senses.lockConfirm = false → (s.berth i).state = .locking →
      ∃ t, exec (.lockConfirm i true) s = .next t ∧ DeskQuiet s t ∧ Touches doorBlocks s t ∧ (t.berth i).state = .locked ∧
        (t.berth i).occupied = (s.berth i).occupied ∧
        (t.berth i).cycleComplete = ((s.berth i).occupied || (s.berth i).cycleComplete)) ∧
    ((s.berth i).senses.obstruction = false → (s.berth i).state = .closing →
      ∃ t, exec (.obstruction i true) s = .next t ∧ DeskQuiet s t ∧ Touches doorBlocks s t ∧ (t.berth i).state = .opening ∧
        (t.berth i).grant = (s.berth i).grant ∧ (t.berth i).reopens = min ((s.berth i).reopens + 1) 255 ∧
        (t.berth i).timer = some (.run, ((s.berth i).settings.tOpen * (s.berth i).motionElapsed +
          ((s.berth i).settings.tClose - 1)) / (s.berth i).settings.tClose) ∧
        (t.berth i).motionElapsed = 0 ∧ (t.berth i).motionSeen = false ∧
        ((s.berth i).settings.maxReopens ≤ min ((s.berth i).reopens + 1) 255 → (t.berth i).holdOpen = true)) ∧
    ((s.berth i).senses.obstruction = false → (s.berth i).state = .homing → (s.berth i).grant = true →
      ∃ t, exec (.obstruction i true) s = .next t ∧ DeskQuiet s t ∧ Touches doorBlocks s t ∧ (t.berth i).state = .fault ∧
        (t.berth i).reason = .homingObstructed) ∧
    ((s.berth i).senses.driveFault = false → (s.berth i).state ≠ .fault →
      ¬ ((s.berth i).state = .locked ∧ s.track.step.isSome = true) →
      ∃ t, exec (.driveFaultSense i true) s = .next t ∧ DeskQuiet s t ∧ Touches doorBlocks s t ∧ (t.berth i).state = .fault ∧
        (t.berth i).reason = .driveFault) ∧
    ((s.berth i).senses.driveFault = false → (s.berth i).state = .locked → s.track.step.isSome = true →
      ∃ t, exec (.driveFaultSense i true) s = .next t ∧ DeskQuiet s t ∧ LineQuiet s t ∧
        t.berths = s.berths.set i { s.berth i with
          senses := { (s.berth i).senses with driveFault := true }, faultPending := true } ∧
        Touches [.berths, .line, .desk] s t)

/-- R93 to R95, R84, R86, R89, R98: with the gap passed, a grant free and no freeze, the first entry of the wait list is
granted, and its doors begin their motion; an obstructed Homing ends in Fault, and an obstructed Close counts as a
reversal, its grant going first to the others that wait and an Auto berth below its limit asking again; with a gap of 0
the grants go on down the list; otherwise nothing is granted. That an obstructed Close's release is tested before its
berth asks again is log entry 12 (DEDUCED); that START_GAP_END brings the elapsed time up to the gap is log entry 2
(DESIGN CHOICE). -/
def Obligations.MotionSupplyGrantsTheFirstEntry : Prop :=
  (∀ s : State, (2 ≤ (grantHolders s).length ∨ s.supply.wait = [] ∨ s.run.platformStop = true ∨
      ∃ t, s.supply.sinceGrant = some t ∧ t < s.supply.gap) → supplyTest s = s) ∧
    (∀ (i : Idx4) (rest : List (Idx4 × Motion)) (s : State), (grantHolders s).length < 2 →
      s.supply.wait = (i, .opening) :: rest → s.run.platformStop = false → 0 < s.supply.gap →
      (s.supply.sinceGrant = none ∨ ∃ t, s.supply.sinceGrant = some t ∧ s.supply.gap ≤ t) →
      (supplyTest s).berths = s.berths.set i { s.berth i with
        state := .opening, grant := true, timer := some (.run, (s.berth i).settings.tOpen), motionElapsed := 0,
        motionSeen := false, closeTime := none, doorsRan := true } ∧
      (supplyTest s).supply = { s.supply with wait := rest, sinceGrant := some 0 }) ∧
    (∀ (i : Idx4) (rest : List (Idx4 × Motion)) (s : State), (grantHolders s).length < 2 →
      s.run.platformStop = false → 0 < s.supply.gap →
      (s.supply.sinceGrant = none ∨ ∃ t, s.supply.sinceGrant = some t ∧ s.supply.gap ≤ t) →
      (s.supply.wait = (i, .closing) :: rest → (s.berth i).senses.obstruction = false →
        (supplyTest s).berths = s.berths.set i { s.berth i with
          state := .closing, grant := true, timer := some (.run, (s.berth i).settings.tClose), motionElapsed := 0,
          motionSeen := false, closeTime := none } ∧
        (supplyTest s).supply = { s.supply with wait := rest, sinceGrant := some 0 }) ∧
      (s.supply.wait = (i, .homing) :: rest → (s.berth i).senses.obstruction = false →
        (supplyTest s).berths = s.berths.set i { s.berth i with
          state := .homing, grant := true, timer := some (.run, (s.berth i).settings.tClose), motionElapsed := 0,
          motionSeen := false, closeTime := none, homingRun := 1 } ∧
        (supplyTest s).supply = { s.supply with wait := rest, sinceGrant := some 0 }) ∧
      (s.supply.wait = (i, .homing) :: rest → (s.berth i).senses.obstruction = true →
        ((supplyTest s).berth i).state = .fault ∧ ((supplyTest s).berth i).reason = .homingObstructed ∧
        ((supplyTest s).berth i).grant = false ∧
        (supplyTest s).supply.wait = rest.filter fun e => !decide (e.1 = i)) ∧
      (s.supply.wait = (i, .closing) :: rest → (s.berth i).senses.obstruction = true →
        (s.berth i).state = .opened → (∀ e ∈ rest, e.1 ≠ i) →
        (supplyTest s).berth i = { s.berth i with
          reopens := min ((s.berth i).reopens + 1) 255
          holdOpen := (s.berth i).holdOpen ||
            decide ((s.berth i).settings.maxReopens ≤ min ((s.berth i).reopens + 1) 255) } ∧
        (supplyTest s).supply = { s.supply with
          sinceGrant := some 0
          wait := if (s.berth i).mode = .auto ∧ min ((s.berth i).reopens + 1) 255 < (s.berth i).settings.maxReopens then
            (rest.filter fun e => decide (e.2 = .closing)) ++ (i, .closing) ::
              (rest.filter fun e => !decide (e.2 = .closing)) else rest } ∧
        Touches doorBlocks s (supplyTest s))) ∧
    (∀ (i j : Idx4) (rest : List (Idx4 × Motion)) (s : State), s.supply.gap = 0 → s.run.platformStop = false → i ≠ j →
      (grantHolders s = [] → s.supply.wait = (i, .opening) :: (j, .opening) :: rest →
        ((supplyTest s).berth i).state = .opening ∧ ((supplyTest s).berth i).grant = true ∧
        ((supplyTest s).berth j).state = .opening ∧ ((supplyTest s).berth j).grant = true ∧
        (supplyTest s).supply = { s.supply with wait := rest, sinceGrant := some 0 }) ∧
      ((grantHolders s).length = 1 → s.supply.wait = [(i, .closing), (j, .opening)] →
        (s.berth i).state = .opened → (s.berth i).grant = false → (s.berth j).grant = false →
        (s.berth i).senses.obstruction = true →
        (s.berth i).mode = .auto → (s.berth i).reopens + 1 < (s.berth i).settings.maxReopens →
        (s.berth i).reopens < 255 →
        ((supplyTest s).berth j).state = .opening ∧ ((supplyTest s).berth j).grant = true ∧
        ((supplyTest s).berth i).state = .opened ∧ ((supplyTest s).berth i).reopens = (s.berth i).reopens + 1 ∧
        (supplyTest s).supply.wait = [(i, .closing)])) ∧
    (∀ (s : State) (v : Nat), s.supply.sinceGrant = some v → s.supply.wait = [] →
      exec .startGapEnd s = .next { s with supply := { s.supply with sinceGrant := some (max v s.supply.gap) } }) ∧
    (∀ s : State, s.supply.sinceGrant = none → exec .startGapEnd s = .next s) ∧
    (∀ (s : State) (v : Nat) (i : Idx4) (rest : List (Idx4 × Motion)), s.supply.sinceGrant = some v →
      s.supply.wait = (i, .opening) :: rest → (grantHolders s).length < 2 → s.run.platformStop = false →
      0 < s.supply.gap → ∃ t, exec .startGapEnd s = .next t ∧ (t.berth i).state = .opening ∧
        (t.berth i).grant = true ∧ t.supply = { s.supply with wait := rest, sinceGrant := some 0 } ∧
        DeskQuiet s t ∧ LineQuiet s t ∧ Touches [.berths, .supply, .line, .desk] s t) ∧
    ∀ (tag : Byte) (gap : Nat) (s : State), DeskFree s →
      (2000 < gap → Refused (.setMotion tag gap) tag (.setMotion gap) .range s) ∧
      (gap ≤ 2000 → s.supply.wait = [] → ∃ t, exec (.setMotion tag gap) s = .next t ∧
        Answered tag (.setMotion gap) (.done []) s t ∧ t.supply = { s.supply with gap := gap } ∧
        Touches [.supply, .desk] s t)

/-- R78: SetBerth replaces a berth's settings in Parked, Locked and Fault, and completes at once the cycle of a Locked
occupied berth that becomes Pass. -/
def Obligations.BerthSettingsAreTaken : Prop :=
  ∀ (tag : Byte) (i : Idx4) (role : Role) (r : BerthRequest) (s : State), DeskFree s → roleOf? r.role = some role →
    (berthInRange r = true → (s.berth i).state ≠ .parked → (s.berth i).state ≠ .locked → (s.berth i).state ≠ .fault →
      Refused (.setBerth tag (idxNumber i) r) tag (.setBerth (idxNumber i) r) .busy s) ∧
    (berthInRange r = false →
      Refused (.setBerth tag (idxNumber i) r) tag (.setBerth (idxNumber i) r) .range s) ∧
    (berthInRange r = true →
      (s.berth i).state = .parked ∨ (s.berth i).state = .locked ∨ (s.berth i).state = .fault →
      ∃ t, exec (.setBerth tag (idxNumber i) r) s = .next t ∧
        Answered tag (.setBerth (idxNumber i) r) (.done []) s t ∧
        (t.berth i).settings = berthSettings role r ∧ (t.berth i).state = (s.berth i).state ∧
        (t.berth i).mode = (s.berth i).mode ∧ (∀ j, j ≠ i → t.berth j = s.berth j) ∧
        ((s.berth i).state = .locked → (s.berth i).occupied = true → role = .pass →
          (t.berth i).cycleComplete = true ∨ (s.berth i).settings.role = .pass) ∧
        t.track = { s.track with step := t.track.step, indexCommand := t.track.indexCommand } ∧
        Touches [.track, .berths, .desk] s t)

/-- R99, R100: the commands of Manual mode. -/
def Obligations.ManualCommandsAct : Prop :=
  ∀ (tag : Byte) (i : Idx4) (s : State), DeskFree s →
    ((s.berth i).state = .locked → (s.berth i).mode = .manual → (s.berth i).timer = none → s.track.step = none →
      s.run.state ≠ .waking → ∃ t, exec (.unlock tag (idxNumber i)) s = .next t ∧
        Answered tag (.berthCommand (idxNumber i) 0 0) (.done []) s t ∧
        t.berths = s.berths.set i { s.berth i with
          state := .unlocking, timer := some (.unlock, (s.berth i).settings.tUnlock) } ∧
        Touches [.berths, .line, .desk] s t ∧ LineQuiet s t) ∧
    ((s.berth i).state = .locked → s.track.step.isSome = true →
      Refused (.unlock tag (idxNumber i)) tag (.berthCommand (idxNumber i) 0 0) .busy s) ∧
    ((s.berth i).state = .unlocked ∨ (s.berth i).state = .closed → (s.berth i).mode = .manual →
      s.supply.wait = [] → ∃ t, exec (.openDoors tag (idxNumber i)) s = .next t ∧
        Answered tag (.berthCommand (idxNumber i) 1 0) (.done []) s t ∧
        ((t.berths = s.berths ∧ t.supply = { s.supply with wait := [(i, .opening)] }) ∨
          ((t.berth i).state = .opening ∧ (t.berth i).grant = true ∧ (t.berth i).doorsRan = true ∧
            t.supply.wait = [])) ∧
        Touches [.berths, .supply, .line, .desk] s t ∧ LineQuiet s t) ∧
    ((s.berth i).state = .opened → (s.berth i).mode = .manual → s.supply.wait = [] →
      (s.berth i).senses.obstruction = false → ∃ t, exec (.closeDoors tag (idxNumber i)) s = .next t ∧
        Answered tag (.berthCommand (idxNumber i) 2 0) (.done []) s t ∧ (t.berth i).holdOpen = false ∧
        (((t.berth i).state = .opened ∧ t.supply.wait = [(i, .closing)]) ∨
          ((t.berth i).state = .closing ∧ (t.berth i).grant = true ∧ t.supply.wait = [])) ∧
        Touches [.berths, .supply, .line, .desk] s t ∧ LineQuiet s t) ∧
    ((s.berth i).state = .unlocked ∨ (s.berth i).state = .closed → (s.berth i).mode = .manual →
      (s.berth i).senses.lockConfirm = false → ∃ t, exec (.lock tag (idxNumber i)) s = .next t ∧
        Answered tag (.berthCommand (idxNumber i) 3 0) (.done []) s t ∧
        t.berths = s.berths.set i { s.berth i with
          state := .locking, timer := some (.lock, (s.berth i).settings.tLock) } ∧
        t.supply = { s.supply with wait := s.supply.wait.filter fun e => !decide (e.1 = i) } ∧
        Touches [.berths, .supply, .line, .desk] s t ∧ LineQuiet s t) ∧
    ((s.berth i).state = .parked ∨ (s.berth i).state = .homing →
      Refused (.unlock tag (idxNumber i)) tag (.berthCommand (idxNumber i) 0 0) .state s ∧
      Refused (.openDoors tag (idxNumber i)) tag (.berthCommand (idxNumber i) 1 0) .state s ∧
      Refused (.closeDoors tag (idxNumber i)) tag (.berthCommand (idxNumber i) 2 0) .state s ∧
      Refused (.lock tag (idxNumber i)) tag (.berthCommand (idxNumber i) 3 0) .state s)

/-- R85, R89, R92, R101, R102: the commands that do not need Manual mode. -/
def Obligations.AttendedCommandsAct : Prop :=
  ∀ (tag : Byte) (i : Idx4) (s : State), DeskFree s →
    ((s.berth i).state = .opened → (s.berth i).holdOpen = false →
      ∃ t, exec (.holdOpen tag (idxNumber i)) s = .next t ∧
        Answered tag (.berthCommand (idxNumber i) 4 0) (.done []) s t ∧
        t.berths = s.berths.set i { s.berth i with holdOpen := true, timer := none } ∧
        t.supply = { s.supply with wait := s.supply.wait.filter fun e => !decide (e.1 = i) } ∧
        Touches [.berths, .supply, .line, .desk] s t ∧ LineQuiet s t) ∧
    ((s.berth i).state = .opening → (s.berth i).holdOpen = false →
      ∃ t, exec (.holdOpen tag (idxNumber i)) s = .next t ∧
        Answered tag (.berthCommand (idxNumber i) 4 0) (.done []) s t ∧
        t.berths = s.berths.set i { s.berth i with holdOpen := true } ∧
        Touches [.berths, .line, .desk] s t ∧ LineQuiet s t) ∧
    ((s.berth i).state = .opened → s.supply.wait = [] → (s.berth i).senses.obstruction = false →
      ∃ t, exec (.endDwell tag (idxNumber i)) s = .next t ∧
        Answered tag (.berthCommand (idxNumber i) 5 0) (.done []) s t ∧
        Touches doorBlocks s t ∧ (t.berth i).holdOpen = false ∧
        (((t.berth i).state = .opened ∧ (t.berth i).timer = none ∧ t.supply.wait = [(i, .closing)]) ∨
          ((t.berth i).state = .closing ∧ (t.berth i).grant = true ∧ t.supply.wait = []))) ∧
    ((s.berth i).state = .closing → ∃ t, exec (.reopen tag (idxNumber i)) s = .next t ∧
        Answered tag (.berthCommand (idxNumber i) 6 0) (.done []) s t ∧ Touches doorBlocks s t ∧ (t.berth i).state = .opening ∧
        (t.berth i).grant = (s.berth i).grant ∧ (t.berth i).reopens = min ((s.berth i).reopens + 1) 255) ∧
    ((s.berth i).state = .closed → s.supply.wait = [] → ∃ t, exec (.reopen tag (idxNumber i)) s = .next t ∧
        Answered tag (.berthCommand (idxNumber i) 6 0) (.done []) s t ∧ Touches doorBlocks s t ∧
        (t.berth i).reopens = min ((s.berth i).reopens + 1) 255 ∧
        (((t.berth i).state = .closed ∧ t.supply.wait = [(i, .opening)]) ∨
          ((t.berth i).state = .opening ∧ (t.berth i).grant = true))) ∧
    ((s.berth i).state = .locked → (s.berth i).occupied = true → (s.berth i).cycleComplete = false →
      ∃ t, exec (.skipCycle tag (idxNumber i)) s = .next t ∧
        Answered tag (.berthCommand (idxNumber i) 7 0) (.done []) s t ∧
        t.berths = s.berths.set i { s.berth i with cycleComplete := true } ∧
        t.track = { s.track with step := t.track.step, indexCommand := t.track.indexCommand } ∧
        Touches [.track, .berths, .desk] s t) ∧
    ((s.berth i).state = .fault → (s.berth i).senses.driveFault = true →
      Refused (.clearFault tag (idxNumber i)) tag (.berthCommand (idxNumber i) 8 0) .permissive s) ∧
    ((s.berth i).state = .fault → (s.berth i).senses.driveFault = false → s.run.state = .parked →
      ∃ t, exec (.clearFault tag (idxNumber i)) s = .next t ∧
        Answered tag (.berthCommand (idxNumber i) 8 0) (.done []) s t ∧
        t.berths = s.berths.set i { s.berth i with state := .parked, reason := .none } ∧
        Touches [.berths, .line, .desk] s t ∧ LineQuiet s t) ∧
    ((s.berth i).state = .fault → (s.berth i).senses.driveFault = false → s.run.state ≠ .parked →
      (s.berth i).senses.obstruction = false → s.supply.wait = [] →
      ∃ t, exec (.clearFault tag (idxNumber i)) s = .next t ∧
        Answered tag (.berthCommand (idxNumber i) 8 0) (.done []) s t ∧ Touches doorBlocks s t ∧
        (t.berth i).state = .homing ∧
        (t.berth i).reason = .none) ∧
    (∀ m, (s.berth i).state = .locked → modeOf? m = some (s.berth i).mode →
      exec (.setMode tag (idxNumber i) m) s =
        .next (withReply tag (.berthCommand (idxNumber i) 9 m) (.done []) s)) ∧
    ∀ m mode, (s.berth i).state = .locked → modeOf? m = some mode → mode ≠ (s.berth i).mode →
      ∃ t, exec (.setMode tag (idxNumber i) m) s = .next t ∧
        Answered tag (.berthCommand (idxNumber i) 9 m) (.done []) s t ∧ (t.berth i).mode = mode ∧
        ((t.berth i).state = .locked ∨ (t.berth i).state = .unlocking) ∧
        Touches [.berths, .line, .desk] s t ∧ LineQuiet s t

/-! ### The roster (chapter 5) -/

/-- R111: the arrival the roster expects. -/
def Obligations.ExpectedArrivalReachesTheSummit : Prop :=
  ∀ (n metres : Nat) (before behind : List RosterRec) (r : RosterRec) (s : State),
    1 ≤ n → n ≤ 250 → s.roster.records = before ++ r :: behind → r.leg = .outbound → r.carrier.number = n →
    (∀ x ∈ before, x.leg ≠ .outbound) →
    exec (.passageFrame false n metres) s = .next { s with
      roster := { s.roster with records := before ++ { r with
        leg := .atSummit, overdue := false, position := (s.roster.lUp : Int) * 1000,
        carrier := { r.carrier with marks := removeMarks [.skipped] r.carrier.marks } } :: behind }
      line := { s.line with counts := { s.line.counts with passages := min (s.line.counts.passages + 1) 65535 } } }

/-- R112 to R114, R172: an arrival out of order raises Order and marks the Outbound records passed over; a departure
anchors the record on the inbound leg; a number the roster does not place is a stranger and moves nothing. -/
def Obligations.OtherPassagesMoveTheRecord : Prop :=
  (∀ (n metres : Nat) (before behind : List RosterRec) (r : RosterRec) (s : State), 1 ≤ n → n ≤ 250 →
    s.roster.records = before ++ r :: behind → r.carrier.number = n →
    (r.leg = .outbound → (∀ x ∈ before, x.leg = .outbound → x.carrier.number ≠ n) →
      (∃ x ∈ before, x.leg = .outbound) →
      ∃ t, exec (.passageFrame false n metres) s = .next t ∧ Raised .order s t ∧ DeskQuiet s t ∧
        t.roster.records = before.map (fun x => if x.leg = .outbound then
            { x with carrier := { x.carrier with marks := addMark .skipped x.carrier.marks } } else x) ++
          { r with leg := .atSummit, overdue := false, position := (s.roster.lUp : Int) * 1000,
                   carrier := { r.carrier with marks := removeMarks [.skipped] r.carrier.marks } } :: behind ∧
        Touches [.run, .gov, .track, .berths, .roster, .line, .desk] s t) ∧
    (r.leg = .atSummit → (∀ x ∈ before, x.leg ≠ .inbound → x.carrier.number ≠ n) →
      exec (.passageFrame true n metres) s = .next { s with
        roster := { s.roster with records := before ++ { r with
          leg := .inbound, overdue := false, anchor := s.update.t + BitVec.ofInt 32 (-((metres : Int) * 1000)),
          position := (s.roster.lUp : Int) * 1000 + (metres : Int) * 1000 } :: behind }
        line := { s.line with counts := { s.line.counts with
          passages := min (s.line.counts.passages + 1) 65535 } } })) ∧
    ∀ (n metres : Nat) (departing : Bool) (s : State),
      (n = 0 ∨ 250 < n ∨ ∀ x ∈ s.roster.records, x.carrier.number ≠ n) →
      ∃ t, exec (.passageFrame departing n metres) s = .next t ∧ t.roster = s.roster ∧ DeskQuiet s t ∧
        Touches (.counters :: raiseBlocks) s t ∧
        t.line.counts.passages = min (s.line.counts.passages + 1) 65535 ∧ t.track.buffer = s.track.buffer

/-- R120, R121: RemoveCarrier takes the first record that bears the number off the roster; SetGeometry replaces the
geometry and moves the AtSummit records to the new leg end. -/
def Obligations.RosterRequestsAct : Prop :=
  ∀ (tag : Byte) (s : State), DeskFree s →
    (∀ n before r behind, (s.run.state = .stopped ∨ s.run.state = .tripped) → 1 ≤ n → n ≤ 250 →
      s.roster.records = before ++ r :: behind → r.carrier.number = n → (∀ x ∈ before, x.carrier.number ≠ n) →
      ∃ t, exec (.removeCarrier tag n) s = .next t ∧ Answered tag (.removeCarrier n) (.done []) s t ∧
        t.roster = { s.roster with records := before ++ behind } ∧
        Touches [.roster, .line, .desk] s t ∧ LineQuiet s t) ∧
    (∀ n, s.run.state ≠ .stopped → s.run.state ≠ .tripped →
      Refused (.removeCarrier tag n) tag (.removeCarrier n) .state s) ∧
    (∀ n, (s.run.state = .stopped ∨ s.run.state = .tripped) → 1 ≤ n → n ≤ 250 →
      (∀ x ∈ s.roster.records, x.carrier.number ≠ n) →
      Refused (.removeCarrier tag n) tag (.removeCarrier n) .notFound s) ∧
    ∀ u d k, (s.run.state = .parked ∨ s.run.state = .stopped) → 500 ≤ u → u ≤ 9000 → 500 ≤ d → d ≤ 9000 →
      10 ≤ k → k ≤ 500 → ∃ t, exec (.setGeometry tag u d k) s = .next t ∧
        Answered tag (.setGeometry u d k) (.done []) s t ∧
        t.roster = ⟨s.roster.records.map (fun x =>
          if x.leg = .atSummit then { x with position := (u : Int) * 1000 } else x), u, d, k⟩ ∧
        Touches [.roster, .desk] s t

/-- R107, R109, R110, R155: at every window end each record's position follows T from its anchor; an excess over the end
of its leg, outbound or inbound, that goes beyond the slack sets Overdue, and one beyond twice the slack raises
Missing. -/
def Obligations.PositionsFollowTheRope : Prop :=
  ∀ s : State, ∃ t, exec .windowEnd s = .next t ∧
    (∀ x ∈ t.roster.records,
      (x.leg = .outbound → x.position = (t.gov.travel - x.anchor).toInt) ∧
      (x.leg = .atSummit → x.position = (t.roster.lUp : Int) * 1000) ∧
      (x.leg = .inbound → x.position = (t.roster.lUp : Int) * 1000 + (t.gov.travel - x.anchor).toInt) ∧
      (x.leg = .outbound → (t.roster.lUp : Int) * 1000 + (t.roster.slack : Int) * 1000 < x.position →
        x.overdue = true) ∧
      (x.leg = .outbound → (t.roster.lUp : Int) * 1000 + 2 * (t.roster.slack : Int) * 1000 < x.position →
        Source.missing ∈ t.run.demands) ∧
      (x.leg = .inbound → ((t.roster.lUp : Int) + (t.roster.lDown : Int)) * 1000 + (t.roster.slack : Int) * 1000 <
          x.position → x.overdue = true) ∧
      (x.leg = .inbound → ((t.roster.lUp : Int) + (t.roster.lDown : Int)) * 1000 +
          2 * (t.roster.slack : Int) * 1000 < x.position → Source.missing ∈ t.run.demands)) ∧
    t.roster.lUp = s.roster.lUp ∧ t.roster.lDown = s.roster.lDown ∧ t.roster.slack = s.roster.slack

/-! ### The tower string (chapter 6) -/

/-- R126, R128, R130: how a transaction starts, is retried and ends unread. R128: a round polls the used slots in slot
order, then in an extra pass those whose towers were non-Normal when the main pass ended, and the next round follows.
R130: in Parked the next used slot after the one last polled, round from the last to the first; an expiry with a
transaction in flight starts none. That the next slot and the pass are decided at TRANSACTION_START is log entry 14
(DESIGN CHOICE). -/
def Obligations.TransactionsRun : Prop :=
  ∀ (slot number : Nat) (s : State),
    (∀ retry, s.scanner.transaction = some ⟨slot, retry, number, none⟩ → exec .pollSent s = .next { s with
      scanner := { s.scanner with transaction := some ⟨slot, retry, number, some 8⟩ } }) ∧
    (∀ ms, s.scanner.transaction = some ⟨slot, false, number, some ms⟩ → exec .replyTimer s = .next { s with
      scanner := { s.scanner with
        transaction := some ⟨slot, true, s.scanner.pollNumber, none⟩
        pollNumber := (s.scanner.pollNumber + 1) % 256, lastPolled := slot, pauseTimer := none } }) ∧
    (∀ ms x, s.scanner.transaction = some ⟨slot, true, number, some ms⟩ → slotAt slot s = some x →
      ∃ t y, exec .replyTimer s = .next t ∧ t.scanner.transaction = none ∧ slotAt slot t = some y ∧
        y.unread = min (x.unread + 1) 65535 ∧ y.codes = x.codes ∧ y.latches = x.latches ∧ y.age = x.age ∧
        y.deadline = x.deadline ∧ Touches [.scanner] s t) ∧
    (s.run.state ≠ .parked → s.scanner.transaction = none → (∃ x ∈ s.scanner.slots, x.used = true) →
      ∃ t n x, exec .transactionStart s = .next t ∧
        t.scanner.transaction = some ⟨n, false, s.scanner.pollNumber, none⟩ ∧ slotAt n s = some x ∧
        x.used = true ∧ t.scanner.pollNumber = (s.scanner.pollNumber + 1) % 256 ∧ Touches [.scanner] s t) ∧
    (s.run.state = .parked → s.scanner.transaction = none → (∃ x ∈ s.scanner.slots, x.used = true) →
      ∃ t n x, exec .parkedPollTimer s = .next t ∧
        t.scanner.transaction = some ⟨n, false, s.scanner.pollNumber, none⟩ ∧ slotAt n s = some x ∧
        x.used = true ∧ t.scanner.parkedTimer = some 250 ∧ t.scanner.slots = s.scanner.slots ∧
        Touches [.scanner] s t) ∧
    (s.run.state = .parked → exec .transactionStart s = .next s) ∧
    (s.run.state ≠ .parked → exec .parkedPollTimer s = .next s) ∧
    (∀ x, s.run.state ≠ .parked → s.scanner.transaction = none → slotAt slot s = some x →
      (x.inPass s.scanner.pass = true → s.scanner.passSlot < slot →
        (∀ n y, n < slot → s.scanner.passSlot < n → slotAt n s = some y → y.inPass s.scanner.pass = false) →
        ∃ t, exec .transactionStart s = .next t ∧ t.scanner.slots = s.scanner.slots ∧
          t.scanner.transaction = some ⟨slot, false, s.scanner.pollNumber, none⟩ ∧
          t.scanner.pass = s.scanner.pass ∧ t.scanner.passSlot = slot) ∧
      (s.scanner.pass = .main →
        (∀ n y, s.scanner.passSlot < n → slotAt n s = some y → y.used = false) →
        x.used = true → x.nonNormal = true →
        (∀ n y, n < slot → slotAt n s = some y → y.used = true → y.nonNormal = false) →
        ∃ t, exec .transactionStart s = .next t ∧
          t.scanner.slots = s.scanner.slots.map (fun y => { y with extraDue := y.used && y.nonNormal }) ∧
          t.scanner.transaction = some ⟨slot, false, s.scanner.pollNumber, none⟩ ∧
          t.scanner.pass = .extra ∧ t.scanner.passSlot = slot) ∧
      ((∀ n y, s.scanner.passSlot < n → slotAt n s = some y → y.inPass s.scanner.pass = false) →
        (s.scanner.pass = .main → ∀ n y, slotAt n s = some y → y.used = true → y.nonNormal = false) →
        x.used = true → (∀ n y, n < slot → slotAt n s = some y → y.used = false) →
        ∃ t, exec .transactionStart s = .next t ∧
          t.scanner.transaction = some ⟨slot, false, s.scanner.pollNumber, none⟩ ∧
          t.scanner.pass = .main ∧ t.scanner.passSlot = slot)) ∧
    (∀ x, s.run.state = .parked → s.scanner.transaction = none → slotAt slot s = some x → x.used = true →
      ((s.scanner.lastPolled < slot ∧
          ∀ n y, n < slot → s.scanner.lastPolled < n → slotAt n s = some y → y.used = false) ∨
        ((∀ n y, s.scanner.lastPolled < n → slotAt n s = some y → y.used = false) ∧
          ∀ n y, n < slot → slotAt n s = some y → y.used = false)) →
      ∃ t, exec .parkedPollTimer s = .next t ∧
        t.scanner.transaction = some ⟨slot, false, s.scanner.pollNumber, none⟩ ∧ t.scanner.lastPolled = slot) ∧
    (s.run.state = .parked → s.scanner.transaction.isSome = true →
      exec .parkedPollTimer s = .next { s with scanner := { s.scanner with parkedTimer := some 250 } })

/-- R126, R127, R129, R132: a reply that is accepted gives its codes, latches what is Out or Broken, and ends the
transaction; one that comes with no transaction in flight, or with a poll number other than that of the attempt in
flight, is late and leaves the transaction as it is; one that does not parse, or that carries the attempt's number and
another node address, is discarded. R134, R135: a
tower whose age passes the deadline becomes Stale with the Tower ceiling; one that passes twice the deadline becomes
Silent and raises TowerSilent. In Parked neither happens. TOWER_STALE and TOWER_SILENT act whatever the age, and bring
it past the deadline (log entry 2); bytes that come while a poll frame is being sent are not received (section 11.4). -/
def Obligations.TowerEventsAreTaken : Prop :=
  (∀ (frame : List Byte) (s : State),
     (parseReply frame = none → exec (.towerReply frame) s = .next s) ∧
     (∀ tr, s.scanner.transaction = some tr → tr.timer = none → exec (.towerReply frame) s = .next s) ∧
     (∀ f, parseReply frame = some f → s.scanner.transaction = none →
       ∃ t, exec (.towerReply frame) s = .next t ∧
         t.scanner = { s.scanner with late := min (s.scanner.late + 1) 65535 } ∧ DeskQuiet s t ∧
         Touches towerBlocks s t) ∧
     (∀ f tr ms, parseReply frame = some f → s.scanner.transaction = some tr → tr.timer = some ms →
       f.number ≠ tr.number → ∃ t, exec (.towerReply frame) s = .next t ∧
         t.scanner = { s.scanner with late := min (s.scanner.late + 1) 65535 } ∧
         t.scanner.transaction = some tr ∧ DeskQuiet s t ∧ Touches towerBlocks s t) ∧
     (∀ f x tr ms, parseReply frame = some f → s.scanner.transaction = some tr → tr.timer = some ms →
       f.number = tr.number → slotAt tr.slot s = some x → x.address ≠ some f.address →
       exec (.towerReply frame) s = .next s) ∧
     ∀ f x slot retry ms, parseReply frame = some f → s.scanner.transaction = some ⟨slot, retry, f.number, some ms⟩ →
       slotAt slot s = some x → x.address = some f.address →
       ∃ t y, exec (.towerReply frame) s = .next t ∧ slotAt slot t = some y ∧ t.scanner.transaction = none ∧
         y.age = 0 ∧ y.deadline = .within ∧ y.address = x.address ∧ DeskQuiet s t ∧ Touches towerBlocks s t ∧
         (∀ i, x.enables.get i = false → y.codes.get i = .disabled) ∧
         (∀ i, x.enables.get i = true → y.codes.get i = replyCode (f.codes.get i)) ∧
         (∀ i, y.codes.get i = .out → y.latches.get i = .out) ∧
         (∀ i, y.codes.get i = .broken → y.latches.get i = .broken) ∧
         (∀ i, y.codes.get i ≠ .out → y.codes.get i ≠ .broken → y.latches.get i = x.latches.get i) ∧
         (∀ i, x.latches.get i = .clear → y.codes.get i = .out ∨ y.codes.get i = .broken →
           Source.towerOut ∈ t.run.demands)) ∧
  (∀ (slot : Nat) (x : Slot) (s : State), slotAt slot s = some x → x.used = true →
     (s.run.state ≠ .parked → x.deadline = .within → ∃ t y, exec (.towerStale slot) s = .next t ∧
       slotAt slot t = some y ∧ y.deadline = .stale ∧ y.age = max x.age (s.scanner.deadline + 1) ∧
       y.codes = x.codes ∧ y.latches = x.latches ∧ t.gov.towerCeiling = true ∧ DeskQuiet s t ∧
       Touches towerBlocks s t) ∧
     (s.run.state ≠ .parked → x.deadline = .stale → ∃ t y, exec (.towerSilent slot) s = .next t ∧
       slotAt slot t = some y ∧ y.deadline = .silent ∧ t.gov.towerCeiling = true ∧ Raised .towerSilent s t ∧
       DeskQuiet s t ∧ Touches towerBlocks s t) ∧
     (s.run.state = .parked → exec (.towerStale slot) s = .next s ∧ exec (.towerSilent slot) s = .next s))

/-- R125, R136: SetTower replaces a slot with its runtime state set afresh; a transaction in flight to the slot ends
without its retry and outside Parked the schedule moves on (R128): the pass goes on where it holds a further slot, and
the end of a main pass sets the extra due of the other slots afresh. Nothing else of the scanner changes. That the
unread count is 0 also after such an end is log entry 14 (DESIGN CHOICE). SetScan replaces the deadline and, outside
Parked, brings every tower to the state its age calls for. R133: AckTower, its four tests in their order. -/
def Obligations.ScannerRequestsAct : Prop :=
  (∀ (tag : Byte) (s : State), DeskFree s →
     (∀ slot address coordinate enables x, slotAt slot s = some x → address ≤ 63 → coordinate ≤ 18000 →
       (s.run.state = .parked ∨ s.run.state = .stopped ∨ s.run.state = .tripped) →
       (address ≠ 0 → ∀ n y, n ≠ slot → slotAt n s = some y → y.address ≠ some address) → x.latched = false →
       ∃ t y, exec (.setTower tag slot address coordinate enables) s = .next t ∧
         Answered tag (.setTower slot address coordinate enables) (.done []) s t ∧ slotAt slot t = some y ∧
         y.address = (if address = 0 then none else some address) ∧ y.coord = coordinate ∧
         (∀ i, y.codes.get i = if y.enables.get i then .unknown else .disabled) ∧
         y.latches = ⟨.clear, .clear, .clear, .clear⟩ ∧ y.age = 0 ∧ y.deadline = .within ∧ y.heard = false ∧
         y.unread = 0 ∧ y.extraDue = false ∧ (∀ i, y.enables.get i = enables.testBit (idxNumber i - 1)) ∧
         ((s.run.state = .parked ∨ ∀ tr, s.scanner.transaction = some tr → tr.slot ≠ slot) →
           ∀ n, n ≠ slot → slotAt n t = slotAt n s) ∧
         ((∀ tr, s.scanner.transaction = some tr → tr.slot ≠ slot) →
           t.scanner = { s.scanner with slots := t.scanner.slots }) ∧
         (∀ tr, s.scanner.transaction = some tr → tr.slot = slot →
           t.scanner = { s.scanner with
             slots := t.scanner.slots, transaction := none, pass := t.scanner.pass, passSlot := t.scanner.passSlot,
             pauseTimer := if s.run.state = .parked then s.scanner.pauseTimer else some 1 } ∧
           ((∀ n, n ≠ slot → slotAt n t = slotAt n s) ∨
             ∀ n x, n ≠ slot → slotAt n s = some x →
               slotAt n t = some { x with extraDue := x.used && x.nonNormal }) ∧
           (s.run.state ≠ .parked → (∃ n x, n ≠ slot ∧ s.scanner.passSlot < n ∧ slotAt n s = some x ∧
               x.inPass s.scanner.pass = true) →
             t.scanner.pass = s.scanner.pass ∧ t.scanner.passSlot = s.scanner.passSlot ∧
               ∀ n, n ≠ slot → slotAt n t = slotAt n s) ∧
           (s.run.state ≠ .parked → s.scanner.pass = .main → (address = 0 ∨ slot ≤ s.scanner.passSlot) →
             (∀ n x, n ≠ slot → s.scanner.passSlot < n → slotAt n s = some x → x.used = false) →
             ∀ n x, n ≠ slot → slotAt n s = some x →
               slotAt n t = some { x with extraDue := x.used && x.nonNormal })) ∧
         Touches [.gov, .scanner, .line, .desk] s t ∧ LineQuiet s t) ∧
     (∀ d, d < 200 ∨ 2000 < d → Refused (.setScan tag d) tag (.setScan d) .range s) ∧
     (∀ d, 200 ≤ d → d ≤ 2000 → s.run.state = .parked → ∃ t, exec (.setScan tag d) s = .next t ∧
       Answered tag (.setScan d) (.done []) s t ∧ t.scanner = { s.scanner with deadline := d } ∧
       Touches [.scanner, .desk] s t) ∧
     ∀ d, 200 ≤ d → d ≤ 2000 → s.run.state ≠ .parked → s.scanner.slots.length = 24 →
       ∃ t, exec (.setScan tag d) s = .next t ∧ Answered tag (.setScan d) (.done []) s t ∧
         t.scanner.deadline = d ∧ t.scanner.slots.length = 24 ∧ Touches towerBlocks s t ∧
         ∀ n x, slotAt n s = some x → x.used = true → slotAt n t = some { x with
           deadline := if 2 * d < x.age then .silent else if d < x.age then .stale else .within }) ∧
  (∀ (tag : Byte) (slot point : Nat) (s : State), DeskFree s →
     (slotAt slot s = none ∨ 4 < point → Refused (.ackTower tag slot point) tag (.ackTower slot point) .range s) ∧
     ∀ x, slotAt slot s = some x → point ≤ 4 →
       (x.used = false → Refused (.ackTower tag slot point) tag (.ackTower slot point) .notFound s) ∧
       (x.used = true → (∃ i, (point = 0 ∨ idxNumber i = point) ∧ x.latches.get i ≠ .clear ∧
           x.codes.get i ≠ .normal) →
         Refused (.ackTower tag slot point) tag (.ackTower slot point) .permissive s) ∧
       (x.used = true → (∀ i, point = 0 ∨ idxNumber i = point → x.latches.get i = .clear ∨
           x.codes.get i = .normal) →
         ∃ t y, exec (.ackTower tag slot point) s = .next t ∧ Answered tag (.ackTower slot point) (.done []) s t ∧
           slotAt slot t = some y ∧ y = { x with latches := y.latches } ∧
           (∀ i, y.latches.get i = if point = 0 ∨ idxNumber i = point then .clear else x.latches.get i) ∧
           (∀ n, n ≠ slot → slotAt n t = slotAt n s) ∧
           Touches [.scanner, .line, .desk] s t ∧ LineQuiet s t))

/-! ### Event counters and position watches (chapter 7) -/

/-- R142: an offered event counts in a counter under six conditions; when it counts the value decreases by one, and a
value that would reach 0 expires instead (R143); an event that fails any condition leaves the counter as it was. -/
def Obligations.CountingConditions : Prop :=
  ∀ (i : Idx4) (ev : CounterEvent) (s : State),
    ((s.counter i).event = ev.code ∧ (s.counter i).event ≠ 0 ∧ s.run.state ∈ (s.counter i).mask ∧
        (∀ n isMarked, ev.carrier = some (n, isMarked) →
          ((s.counter i).qualifier = .marked → isMarked = true) ∧
          ((s.counter i).qualifier = .unmarked → isMarked = false)) ∧
        (ev.code = 4 → ev.value < (s.counter i).threshold) ∧ (ev.code = 6 → (s.counter i).threshold < ev.value) ∧
        (s.counter i).frozen = false ∧ ((s.counter i).chained = true → (s.counter .i1).alarm = true) →
      (1 < (s.counter i).value →
        counterTake i ev s = s.setCounter i { s.counter i with value := (s.counter i).value - 1 }) ∧
      ((s.counter i).value = 1 → ((counterTake i ev s).counter i).alarm = true ∧
        ((counterTake i ev s).counter i).expiries = min ((s.counter i).expiries + 1) 65535)) ∧
    (¬ ((s.counter i).event = ev.code ∧ (s.counter i).event ≠ 0 ∧ s.run.state ∈ (s.counter i).mask ∧
        (∀ n isMarked, ev.carrier = some (n, isMarked) →
          ((s.counter i).qualifier = .marked → isMarked = true) ∧
          ((s.counter i).qualifier = .unmarked → isMarked = false)) ∧
        (ev.code = 4 → ev.value < (s.counter i).threshold) ∧ (ev.code = 6 → (s.counter i).threshold < ev.value) ∧
        (s.counter i).frozen = false ∧ ((s.counter i).chained = true → (s.counter .i1).alarm = true)) →
      counterTake i ev s = s)

/-- R143: what an expiry leaves in its counter, and what its action does; COUNTER_EXPIRY as a command that carries the
counted event is log entry 6 (DEDUCED). R140, R144: a window end gives the counters T and v, and reloads each counter
whose Alarm is clear when T passes forward into another multiple of its window; shown for a counter that does not count
the events a window end can offer. -/
def Obligations.CounterExpiryActs : Prop :=
  (∀ (i : Idx4) (ev : CounterEvent) (s : State), (s.counter i).event = ev.code → (s.counter i).event ≠ 0 →
    s.run.state ∈ (s.counter i).mask → (s.counter i).qualifier = .all → ev.code ≠ 4 → ev.code ≠ 6 →
    (s.counter i).frozen = false → (s.counter i).chained = false → (s.counter i).value = 1 →
    ∃ t, exec (.counterExpiry i ev) s = .next t ∧ DeskQuiet s t ∧
      t.counters = (s.setCounter i { s.counter i with
        sample := if (s.counter i).alarm then (s.counter i).sample else some {
          code := ev.code, carrier := ev.carrier.map Prod.fst, slot := ev.slot, point := ev.point,
          t := s.counters.heldT, run := s.run.state, v := s.counters.heldV },
        alarm := true, expiries := min ((s.counter i).expiries + 1) 65535,
        value := if (s.counter i).freeze then 0 else (s.counter i).preset,
        frozen := (s.counter i).freeze }).counters ∧
      ((s.counter i).action = .report → t.run = s.run ∧ t.gov = s.gov) ∧
      ((s.counter i).action = .slow → t.run = s.run ∧ t.gov = { s.gov with counterCeiling := true }) ∧
      ((s.counter i).action = .stop → Raised .counter s t) ∧
      Touches [.run, .gov, .track, .berths, .counters, .line, .desk] s t) ∧
  (∀ (i : Idx4) (s : State), (s.counter i).event ∉ [1, 13, 14, 15] → ∃ t, exec .windowEnd s = .next t ∧
    t.counters.heldT = t.gov.travel ∧ t.counters.heldV = t.gov.v ∧
    t.counter i = (if (s.counter i).window ≠ 0 ∧ (s.counter i).alarm = false ∧ 0 < t.update.d ∧
        s.gov.travel.toNat / ((s.counter i).window * 1000000) ≠
          t.gov.travel.toNat / ((s.counter i).window * 1000000)
      then { s.counter i with value := (s.counter i).preset } else s.counter i))

/-- R146: ArmCounter reloads the named counters and keeps their samples; a number above 4 is refused. -/
def Obligations.ArmCounterReloads : Prop :=
  ∀ (tag : Byte) (n : Nat) (s : State), DeskFree s →
    (4 < n → Refused (.armCounter tag n) tag (.armCounter n) .range s) ∧
    (n ≤ 4 → ∃ t, exec (.armCounter tag n) s = .next t ∧ Answered tag (.armCounter n) (.done []) s t ∧
      (∀ i, t.counter i = if n = 0 ∨ idxNumber i = n then
        { s.counter i with value := (s.counter i).preset, alarm := false, frozen := false, expiries := 0 }
        else s.counter i) ∧
      t.gov = { s.gov with counterCeiling := t.gov.counterCeiling } ∧
      (t.gov.counterCeiling = true ↔ ∃ i, (t.counter i).action = .slow ∧ (t.counter i).alarm = true) ∧
      Touches [.gov, .counters, .line, .desk] s t ∧ LineQuiet s t)

/-- R147, R150, R153: SetCounter replaces a counter's setup and arms it without a sample; SetWatch replaces a watch's
setup and keeps its hit flag; ClearHits clears the hit flags named. -/
def Obligations.CounterAndWatchSettingsAreTaken : Prop :=
  ∀ (tag : Byte) (i : Idx4) (s : State), DeskFree s →
    (∀ r q a, qualifierOf? r.qualifier = some q → counterActionOf? r.action = some a → counterInRange i r = true →
      ∃ t, exec (.setCounter tag (idxNumber i) r) s = .next t ∧
        Answered tag (.setCounter (idxNumber i) r) (.done []) s t ∧
        (t.counter i).event = r.event ∧ (t.counter i).preset = r.preset ∧ (t.counter i).value = r.preset ∧
        (t.counter i).mask = maskStates r.mask ∧ (t.counter i).qualifier = q ∧ (t.counter i).action = a ∧ (t.counter i).freeze = r.freeze ∧
        (t.counter i).threshold = (if r.event = 4 ∨ r.event = 6 then r.threshold else 0) ∧
        (t.counter i).window = r.window ∧ (t.counter i).chained = r.chained ∧ (t.counter i).alarm = false ∧
        (t.counter i).frozen = false ∧ (t.counter i).expiries = 0 ∧ (t.counter i).sample = none ∧
        (∀ j, j ≠ i → t.counter j = s.counter j) ∧ Touches [.gov, .counters, .line, .desk] s t ∧ LineQuiet s t) ∧
    (∀ r k a, watchKindOf? r.kind = some k → watchActionOf? r.action = some a → watchInRange r = true →
      ∃ t, exec (.setWatch tag (idxNumber i) r) s = .next t ∧
        Answered tag (.setWatch (idxNumber i) r) (.done []) s t ∧
        t.watches.units.get i = { base := r.base, size := r.size, kind := k, action := a, globalOn := r.globalOn,
                                  localOn := r.localOn, hit := (s.watches.units.get i).hit } ∧
        (∀ j, j ≠ i → t.watches.units.get j = s.watches.units.get j) ∧
        Touches [.gov, .roster, .watches, .line, .desk] s t ∧ LineQuiet s t) ∧
    ((∃ t, exec (.clearHits tag (idxNumber i)) s = .next t ∧
        Answered tag (.clearHits (idxNumber i)) (.done []) s t ∧
        t.watches.units = s.watches.units.set i { s.watches.units.get i with hit := false } ∧
        Touches [.watches, .desk] s t) ∧
      ∃ t, exec (.clearHits tag 0) s = .next t ∧ Answered tag (.clearHits 0) (.done []) s t ∧
        (∀ j, t.watches.units.get j = { s.watches.units.get j with hit := false }) ∧
        Touches [.watches, .desk] s t)

/-- R151 to R155: what a watch matches at a travel update and at a tower event; what an occasion does with an enabled
match, and that it does nothing without one; the hit flags, the Watch demand and the exemption of a Stop match; and what
a window end leaves of exemptions and of the Watch ceiling. -/
def Obligations.PositionWatchesActOnOccasions : Prop :=
  (∀ (i : Idx4) (w : Watch) (r : RosterRec), (carrierMatch? i w r).isSome = true ↔
    w.kind ≠ .tower ∧ ((w.base - w.base % w.size : Nat) : Int) ≤ r.position / 1000 ∧
      r.position / 1000 < ((w.base - w.base % w.size : Nat) : Int) + w.size ∧
      (∀ c, r.prevCoord = some c → ¬ (((w.base - w.base % w.size : Nat) : Int) ≤ c ∧
        c < ((w.base - w.base % w.size : Nat) : Int) + w.size)) ∧ i ∉ r.exempt) ∧
  (∀ (e : TowerEvent) (m : WatchMatch) (s : State), m ∈ towerMatches e s ↔
    (s.watches.units.get m.watch).kind ≠ .carrier ∧ (s.watches.units.get m.watch).inside e.coord = true ∧
      m = { watch := m.watch, carrier := none, marked := false, tower := some e, coord := e.coord,
            enabled := (s.watches.units.get m.watch).enabled, raised := false }) ∧
  (∀ (ms : List WatchMatch) (s : State),
    ((∀ m ∈ ms, m.enabled = false) → occasion ms s = s) ∧
    ((∃ m ∈ ms, m.enabled = true) →
      (∀ i, (occasion ms s).watches.units.get i = { s.watches.units.get i with
        hit := (s.watches.units.get i).hit || (ms.any fun m => decide (m.watch = i)) }) ∧
      (occasion ms s).watches.given = s.watches.given ∧
      ((∃ m ∈ ms, m.raised = true) → Source.watch ∈ (occasion ms s).run.demands) ∧
      ((∀ m ∈ ms, m.raised = false) →
        (Source.watch ∈ (occasion ms s).run.demands ↔ Source.watch ∈ s.run.demands)) ∧
      (occasion ms s).roster = { s.roster with records := s.roster.records.map fun r =>
        if (ms.any fun m => m.raised && decide (m.carrier = some r.carrier.number)) then
          { r with exempt := Idx4.all.filter fun i => decide (i ∈ r.exempt) ||
            (ms.any fun m => m.raised && decide (m.watch = i) && decide (m.carrier = some r.carrier.number)) }
        else r } ∧
      ((∀ i, (s.counter i).event ≠ 14) → (occasion ms s).counters = s.counters ∧
        ((∀ m ∈ ms, m.raised = false) → s.desk.urgent.length + s.desk.others.length < 32 →
          (occasion ms s).run = s.run ∧ (occasion ms s).desk.others = s.desk.others ++
            [.watch ((occasion ms s).watches.units.map fun w => w.hit) ms])) ∧
      DeskQuiet s (occasion ms s) ∧
      Touches (.watches :: .roster :: .counters :: raiseBlocks) s (occasion ms s))) ∧
  (∀ s : State, ∃ t, exec .windowEnd s = .next t ∧
    (∀ x ∈ t.roster.records, ∀ i ∈ x.exempt, x.position / 1000 <
      ((t.watches.units.get i).start : Int) + (t.watches.units.get i).size) ∧
    t.watches.given = t.roster.records.map (fun x => ⟨x.carrier.number, x.position / 1000, x.exempt⟩) ∧
    (t.gov.watchCeiling = true ↔ ∃ i, (t.watches.units.get i).enabled = true ∧
      (t.watches.units.get i).action = .slow ∧ ∃ x ∈ t.roster.records,
        (t.watches.units.get i).inside (x.position / 1000) = true ∧ i ∉ x.exempt) ∧
    (∀ i, (t.watches.units.get i).globalOn = (s.watches.units.get i).globalOn ∧
      (t.watches.units.get i).localOn = (s.watches.units.get i).localOn) ∧
    (∀ i, (t.watches.units.get i).enabled = true → (t.watches.units.get i).action = .stop →
      (t.watches.units.get i).kind ≠ .tower → ∀ x ∈ t.roster.records,
        (t.watches.units.get i).inside (x.position / 1000) = true →
        (∀ c, x.prevCoord = some c → (t.watches.units.get i).inside c = false) → i ∈ x.exempt ∧
        ((∀ y ∈ s.roster.records, i ∉ y.exempt) →
          Source.watch ∈ t.run.demands ∧ (t.watches.units.get i).hit = true)))

/-! ### The summit line (chapter 8) -/

/-- R158 to R160: the receiver's states at flags, at aborts, at the flag timer and at other bits; a flag after the
bits of a whole body has the effect of the frame that the body is. R157, R158: the bits of a body as the pair carries
them, zeros inserted, received between flags, accumulate to the body's own bits, whatever pieces they come in. R159:
each of the three causes a damaged frame is discarded for has its count. -/
def Obligations.FramesComeThroughTheReceiver : Prop :=
  (∀ s : State,
     (∃ t, exec .flagReceived s = .next t ∧ t.line.receiver = .idle ∧ t.line.flagTimer = 20 ∧ t.line.rxBits = []) ∧
     (∀ idle, idle = { s with line := { s.line with receiver := .idle, rxBits := [], rxOnes := 0, flagTimer := 20 } } →
       (s.line.receiver = .idle ∨ s.line.receiver = .discarding → exec .flagReceived s = .next idle) ∧
       (s.line.receiver = .hunting → ∃ t, exec .flagReceived s = .next t ∧ DeskQuiet s t ∧ Touches [.line, .desk] s t) ∧
       (s.line.receiver = .receiving → s.line.rxBits.length % 8 ≠ 0 →
         exec .flagReceived s = exec (.frameError .length) idle)) ∧
     (∀ body, s.line.receiver = .receiving → s.line.rxBits = body.flatMap byteBits →
       ∀ idle, idle = { s with line := { s.line with receiver := .idle, rxBits := [], rxOnes := 0, flagTimer := 20 } } →
       (∀ e, parseBody body = .bad e → exec .flagReceived s = exec (.frameError e) idle) ∧
       (parseBody body = .elsewhere → exec .flagReceived s = .next idle) ∧
       (∀ b, parseBody body = .beat b → exec .flagReceived s = exec (.summitBeat b) idle) ∧
       (∀ dep n m, parseBody body = .passage dep n m → exec .flagReceived s = exec (.passageFrame dep n m) idle) ∧
       (∀ sig id, parseBody body = .callSignal sig id → exec .flagReceived s = exec (.callSignal sig id) idle) ∧
       (∀ id sq block, parseBody body = .voice id sq block →
         exec .flagReceived s = exec (.voiceFrame id sq block) idle) ∧
       ∀ text, parseBody body = .notice text → exec .flagReceived s = exec (.noticeFrame text) idle) ∧
     (∃ t, exec .flagTimer s = .next t ∧ t.line.receiver = .hunting ∧ t.line.rxBits = [] ∧ DeskQuiet s t ∧
       Touches [.line, .desk] s t) ∧
     (s.line.receiver = .receiving → 8 ≤ s.line.rxBits.length → ∃ t, exec .abortReceived s = .next t ∧
       t.line = { s.line with
         receiver := .discarding, rxBits := [], rxOnes := 0,
         counts := { s.line.counts with aborts := min (s.line.counts.aborts + 1) 65535 } } ∧ Touches [.line] s t) ∧
     (s.line.receiver = .receiving → s.line.rxBits.length < 8 → ∃ t, exec .abortReceived s = .next t ∧
       t.line = { s.line with receiver := .discarding, rxBits := [], rxOnes := 0 } ∧ Touches [.line] s t) ∧
     (s.line.receiver = .hunting ∨ s.line.receiver = .discarding →
       exec .abortReceived s = .next s ∧ ∀ bits, exec (.bodyBitsReceived bits) s = .next s) ∧
     (∀ bits acc ones, s.line.receiver = .idle ∨ s.line.receiver = .receiving → bits ≠ [] →
       accumulate bits s.line.rxBits s.line.rxOnes = some (acc, ones) →
       ∃ t, exec (.bodyBitsReceived bits) s = .next t ∧
         t.line = { s.line with receiver := .receiving, rxBits := acc, rxOnes := ones } ∧ Touches [.line] s t) ∧
     (∀ bits, s.line.receiver = .idle ∨ s.line.receiver = .receiving → bits ≠ [] →
       accumulate bits s.line.rxBits s.line.rxOnes = none →
       ∃ t, exec (.bodyBitsReceived bits) s = .next t ∧
         t.line = { s.line with
           receiver := .discarding, rxBits := [], rxOnes := 0,
           counts := { s.line.counts with lengthErrors := min (s.line.counts.lengthErrors + 1) 65535 } } ∧
         Touches [.line] s t)) ∧
  (∀ body : List Byte, body.length ≤ 72 →
     (∃ ones, accumulate (wireBits body) [] 0 = some (body.flatMap byteBits, ones)) ∧
     noSixOnes 0 (wireBits body) = true ∧
     ∀ (front back : List Bool) (acc : List Bool) (ones : Nat), wireBits body = front ++ back →
       accumulate front [] 0 = some (acc, ones) → accumulate back acc ones = accumulate (wireBits body) [] 0) ∧
  (∀ s : State,
     exec (.frameError .length) s = .next { s with line := { s.line with counts := { s.line.counts with
       lengthErrors := min (s.line.counts.lengthErrors + 1) 65535 } } } ∧
     exec (.frameError .format) s = .next { s with line := { s.line with counts := { s.line.counts with
       formatErrors := min (s.line.counts.formatErrors + 1) 65535 } } } ∧
     ∃ t, exec (.frameError .fcs) s = .next t ∧
       t.line.counts.fcsErrors = min (s.line.counts.fcsErrors + 1) 65535 ∧ DeskQuiet s t ∧
       Touches [.run, .gov, .track, .berths, .counters, .line, .desk] s t)

/-- R167 to R170, R196: a valid summit beat restarts supervision, withdraws the Line ceiling, raises the demand of its
stop class and keeps its fields, clamped; the beats a number gap has lost are counted and offered as events 11. R39,
R42: its wind raises the band to the highest whose entry it reaches, raising Wind in a stop band, or runs the hold timer
below the present band's entry less H. R40, R168: each expiry of the supervision timer counts a miss; the first
pauses the wind hold timer, the second asserts the Line ceiling, the fourth raises LineLost. -/
def Obligations.BeatsAndTheirAbsenceAct : Prop :=
  (∀ (b : BeatFields) (s : State), ∃ t, exec (.summitBeat b) s = .next t ∧
     t.line.heard = true ∧ t.line.lastBeat = some b.number ∧ t.line.miss = 0 ∧ t.line.supervision = some 150 ∧
     t.gov.lineCeiling = false ∧ t.line.counts.beats = min (s.line.counts.beats + 1) 65535 ∧
     t.line.contents.stop = b.stop ∧ t.line.contents.loopOpen = b.loopOpen ∧ t.line.contents.ready = b.ready ∧
     t.line.contents.run = b.run ∧ t.line.contents.speed = max (-999) (min 999 b.speed) ∧
     t.line.contents.ceiling = (if b.ceiling = 0 then none else some (Nat.max 50 (Nat.min b.ceiling 800))) ∧
     t.gov.summitCeiling = t.line.contents.ceiling ∧
     t.line.contents.wind = (if b.wind = 65535 then none else some (Nat.min b.wind 600)) ∧
     (b.stop = .emergency ∨ b.loopOpen = true → Source.summitEmergency ∈ t.run.demands) ∧
     (b.stop = .service → b.loopOpen = false → Source.summitService ∈ t.run.demands) ∧
     (s.line.heard = true → ∀ l, s.line.lastBeat = some l → l < 256 → b.number = (l + 1) % 256 →
       t.line.counts.beatsMissed = min s.line.counts.beatsMissed 65535) ∧
     (∀ l k, s.line.heard = true → s.line.lastBeat = some l → l < 256 → b.number < 256 →
       k = (b.number + 256 - l) % 256 →
       t.line.counts.beatsMissed = min (s.line.counts.beatsMissed + (k - 1)) 65535 ∧
       (∀ i : Idx4, (s.counter i).event = 11 → s.run.state ∈ (s.counter i).mask → (s.counter i).frozen = false →
         (s.counter i).chained = false → (∀ j, j ≠ i → (s.counter j).event ≠ 11) → k - 1 < (s.counter i).value →
         t.counter i = { s.counter i with value := (s.counter i).value - (k - 1) })) ∧
     (s.line.heard = false → t.line.counts.beatsMissed = s.line.counts.beatsMissed) ∧
     (∀ k band, b.wind ≠ 65535 → s.gov.wind.bands[k]? = some band → band.entry ≤ min b.wind 600 →
       (∀ m y, k < m → s.gov.wind.bands[m]? = some y → min b.wind 600 < y.entry) → s.gov.band < k + 1 →
       t.gov.band = k + 1 ∧ t.gov.hold = .stopped ∧ t.gov.holdMs = 0 ∧
         (band.ceiling = none → Source.wind ∈ t.run.demands)) ∧
     (b.wind ≠ 65535 → (∀ m y, s.gov.band ≤ m → s.gov.wind.bands[m]? = some y → min b.wind 600 < y.entry) →
       t.gov.band = s.gov.band ∧
       (t.gov.hold = .running ↔ ∃ y, 1 ≤ s.gov.band ∧ s.gov.wind.bands[s.gov.band - 1]? = some y ∧
         min b.wind 600 < y.entry - s.gov.wind.hysteresis) ∧
       (t.gov.hold = .running ∨ t.gov.hold = .stopped) ∧ (t.gov.hold = .stopped → t.gov.holdMs = 0) ∧
       (Source.wind ∈ t.run.demands ↔ Source.wind ∈ s.run.demands)) ∧
     (b.wind = 65535 → t.gov.band = s.gov.band ∧ t.gov.holdMs = s.gov.holdMs ∧
       t.gov.hold = (if s.gov.hold = .running then .paused else s.gov.hold)) ∧ DeskQuiet s t ∧
     Touches (.counters :: raiseBlocks) s t) ∧
  (∀ s : State,
     (s.line.supervision = none → exec .supervisionTimer s = .next s) ∧
     ∀ ms, s.line.supervision = some ms → ∃ t, exec .supervisionTimer s = .next t ∧
       t.line.miss = min (s.line.miss + 1) 255 ∧ t.line.supervision = some 100 ∧ DeskQuiet s t ∧
       (s.line.miss = 0 → t.gov.hold ≠ .running ∧ t.run = s.run) ∧
       (s.line.miss = 1 → t.gov = { s.gov with lineCeiling := true } ∧ t.run = s.run) ∧
       (s.line.miss = 3 → Raised .lineLost s t) ∧
       (4 ≤ s.line.miss → t.run = s.run ∧ t.gov = s.gov) ∧ Touches raiseBlocks s t)

/-- R162 to R166, Table 8-3: the beat timer offers a valley beat, which replaces one that waits and aborts a notice in
transmission, but for one whose closing flag is being sent; at the end of a flag, a frame or an abort the head of the
highest waiting class starts. A Voice frame offered to a full queue puts out the oldest one, counted; a Control frame
offered to a full queue is dropped, counted, and sets the overflow flag, as Call's Ring shows. R157: the bits of a flag
and of an abort sequence. That FRAME_END and ABORT_END choose the next frame, and that a frame's bits go out at 128 a
millisecond of idle time, is log entry 11 (DESIGN CHOICE). -/
def Obligations.TransmitterServesTheHighestClass : Prop :=
  (∀ s : State,
    (∃ t, exec .beatTimer s = .next t ∧ Touches [.line] s t ∧
      t.line = { s.line with
        beatTimer := 100,
        safety := some {
          loopOpen := s.run.loopOpen, stop := s.line.stopClass,
          ready := (decide (s.run.state = .stopped) || decide (s.run.state = .starting) ||
            decide (s.run.state = .running)) && decide (s.line.stopClass = .clear),
          run := s.run.state, speed := max (-999) (min 999 s.gov.v) },
        transmit := t.line.transmit } ∧
      (∀ text left, s.line.transmit = .frame (.notice text) left → 0 < left →
        t.line.transmit = .aborting (some (.notice text))) ∧
      ((∀ text left, s.line.transmit = .frame (.notice text) left → left = 0) →
        t.line.transmit = s.line.transmit)) ∧
    (∀ b, s.line.safety = some b →
      (∀ c, (c = Instr.frameStart ∧ (s.line.transmit = .flags ∨ s.line.transmit = .afterAbort)) ∨
        (c = Instr.frameEnd ∧ ∃ f left, s.line.transmit = .frame f left) ∨
        (c = Instr.abortEnd ∧ (s.line.transmit = .afterAbort ∨ ∃ f, s.line.transmit = .aborting f)) →
      ∃ t, exec c s = .next t ∧ t.line.transmit = .start (.beat s.line.beatNumber b) ∧ t.line.safety = none ∧
        t.line.beatNumber = (s.line.beatNumber + 1) % 256 ∧ t.line.voice = s.line.voice ∧
        t.line.control = s.line.control ∧ Touches [.line] s t)) ∧
    (∀ f rest, s.line.safety = none → s.line.voice = f :: rest → s.line.transmit = .flags →
      ∃ t, exec .frameStart s = .next t ∧
        t.line = { s.line with voice := rest, transmit := .start (.voice f) } ∧ Touches [.line] s t) ∧
    (∀ f rest, s.line.safety = none → s.line.voice = [] → s.line.control = f :: rest →
      s.line.transmit = .flags → ∃ t, exec .frameStart s = .next t ∧ t.line.control = rest ∧
        t.line.transmit = .start (.control f) ∧ (rest = [] → t.line.overflow = false) ∧
        Touches [.line, .desk] s t) ∧
    (∀ text rest, s.line.safety = none → s.line.voice = [] → s.line.control = [] → s.line.bulk = text :: rest →
      s.line.transmit = .flags → ∃ t, exec .frameStart s = .next t ∧
        t.line = { s.line with transmit := .start (.notice text) } ∧ Touches [.line] s t) ∧
    (∀ text rest left, s.line.safety = none → s.line.voice = [] → s.line.control = [] →
      s.line.bulk = text :: rest → s.line.transmit = .frame (.notice text) left →
      ∃ t, exec .frameEnd s = .next t ∧ t.line.bulk = rest ∧
        t.line.transmit = (match rest with | [] => .flags | x :: _ => .start (.notice x)) ∧ Touches [.line] s t) ∧
    (∀ text rest f, s.line.safety = none → s.line.voice = [] → s.line.control = [] → s.line.bulk = text :: rest →
      s.line.transmit = .aborting f ∨ s.line.transmit = .afterAbort → ∃ t, exec .abortEnd s = .next t ∧
        t.line.bulk = s.line.bulk ∧ t.line.transmit = .start (.notice text) ∧ Touches [.line] s t) ∧
    (∀ f left, s.line.transmit = .frame f left →
      exec .frameStart s = .next s ∧ exec .abortEnd s = .next s)) ∧
  (∀ (f : VoiceFrame) (s : State),
    (s.line.voice.length < 4 → offerVoice f s = { s with line := { s.line with voice := s.line.voice ++ [f] } }) ∧
    ∀ oldest rest, s.line.voice = oldest :: rest → rest.length = 3 → offerVoice f s = { s with line := { s.line with
      voice := rest ++ [f]
      counts := { s.line.counts with voiceDropped := min (s.line.counts.voiceDropped + 1) 65535 } } }) ∧
  (∀ (f : ControlFrame) (s : State),
    (s.line.control.length < 16 →
      offerControl f s = { s with line := { s.line with control := s.line.control ++ [f] } }) ∧
    (s.line.control.length = 16 → DeskQuiet s (offerControl f s) ∧ Touches [.line, .desk] s (offerControl f s) ∧
      (offerControl f s).line = { s.line with
        noticeTaken := (offerControl f s).line.noticeTaken, overflow := true
        counts := { s.line.counts with controlDropped := min (s.line.counts.controlDropped + 1) 65535 } })) ∧
  (∀ (tag : Byte) (s : State), DeskFree s → s.phone.state = .idle → s.line.control.length = 16 →
    ∃ t, exec (.call tag) s = .next t ∧ Answered tag .call (.done [byte s.phone.nextId]) s t ∧
      t.phone.state = .calling ∧ t.phone.id = some s.phone.nextId ∧ t.line.control = s.line.control ∧
      t.line.overflow = true ∧ t.line.counts.controlDropped = min (s.line.counts.controlDropped + 1) 65535 ∧
      Touches [.phone, .line, .desk] s t) ∧
  Transmit.flags.bits = [false, true, true, true, true, true, true, false] ∧
  (∀ f, (Transmit.aborting f).bits = List.replicate 8 true ++ [false, true, true, true, true, true, true, false] ∧
    (Transmit.aborting f).tick = .afterAbort) ∧
  ∀ f : SentFrame, (Transmit.start f).bits = wireBits f.body ++ [false, true, true, true, true, true, true, false] ∧
    (Transmit.frame f 0).bits = [false, true, true, true, true, true, true, false] ∧
    ∀ left, left ≤ (wireBits f.body).length →
      (Transmit.frame f left).bits.drop (min 128 left) = (Transmit.frame f left).tick.bits

/-- R173, R174: notices in both directions. -/
def Obligations.NoticesAreKept : Prop :=
  (∀ (text : List Byte) (s : State),
    (s.line.inbox.length < 4 → ∃ t, exec (.noticeFrame text) s = .next t ∧
      t.line.inbox = s.line.inbox ++ [⟨text, false⟩] ∧ DeskQuiet s t ∧ Touches [.line, .desk] s t ∧
      t.line.counts.notices = min (s.line.counts.notices + 1) 65535 ∧
      t.line.counts.noticesLost = s.line.counts.noticesLost ∧ t.line.noticeOffered = true) ∧
    (s.line.inbox.length = 4 → ∃ t, exec (.noticeFrame text) s = .next t ∧
      t.line.inbox = s.line.inbox.dropLast ++ [⟨text, true⟩] ∧ DeskQuiet s t ∧ Touches [.line, .desk] s t ∧
      t.line.counts.noticesLost = min (s.line.counts.noticesLost + 1) 65535)) ∧
    ∀ (tag : Byte) (text : List Byte) (s : State), DeskFree s →
      (text = [] ∨ 64 < text.length → Refused (.sendNotice tag text) tag (.sendNotice text) .range s) ∧
      (text ≠ [] → text.length ≤ 64 → 4 ≤ s.line.bulk.length →
        Refused (.sendNotice tag text) tag (.sendNotice text) .full s) ∧
      (text ≠ [] → text.length ≤ 64 → s.line.bulk.length < 4 → ∃ t, exec (.sendNotice tag text) s = .next t ∧
        Answered tag (.sendNotice text) (.done []) s t ∧
        t.line = { s.line with bulk := s.line.bulk ++ [text] } ∧ Touches [.line, .desk] s t) ∧
      ∃ c1 c2, (SentFrame.notice text).body = 0x0F#8 :: 0x05#8 :: text ++ [c1, c2]

/-! ### Calls and voice (chapter 9) -/

/-- R177, R178: Call, Answer and HangUp, with the signal each sends where the Control queue has room. -/
def Obligations.CallRequestsAct : Prop :=
  ∀ (tag : Byte) (s : State), DeskFree s → s.line.control.length < 16 →
    (s.phone.state = .idle → ∃ t, exec (.call tag) s = .next t ∧
      Answered tag .call (.done [byte s.phone.nextId]) s t ∧
      t.phone = { s.phone with
        state := .calling, id := some s.phone.nextId,
        nextId := if 255 ≤ s.phone.nextId then 1 else s.phone.nextId + 2,
        ringRepeat := some 1000, ringOut := some 30000 } ∧
      t.line = { s.line with control := s.line.control ++ [.callSignal .ring s.phone.nextId] } ∧
      Touches [.phone, .line, .desk] s t) ∧
    (s.phone.state ≠ .idle → Refused (.call tag) tag .call .busy s) ∧
    (∀ id, s.phone.state = .ringing → s.phone.id = some id → ∃ t, exec (.answer tag) s = .next t ∧
      Answered tag .answer (.done []) s t ∧ t.phone.state = .talking ∧ t.phone.id = some id ∧
      t.phone.sequence = 0 ∧ t.phone.voiceLoss = some 2000 ∧ t.phone.ringingGap = none ∧
      t.line = { s.line with control := s.line.control ++ [.callSignal .answer id],
                             noticeTaken := t.line.noticeTaken } ∧
      (s.desk.urgent.length + s.desk.others.length < 32 →
        Report.call .connectedAccepted id .talking ∈ t.desk.others) ∧
      Touches [.phone, .line, .desk] s t) ∧
    (s.phone.state ≠ .ringing → Refused (.answer tag) tag .answer .state s) ∧
    (∀ id, s.phone.state ≠ .idle → s.phone.id = some id → ∃ t, exec (.hangUp tag) s = .next t ∧
      Answered tag .hangUp (.done []) s t ∧ t.phone.state = .idle ∧ t.phone.id = none ∧
      t.phone.ringRepeat = none ∧ t.phone.ringOut = none ∧ t.phone.ringingGap = none ∧
      t.phone.voiceLoss = none ∧ t.phone.queue = [] ∧
      t.line = { s.line with control := s.line.control ++ [.callSignal .clear id],
                             noticeTaken := t.line.noticeTaken } ∧
      (s.desk.urgent.length + s.desk.others.length < 32 →
        Report.call .endedHungUp id .idle ∈ t.desk.others) ∧
      Touches [.phone, .line, .desk] s t) ∧
    (s.phone.state = .idle → Refused (.hangUp tag) tag .hangUp .state s)

/-- R179, Table 9-2: what the summit's signals do in each call state, with the current and with another id. R180: the
four call timers. -/
def Obligations.CallSignalsAndTimersAct : Prop :=
  (∀ (id : Nat) (s : State),
     (s.phone.state = .idle → ∃ t, exec (.callSignal .ring id) s = .next t ∧ t.phone.state = .ringing ∧
       t.phone.id = some id ∧ t.phone.ringingGap = some 3000 ∧ DeskQuiet s t ∧
       Touches [.phone, .line, .desk] s t) ∧
     (∀ own, s.phone.state = .calling → s.phone.id = some own → ∃ t, exec (.callSignal .ring id) s = .next t ∧
       t.phone.state = .talking ∧ t.phone.id = some (min own id) ∧ DeskQuiet s t ∧
       Touches [.phone, .line, .desk] s t ∧
       (s.line.control.length < 16 →
         t.line.control = s.line.control ++ [.callSignal .answer (min own id)])) ∧
     (s.phone.state = .calling → s.phone.id = some id → ∃ t, exec (.callSignal .answer id) s = .next t ∧
       t.phone.state = .talking ∧ t.phone.id = some id ∧ t.phone.voiceLoss = some 2000 ∧
       t.line.control = s.line.control ∧ DeskQuiet s t ∧ Touches [.phone, .line, .desk] s t) ∧
     (∀ own, s.phone.id = some own → own ≠ id → ∃ t, exec (.callSignal .answer id) s = .next t ∧
       t.phone = s.phone ∧ DeskQuiet s t ∧ Touches [.line, .desk] s t ∧
       (s.line.control.length < 16 → t.line.control = s.line.control ++ [.callSignal .clear id])) ∧
     (s.phone.id = some id → ∃ t, exec (.callSignal .clear id) s = .next t ∧ t.phone.state = .idle ∧
       t.phone.id = none ∧ t.line.control = s.line.control ∧ DeskQuiet s t ∧
       Touches [.phone, .line, .desk] s t) ∧
     (s.phone.id ≠ some id → ∃ t, exec (.callSignal .clear id) s = .next t ∧ t.phone = s.phone ∧
       t.line.control = s.line.control ∧ t.line.counts.callSignals = min (s.line.counts.callSignals + 1) 65535 ∧
       Touches [.line] s t) ∧
     (s.phone.state = .ringing → s.phone.id = some id → ∃ t, exec (.callSignal .ring id) s = .next t ∧
       t.phone = { s.phone with ringingGap := some 3000 } ∧ t.line.control = s.line.control ∧
       Touches [.phone, .line] s t) ∧
     (∀ own, s.phone.state = .ringing → s.phone.id = some own → own ≠ id →
       ∃ t, exec (.callSignal .ring id) s = .next t ∧
         t.phone = { s.phone with id := some id, ringingGap := some 3000 } ∧ t.line.control = s.line.control ∧
         (s.desk.urgent.length + s.desk.others.length < 32 → Report.call .incoming id .ringing ∈ t.desk.others) ∧
         DeskQuiet s t ∧ Touches [.phone, .line, .desk] s t) ∧
     (s.phone.state = .talking → ∃ t, exec (.callSignal .ring id) s = .next t ∧ t.phone = s.phone ∧
       (s.line.control.length < 16 → t.line.control =
         s.line.control ++ [.callSignal (if s.phone.id = some id then .answer else .clear) id]) ∧
       DeskQuiet s t ∧ Touches [.line, .desk] s t) ∧
     (s.phone.state = .ringing → s.phone.id = some id → ∃ t, exec (.callSignal .answer id) s = .next t ∧
       t.phone = s.phone ∧ (s.line.control.length < 16 → t.line.control = s.line.control ++ [.callSignal .clear id]) ∧
       DeskQuiet s t ∧ Touches [.line, .desk] s t) ∧
     (s.phone.state = .talking → s.phone.id = some id → ∃ t, exec (.callSignal .answer id) s = .next t ∧
       t.phone = s.phone ∧ t.line.control = s.line.control ∧ Touches [.line] s t) ∧
     (s.phone.id = none → ∃ t, exec (.callSignal .answer id) s = .next t ∧ t.phone = s.phone ∧
       (s.line.control.length < 16 → t.line.control = s.line.control ++ [.callSignal .clear id]) ∧
       DeskQuiet s t ∧ Touches [.line, .desk] s t)) ∧
  (∀ (id ms : Nat) (s : State), s.phone.id = some id → s.line.control.length < 16 →
     (s.phone.state = .calling → s.phone.ringRepeat = some ms → ∃ t, exec .ringRepeat s = .next t ∧
       t.phone = { s.phone with ringRepeat := some 1000 } ∧
       t.line = { s.line with control := s.line.control ++ [.callSignal .ring id] } ∧
       Touches [.phone, .line] s t) ∧
     (s.phone.state = .calling → s.phone.ringOut = some ms → ∃ t, exec .ringTimeout s = .next t ∧
       t.phone.state = .idle ∧ t.phone.id = none ∧ t.phone.ringRepeat = none ∧
       (s.desk.urgent.length + s.desk.others.length < 32 → Report.call .endedNoAnswer id .idle ∈ t.desk.others) ∧
       t.line.control = s.line.control ++ [.callSignal .clear id] ∧ DeskQuiet s t ∧
       Touches [.phone, .line, .desk] s t) ∧
     (s.phone.state = .ringing → s.phone.ringingGap = some ms → ∃ t, exec .ringingGap s = .next t ∧
       t.phone.state = .idle ∧ t.phone.id = none ∧ t.line.control = s.line.control ∧ DeskQuiet s t ∧
       (s.desk.urgent.length + s.desk.others.length < 32 → Report.call .endedRingStopped id .idle ∈ t.desk.others) ∧
       Touches [.phone, .line, .desk] s t) ∧
     (s.phone.state = .talking → s.phone.voiceLoss = some ms → ∃ t, exec .voiceLoss s = .next t ∧
       t.phone.state = .idle ∧ t.phone.id = none ∧ t.phone.queue = [] ∧
       (s.desk.urgent.length + s.desk.others.length < 32 → Report.call .endedLost id .idle ∈ t.desk.others) ∧
       t.line.control = s.line.control ++ [.callSignal .clear id] ∧ DeskQuiet s t ∧
       Touches [.phone, .line, .desk] s t))

/-- R183: a good Voice frame of the current call joins the playout queue in the order of its difference from the
reference; one of another call, a late one and a duplicate are counted and dropped, and a ninth block puts out the
oldest. R182, R184: the block period gives the codec the expected block, conceals a missing one, begins to play with two
blocks queued, and is silent outside Talking and in Buffering with fewer than two; in Talking the captured block is
sent, and a full Voice queue drops its oldest frame for it, counted (R162). The place of a block in the queue is stated
for queued sequences below 256, the range of a sequence (Table 11-5), and the last clause says that every step of a
well-formed command keeps them so. -/
def Obligations.VoiceIsQueuedAndPlayed : Prop :=
  (∀ (id sequence : Nat) (block : List Byte) (s : State),
     (¬ (s.phone.state = .talking ∧ s.phone.id = some id) → ∃ t, exec (.voiceFrame id sequence block) s = .next t ∧
       t.phone = { s.phone with counts := { s.phone.counts with
         foreign := min (s.phone.counts.foreign + 1) 65535 } } ∧ Touches [.phone, .line] s t) ∧
     (s.phone.state = .talking → s.phone.id = some id → s.phone.reference = none → s.phone.queue = [] →
       sequence < 256 → ∃ t, exec (.voiceFrame id sequence block) s = .next t ∧
         t.phone = { s.phone with voiceLoss := some 2000, reference := some ((sequence + 255) % 256),
                                  queue := [⟨sequence, block⟩] } ∧ Touches [.phone, .line] s t) ∧
     (∀ r, s.phone.state = .talking → s.phone.id = some id → s.phone.reference = some r → r < 256 → sequence < 256 →
       ((sequence + 256 - r) % 256 = 0 ∨ 128 ≤ (sequence + 256 - r) % 256) →
       ∃ t, exec (.voiceFrame id sequence block) s = .next t ∧
         t.phone = { s.phone with voiceLoss := some 2000, counts := { s.phone.counts with
           late := min (s.phone.counts.late + 1) 65535 } } ∧ Touches [.phone, .line] s t) ∧
     (∀ r, s.phone.state = .talking → s.phone.id = some id → s.phone.reference = some r → r < 256 → sequence < 256 →
       1 ≤ (sequence + 256 - r) % 256 → (sequence + 256 - r) % 256 ≤ 127 →
       (∀ b ∈ s.phone.queue, b.sequence < 256) → (∀ b ∈ s.phone.queue, b.sequence ≠ sequence) →
       s.phone.queue.length < 8 →
       ∃ t, exec (.voiceFrame id sequence block) s = .next t ∧ t.phone.reference = some r ∧
         t.phone.queue.length = s.phone.queue.length + 1 ∧ ⟨sequence, block⟩ ∈ t.phone.queue ∧
         (∀ b ∈ s.phone.queue, b ∈ t.phone.queue) ∧
         (s.phone.queue.Pairwise (fun a b => seqDiff a.sequence r < seqDiff b.sequence r) →
           t.phone.queue.Pairwise fun a b => seqDiff a.sequence r < seqDiff b.sequence r) ∧
         Touches [.phone, .line] s t) ∧
     (∀ r, s.phone.state = .talking → s.phone.id = some id → s.phone.reference = some r → r < 256 → sequence < 256 →
       1 ≤ (sequence + 256 - r) % 256 → (sequence + 256 - r) % 256 ≤ 127 →
       (∃ b ∈ s.phone.queue, b.sequence = sequence) →
       ∃ t, exec (.voiceFrame id sequence block) s = .next t ∧
         t.phone = { s.phone with voiceLoss := some 2000, counts := { s.phone.counts with
           duplicate := min (s.phone.counts.duplicate + 1) 65535 } } ∧ Touches [.phone, .line] s t) ∧
     (∀ r, s.phone.state = .talking → s.phone.id = some id → s.phone.reference = some r → r < 256 → sequence < 256 →
       1 ≤ (sequence + 256 - r) % 256 → (sequence + 256 - r) % 256 ≤ 127 →
       (∀ b ∈ s.phone.queue, b.sequence < 256) → (∀ b ∈ s.phone.queue, b.sequence ≠ sequence) →
       s.phone.queue.length = 8 →
       ∃ t, exec (.voiceFrame id sequence block) s = .next t ∧ t.phone.queue.length = 8 ∧
         t.phone = { s.phone with
           voiceLoss := some 2000, queue := t.phone.queue,
           counts := { s.phone.counts with overflow := min (s.phone.counts.overflow + 1) 65535 } } ∧
         (∀ head, s.phone.queue.head? = some head → s.phone.queue.Pairwise (fun a b =>
             seqDiff a.sequence r < seqDiff b.sequence r) →
           (seqDiff sequence r < seqDiff head.sequence r → t.phone.queue = s.phone.queue) ∧
           (seqDiff head.sequence r < seqDiff sequence r → ⟨sequence, block⟩ ∈ t.phone.queue ∧
             (∀ b ∈ s.phone.queue.tail, b ∈ t.phone.queue) ∧
             t.phone.queue.Pairwise fun a b => seqDiff a.sequence r < seqDiff b.sequence r)) ∧
         Touches [.phone, .line] s t)) ∧
  (∀ (captured : List Byte) (s : State),
     (s.phone.state ≠ .talking → ∃ t, exec (.blockPeriod captured) s = .next t ∧
       t.phone = { s.phone with blockTimer := 10, codec := List.replicate 40 0xD5#8 } ∧ Touches [.phone] s t) ∧
     (∀ id, s.phone.state = .talking → s.phone.id = some id → s.line.voice.length < 4 →
       (∀ b rest r, s.phone.mode = .playing → s.phone.queue = b :: rest → s.phone.reference = some r →
         b.sequence = (r + 1) % 256 → ∃ t, exec (.blockPeriod captured) s = .next t ∧
           t.phone = { s.phone with
             blockTimer := 10, sequence := (s.phone.sequence + 1) % 256, queue := rest, codec := b.block,
             reference := some ((r + 1) % 256), last := some b.block, concealStep := 0 } ∧
           t.line = { s.line with voice := s.line.voice ++ [⟨id, s.phone.sequence, captured⟩] } ∧
           Touches [.phone, .line] s t) ∧
       (∀ r, s.phone.mode = .playing → s.phone.queue = [] → s.phone.reference = some r →
         ∃ t, exec (.blockPeriod captured) s = .next t ∧ t.phone.mode = .buffering ∧ t.phone.queue = [] ∧
           t.phone.reference = some ((r + 1) % 256) ∧ t.phone.concealStep = 1 ∧
           t.phone.counts.concealed = min (s.phone.counts.concealed + 1) 65535 ∧
           t.phone.codec = (if s.phone.concealStep = 0 then s.phone.last.getD (List.replicate 40 0xD5#8)
             else List.replicate 40 0xD5#8) ∧ DeskQuiet s t ∧
           Touches (.phone :: .counters :: raiseBlocks) s t) ∧
       (∀ b rest r, s.phone.mode = .playing → s.phone.queue = b :: rest → s.phone.reference = some r →
         b.sequence ≠ (r + 1) % 256 → ∃ t, exec (.blockPeriod captured) s = .next t ∧
           t.phone.mode = .playing ∧ t.phone.queue = s.phone.queue ∧ t.phone.last = s.phone.last ∧
           t.phone.reference = some ((r + 1) % 256) ∧ t.phone.concealStep = 1 ∧
           t.phone.counts.concealed = min (s.phone.counts.concealed + 1) 65535 ∧
           t.phone.codec = (if s.phone.concealStep = 0 then s.phone.last.getD (List.replicate 40 0xD5#8)
             else List.replicate 40 0xD5#8) ∧ DeskQuiet s t ∧
           Touches (.phone :: .counters :: raiseBlocks) s t) ∧
       (∀ b b2 rest, s.phone.mode = .buffering → s.phone.queue = b :: b2 :: rest → b.sequence < 256 →
         ∃ t, exec (.blockPeriod captured) s = .next t ∧
           t.phone = { s.phone with
             blockTimer := 10, sequence := (s.phone.sequence + 1) % 256, mode := .playing, queue := b2 :: rest,
             codec := b.block, reference := some b.sequence, last := some b.block, concealStep := 0 } ∧
           t.line = { s.line with voice := s.line.voice ++ [⟨id, s.phone.sequence, captured⟩] } ∧
           Touches [.phone, .line] s t) ∧
       (s.phone.mode = .buffering → s.phone.queue.length < 2 → ∃ t, exec (.blockPeriod captured) s = .next t ∧
         t.phone = { s.phone with blockTimer := 10, sequence := (s.phone.sequence + 1) % 256,
                                  codec := List.replicate 40 0xD5#8 } ∧
         t.line = { s.line with voice := s.line.voice ++ [⟨id, s.phone.sequence, captured⟩] } ∧
         Touches [.phone, .line] s t)) ∧
     (∀ id oldest rest, s.phone.state = .talking → s.phone.id = some id → s.line.voice = oldest :: rest →
       rest.length = 3 → ∃ t, exec (.blockPeriod captured) s = .next t ∧ t.phone.blockTimer = 10 ∧
         t.phone.sequence = (s.phone.sequence + 1) % 256 ∧
         t.line.voice = rest ++ [⟨id, s.phone.sequence, captured⟩] ∧
         t.line.counts.voiceDropped = min (s.line.counts.voiceDropped + 1) 65535 ∧ DeskQuiet s t ∧
         Touches (.phone :: .counters :: raiseBlocks) s t)) ∧
  (∀ b ∈ State.reset.phone.queue, b.sequence < 256) ∧
  ∀ s t : State, step s = .next t → (∀ c ∈ s.pending.head?, wellFormed c = true) →
    (∀ b ∈ s.phone.queue, b.sequence < 256) → ∀ b ∈ t.phone.queue, b.sequence < 256

/-! ### The desk link (chapter 10) -/

/-- R190: a report offered to the queue joins its group; a full queue drops it, or for an urgent report its newest
other report; what is lost is counted, a Notice apart, which is given back as not taken. R189, R190, R193: with the
transmitter free, urgent reports go first, then replies, then other reports, and the first report carries ReportsLost;
the reply to an accepted Restart goes ahead of them all. R174, R190, R193: the end of a message's transmission frees
the transmitter; after a Notice its entry leaves the inbox; after the reply to a Restart the part restarts. That this
reply stands at the head of the reply queue and that MESSAGE_SENT performs the Restart is log entry 19 (DEDUCED), and the
previous run state in the Restart's report log entry 18 (DESIGN CHOICE). -/
def Obligations.MessagesLeaveByGroup : Prop :=
  (∀ (r : Report) (s : State),
     (s.desk.urgent.length + s.desk.others.length < 32 → r.isUrgent = true →
       queueReport r s = { s with desk := { s.desk with urgent := s.desk.urgent ++ [r] } }) ∧
     (s.desk.urgent.length + s.desk.others.length < 32 → r.isUrgent = false →
       queueReport r s = { s with desk := { s.desk with others := s.desk.others ++ [r] } }) ∧
     (32 ≤ s.desk.urgent.length + s.desk.others.length → r.isUrgent = false → r.isNotice = false →
       queueReport r s = { s with desk := { s.desk with reportsLost := true, counts := { s.desk.counts with
         lost := min (s.desk.counts.lost + 1) 65535 } } }) ∧
     (32 ≤ s.desk.urgent.length + s.desk.others.length → r.isNotice = true →
       queueReport r s = { s with line := { s.line with noticeTaken := false } }) ∧
     (∀ kept newest, 32 ≤ s.desk.urgent.length + s.desk.others.length → r.isUrgent = true →
       s.desk.others = kept ++ [newest] → newest.isNotice = false →
       queueReport r s = { s with desk := { s.desk with
         urgent := s.desk.urgent ++ [r], others := kept,
         reportsLost := true, counts := { s.desk.counts with lost := min (s.desk.counts.lost + 1) 65535 } } })) ∧
  (∀ s : State, s.desk.transmit = none →
     (∀ r rest, s.desk.restart ≠ .waiting → s.desk.urgent = r :: rest → exec .messageStart s =
       .next { s with desk := { s.desk with urgent := rest, transmit := some (.report r s.desk.reportsLost),
                                            reportsLost := false } }) ∧
     (∀ r rest, s.desk.restart ≠ .waiting → s.desk.urgent = [] → s.desk.replies = r :: rest → s.desk.inbox = [] →
       exec .messageStart s = .next { s with desk := { s.desk with
         replies := rest, transmit := some (.reply r) } }) ∧
     (∀ r rest, s.desk.restart ≠ .waiting → s.desk.urgent = [] → s.desk.replies = [] → s.desk.others = r :: rest →
       exec .messageStart s = .next { s with desk := { s.desk with
         others := rest, transmit := some (.report r s.desk.reportsLost), reportsLost := false } }) ∧
     (∀ r rest, s.desk.restart = .waiting → s.desk.replies = r :: rest → exec .messageStart s =
       .next { s with desk := { s.desk with
         replies := rest, transmit := some (.reply r), restart := .sending } })) ∧
  (∀ s : State,
     (s.desk.transmit = none → exec .messageSent s = .next s) ∧
     (∀ r, s.desk.transmit = some (.reply r) → s.desk.restart ≠ .sending →
       exec .messageSent s = .next { s with desk := { s.desk with transmit := none } }) ∧
     (∀ r, s.desk.transmit = some (.reply r) → s.desk.restart = .sending → ∃ t, exec .messageSent s = .next t ∧
       t.run.state = .parked ∧ t.run.demands = [] ∧ t.desk.transmit = none ∧ t.desk.restart = .none ∧
       t.gov.settings = s.gov.settings ∧ t.desk.urgent = [.runState .parked s.run.state .restart .clear []]) ∧
     (∀ r lost, s.desk.transmit = some (.report r lost) → r.isNotice = false →
       (s.line.noticeOffered = false ∨ s.line.noticeTaken = true) →
       exec .messageSent s = .next { s with desk := { s.desk with transmit := none } }) ∧
     (∀ text overrun lost, s.desk.transmit = some (.report (.notice text overrun) lost) →
       s.desk.urgent.length + s.desk.others.length < 32 → ∃ t, exec .messageSent s = .next t ∧
         t.desk.transmit = none ∧ t.line.inbox = s.line.inbox.tail ∧
         (s.line.inbox.tail = [] → t.line.noticeOffered = false ∧ t.desk.others = s.desk.others) ∧
         (∀ n rest, s.line.inbox.tail = n :: rest → t.line.noticeOffered = true ∧
           t.desk.others = s.desk.others ++ [.notice n.text n.overrun]) ∧ Touches [.line, .desk] s t))

/-- R187: the desk receiver at a byte in Waiting, at a bad length byte, at a byte of a message, and at the gap timer.
R188: a well-formed message, in the order of the rule's cases. -/
def Obligations.DeskBytesAndMessagesAreSorted : Prop :=
  (∀ (b : Byte) (s : State),
     (s.desk.receiver = .waiting → b ≠ 0xA7#8 → exec (.deskByteReceived b) s = .next s) ∧
     (s.desk.receiver = .waiting → b = 0xA7#8 → exec (.deskByteReceived b) s =
       .next { s with desk := { s.desk with receiver := .assembling [] 5 } }) ∧
     (∀ gap, s.desk.receiver = .assembling [] gap → b.toNat < 2 ∨ 250 < b.toNat →
       ∃ t, exec (.deskByteReceived b) s = .next t ∧ t.desk.receiver = .waiting ∧
         t.desk.counts.length = min (s.desk.counts.length + 1) 65535 ∧
         (s.desk.urgent.length + s.desk.others.length < 32 → Report.garbled .length ∈ t.desk.others) ∧
         t.desk.replies = s.desk.replies ∧ t.desk.inbox = s.desk.inbox ∧ Touches [.line, .desk] s t ∧ LineQuiet s t) ∧
     (∀ gap, s.desk.receiver = .assembling [] gap → 2 ≤ b.toNat → b.toNat ≤ 250 →
       exec (.deskByteReceived b) s = .next { s with desk := { s.desk with receiver := .assembling [b] 5 } }) ∧
     (∀ len bytes gap, s.desk.receiver = .assembling (len :: bytes) gap → 2 ≤ len.toNat → len.toNat ≤ 250 →
       bytes.length + 2 < len.toNat + 3 → exec (.deskByteReceived b) s =
         .next { s with desk := { s.desk with receiver := .assembling (len :: bytes ++ [b]) 5 } }) ∧
     (∀ len bytes c1 gap, s.desk.receiver = .assembling (len :: bytes ++ [c1]) gap → 2 ≤ len.toNat → len.toNat ≤ 250 →
       bytes.length = len.toNat →
       ([c1, b] ≠ crcHighFirst (len :: bytes) → ∃ t, exec (.deskByteReceived b) s = .next t ∧
         t.desk.receiver = .waiting ∧ t.desk.counts.crc = min (s.desk.counts.crc + 1) 65535 ∧
         (s.desk.urgent.length + s.desk.others.length < 32 → Report.garbled .crc ∈ t.desk.others) ∧
         t.desk.replies = s.desk.replies ∧ t.desk.inbox = s.desk.inbox ∧ Touches [.line, .desk] s t ∧
         LineQuiet s t) ∧
       (∀ kind tag payload, [c1, b] = crcHighFirst (len :: bytes) → bytes = kind :: tag :: payload →
         exec (.deskByteReceived b) s = exec (.deskMessage kind tag payload)
           { s with desk := { s.desk with receiver := .waiting } })) ∧
     (∀ bytes gap, s.desk.receiver = .assembling bytes gap → ∃ t, exec .gapTimer s = .next t ∧
       t.desk.receiver = .waiting ∧ t.desk.counts.gap = min (s.desk.counts.gap + 1) 65535 ∧
       (s.desk.urgent.length + s.desk.others.length < 32 → Report.garbled .gap ∈ t.desk.others) ∧
       t.desk.replies = s.desk.replies ∧ t.desk.inbox = s.desk.inbox ∧ Touches [.line, .desk] s t ∧
       LineQuiet s t) ∧
     (s.desk.receiver = .waiting → exec .gapTimer s = .next s)) ∧
  (∀ (kind tag : Byte) (payload : List Byte) (s : State),
     (8 ≤ s.desk.replies.length → ∃ t, exec (.deskMessage kind tag payload) s = .next t ∧
       t.desk.counts.overruns = min (s.desk.counts.overruns + 1) 65535 ∧ t.desk.inbox = s.desk.inbox ∧
       t.desk.replies = s.desk.replies ∧ Touches [.line, .desk] s t ∧ LineQuiet s t) ∧
     (s.desk.replies.length < 8 → payloadDecoder kind.toNat = none →
       exec (.deskMessage kind tag payload) s = .next { s with desk := { s.desk with
         replies := s.desk.replies ++ [⟨tag, kind, .refused .unknown⟩] } }) ∧
     (∀ f, s.desk.replies.length < 8 → payloadDecoder kind.toNat = some f → f payload = none →
       exec (.deskMessage kind tag payload) s = .next { s with desk := { s.desk with
         replies := s.desk.replies ++ [⟨tag, kind, .refused .length⟩] } }) ∧
     (∀ r, s.desk.replies.length < 8 → decodeRequest kind.toNat payload = .ok r → 4 ≤ s.desk.inbox.length →
       exec (.deskMessage kind tag payload) s = .next { s with desk := { s.desk with
         replies := s.desk.replies ++ [⟨tag, kind, .refused .full⟩],
         counts := { s.desk.counts with refusedFull := min (s.desk.counts.refusedFull + 1) 65535 } } }) ∧
     (∀ r, s.desk.replies.length < 8 → decodeRequest kind.toNat payload = .ok r → s.desk.inbox.length < 4 →
       s.desk.restart ≠ .none → exec (.deskMessage kind tag payload) s = .next { s with desk := { s.desk with
         inbox := s.desk.inbox ++ [(tag, r)] } }) ∧
     (∀ v, DeskFree s → kind = 0x24#8 → payload = byte2 v → v < 65536 →
       exec (.deskMessage kind tag payload) s = exec (.setSpeed tag v) s))

/-- R191, R192: ReleaseReports unlatches its class and reports it at once where it differs from the snapshot; shown
for the Governor class, the other three likewise unlatch when they stand as their snapshot. R193: Restart is accepted
at rest in the three held states, its Done reply placed ahead of every waiting reply (log entry 19, DEDUCED) and no
further request given. -/
def Obligations.ReportsAndRestartRequestsAct : Prop :=
  (∀ (tag : Byte) (s : State), DeskFree s →
     (∀ c, 3 < c → Refused (.releaseReports tag c) tag (.releaseReports c) .range s) ∧
     (s.desk.governor.latched = false → exec (.releaseReports tag 0) s =
       .next (withReply tag (.releaseReports 0) (.done []) s)) ∧
     (s.desk.governor.latched = true → s.desk.governor.snapshot = some (governorSnapshot s) →
       ∃ t, exec (.releaseReports tag 0) s = .next t ∧ Answered tag (.releaseReports 0) (.done []) s t ∧
         t.desk.governor.latched = false ∧ t.desk.others = s.desk.others ∧ Touches [.desk] s t) ∧
     (s.desk.governor.latched = true → s.desk.governor.snapshot ≠ some (governorSnapshot s) →
       s.desk.urgent.length + s.desk.others.length < 32 →
       ∃ t, exec (.releaseReports tag 0) s = .next t ∧ Answered tag (.releaseReports 0) (.done []) s t ∧
         t.desk.governor = ⟨true, some (governorSnapshot s)⟩ ∧
         t.desk.others = s.desk.others ++ [governorReport s] ∧ Touches [.desk] s t) ∧
     (s.desk.tower.snapshot = some (towerSnapshot s) → ∃ t, exec (.releaseReports tag 1) s = .next t ∧
       Answered tag (.releaseReports 1) (.done []) s t ∧ t.desk.tower.latched = false ∧
       t.desk.others = s.desk.others ∧ Touches [.desk] s t) ∧
     (s.desk.line.snapshot = some (lineSnapshot s) → ∃ t, exec (.releaseReports tag 2) s = .next t ∧
       Answered tag (.releaseReports 2) (.done []) s t ∧ t.desk.line.latched = false ∧
       t.desk.others = s.desk.others ∧ Touches [.desk] s t) ∧
     (s.desk.berth.snapshot = some (berthSnapshot s) → ∃ t, exec (.releaseReports tag 3) s = .next t ∧
       Answered tag (.releaseReports 3) (.done []) s t ∧ t.desk.berth.latched = false ∧
       t.desk.others = s.desk.others ∧ Touches [.desk] s t)) ∧
  (∀ (tag : Byte) (s : State), DeskFree s →
     (s.run.state ≠ .parked → s.run.state ≠ .stopped → s.run.state ≠ .tripped →
       Refused (.restart tag) tag .restart .state s) ∧
     ((s.run.state = .parked ∨ s.run.state = .stopped ∨ s.run.state = .tripped) → s.gov.v ≠ 0 →
       Refused (.restart tag) tag .restart .permissive s) ∧
     ((s.run.state = .parked ∨ s.run.state = .stopped ∨ s.run.state = .tripped) → s.gov.v = 0 →
       exec (.restart tag) s = .next { s with desk := { s.desk with
         restart := .waiting, replies := ⟨tag, 0x27#8, .done []⟩ :: s.desk.replies } }))

/-- R46, R75, R103, R122, R138, R148, R156, R175, R189, R194: a read is answered from the state as it stands, and
changes nothing but the reply queue. -/
def Obligations.ReadsChangeNothing : Prop :=
  ∀ (tag : Byte) (n : Nat) (s : State), DeskFree s →
    exec (.readGovernor tag) s = .next (withReply tag .readGovernor (.done (readGovernor s)) s) ∧
    exec (.readTrack tag) s = .next (withReply tag .readTrack (.done (readTrack s)) s) ∧
    exec (.readRoster tag n) s = .next (withReply tag (.readRoster n) (.done (readRoster n s)) s) ∧
    exec (.readBerths tag) s = .next (withReply tag .readBerths (.done (readBerths s)) s) ∧
    exec (.readTowers tag n) s = .next (withReply tag (.readTowers n) (.done (readTowers n s)) s) ∧
    exec (.readCounters tag) s = .next (withReply tag .readCounters (.done (readCounters s)) s) ∧
    exec (.readWatches tag) s = .next (withReply tag .readWatches (.done (readWatches s)) s) ∧
    exec (.readLine tag) s = .next (withReply tag .readLine (.done (readLine s)) s) ∧
    exec (.readStatus tag) s = .next (withReply tag .readStatus (.done (readStatus s)) s)
end

