-- ==== Sys2Proof/Laws/State.lean ====
section
/-! SUPPORT. The fields of the state after each named update: one simp lemma an update, a conjunction over the fields;
and the reads of a quad after a write. -/

namespace Sys2Proof.Machine

@[simp] theorem Quad.get_set_same {α : Type} (q : Quad α) (i : Idx4) (a : α) : (q.set i a).get i = a := by
  cases i <;> rfl

theorem Quad.get_set_ne {α : Type} (q : Quad α) {i j : Idx4} (a : α) (h : j ≠ i) :
    (q.set i a).get j = q.get j := by
  cases i <;> cases j <;> first | rfl | exact absurd rfl h

theorem Quad.get_set {α : Type} (q : Quad α) (i j : Idx4) (a : α) :
    (q.set i a).get j = if j = i then a else q.get j := by
  cases i <;> cases j <;> rfl

@[simp] theorem Quad.set_set {α : Type} (q : Quad α) (i : Idx4) (a b : α) : (q.set i a).set i b = q.set i b := by
  cases i <;> rfl

@[simp] theorem Quad.set_get {α : Type} (q : Quad α) (i : Idx4) : q.set i (q.get i) = q := by
  cases i <;> rfl

@[simp] theorem Quad.get_map {α β : Type} (f : α → β) (q : Quad α) (i : Idx4) : (q.map f).get i = f (q.get i) := by
  cases i <;> rfl

@[simp] theorem Quad.get_all4 {α : Type} (a : α) (i : Idx4) : (Quad.all4 a).get i = a := by
  cases i <;> rfl

theorem Quad.ext_get {α : Type} {p q : Quad α} (h : ∀ i, p.get i = q.get i) : p = q := by
  obtain ⟨a, b, c, d⟩ := p
  obtain ⟨a', b', c', d'⟩ := q
  have h1 : a = a' := h .i1
  have h2 : b = b' := h .i2
  have h3 : c = c' := h .i3
  have h4 : d = d' := h .i4
  simp [h1, h2, h3, h4]

theorem State.berth_eq (s : State) (i : Idx4) : s.berth i = s.berths.get i := rfl

theorem State.counter_eq (s : State) (i : Idx4) : s.counter i = s.counters.units.get i := rfl

/-- The fields after one berth is replaced. -/
@[simp] theorem State.setBerth_fields (i : Idx4) (b : Machine.Berth) (s : State) :
    (s.setBerth i b).run = s.run ∧
    (s.setBerth i b).gov = s.gov ∧
    (s.setBerth i b).update = s.update ∧
    (s.setBerth i b).track = s.track ∧
    (s.setBerth i b).supply = s.supply ∧
    (s.setBerth i b).roster = s.roster ∧
    (s.setBerth i b).scanner = s.scanner ∧
    (s.setBerth i b).counters = s.counters ∧
    (s.setBerth i b).watches = s.watches ∧
    (s.setBerth i b).line = s.line ∧
    (s.setBerth i b).phone = s.phone ∧
    (s.setBerth i b).desk = s.desk ∧
    (s.setBerth i b).pending = s.pending ∧
    (s.setBerth i b).berths = s.berths.set i b := by
  simp [State.setBerth]

/-- The fields after one counter is replaced. -/
@[simp] theorem State.setCounter_fields (i : Idx4) (c : Machine.Counter) (s : State) :
    (s.setCounter i c).run = s.run ∧
    (s.setCounter i c).gov = s.gov ∧
    (s.setCounter i c).update = s.update ∧
    (s.setCounter i c).track = s.track ∧
    (s.setCounter i c).berths = s.berths ∧
    (s.setCounter i c).supply = s.supply ∧
    (s.setCounter i c).roster = s.roster ∧
    (s.setCounter i c).scanner = s.scanner ∧
    (s.setCounter i c).watches = s.watches ∧
    (s.setCounter i c).line = s.line ∧
    (s.setCounter i c).phone = s.phone ∧
    (s.setCounter i c).desk = s.desk ∧
    (s.setCounter i c).pending = s.pending ∧
    (s.setCounter i c).counters = { s.counters with units := s.counters.units.set i c } := by
  simp [State.setCounter]

/-- The fields after one slot is replaced. -/
@[simp] theorem setSlot_fields (n : Nat) (x : Machine.Slot) (s : State) :
    (setSlot n x s).run = s.run ∧
    (setSlot n x s).gov = s.gov ∧
    (setSlot n x s).update = s.update ∧
    (setSlot n x s).track = s.track ∧
    (setSlot n x s).berths = s.berths ∧
    (setSlot n x s).supply = s.supply ∧
    (setSlot n x s).roster = s.roster ∧
    (setSlot n x s).counters = s.counters ∧
    (setSlot n x s).watches = s.watches ∧
    (setSlot n x s).line = s.line ∧
    (setSlot n x s).phone = s.phone ∧
    (setSlot n x s).desk = s.desk ∧
    (setSlot n x s).pending = s.pending ∧
    (setSlot n x s).scanner = { s.scanner with slots := s.scanner.slots.set (n - 1) x } := by
  simp [setSlot]

/-- The fields after the roster's records are replaced. -/
@[simp] theorem rosterWith_fields (rs : List RosterRec) (s : State) :
    (rosterWith rs s).run = s.run ∧
    (rosterWith rs s).gov = s.gov ∧
    (rosterWith rs s).update = s.update ∧
    (rosterWith rs s).track = s.track ∧
    (rosterWith rs s).berths = s.berths ∧
    (rosterWith rs s).supply = s.supply ∧
    (rosterWith rs s).scanner = s.scanner ∧
    (rosterWith rs s).counters = s.counters ∧
    (rosterWith rs s).watches = s.watches ∧
    (rosterWith rs s).line = s.line ∧
    (rosterWith rs s).phone = s.phone ∧
    (rosterWith rs s).desk = s.desk ∧
    (rosterWith rs s).pending = s.pending ∧
    (rosterWith rs s).roster = { s.roster with records := rs } := by
  simp [rosterWith]

/-- The fields after the desk link is changed. -/
@[simp] theorem State.withDesk_fields (f : Machine.Desk → Machine.Desk) (s : State) :
    (s.withDesk f).run = s.run ∧
    (s.withDesk f).gov = s.gov ∧
    (s.withDesk f).update = s.update ∧
    (s.withDesk f).track = s.track ∧
    (s.withDesk f).berths = s.berths ∧
    (s.withDesk f).supply = s.supply ∧
    (s.withDesk f).roster = s.roster ∧
    (s.withDesk f).scanner = s.scanner ∧
    (s.withDesk f).counters = s.counters ∧
    (s.withDesk f).watches = s.watches ∧
    (s.withDesk f).line = s.line ∧
    (s.withDesk f).phone = s.phone ∧
    (s.withDesk f).pending = s.pending ∧
    (s.withDesk f).desk = f s.desk := by
  simp [State.withDesk]

/-- The fields after a count of the desk link. -/
@[simp] theorem State.countDesk_fields (f : DeskCounts → DeskCounts) (s : State) :
    (s.countDesk f).run = s.run ∧
    (s.countDesk f).gov = s.gov ∧
    (s.countDesk f).update = s.update ∧
    (s.countDesk f).track = s.track ∧
    (s.countDesk f).berths = s.berths ∧
    (s.countDesk f).supply = s.supply ∧
    (s.countDesk f).roster = s.roster ∧
    (s.countDesk f).scanner = s.scanner ∧
    (s.countDesk f).counters = s.counters ∧
    (s.countDesk f).watches = s.watches ∧
    (s.countDesk f).line = s.line ∧
    (s.countDesk f).phone = s.phone ∧
    (s.countDesk f).pending = s.pending ∧
    (s.countDesk f).desk = { s.desk with counts := f s.desk.counts } := by
  simp [State.countDesk, State.withDesk]

/-- The fields after a count of the line controller. -/
@[simp] theorem countLine_fields (f : LineCounts → LineCounts) (s : State) :
    (countLine f s).run = s.run ∧
    (countLine f s).gov = s.gov ∧
    (countLine f s).update = s.update ∧
    (countLine f s).track = s.track ∧
    (countLine f s).berths = s.berths ∧
    (countLine f s).supply = s.supply ∧
    (countLine f s).roster = s.roster ∧
    (countLine f s).scanner = s.scanner ∧
    (countLine f s).counters = s.counters ∧
    (countLine f s).watches = s.watches ∧
    (countLine f s).phone = s.phone ∧
    (countLine f s).desk = s.desk ∧
    (countLine f s).pending = s.pending ∧
    (countLine f s).line = { s.line with counts := f s.line.counts } := by
  simp [countLine, Line.count]

/-- The fields after the receiver has changed its state. -/
@[simp] theorem receiverTo_fields (r : Machine.Receiver) (s : State) :
    (receiverTo r s).run = s.run ∧
    (receiverTo r s).gov = s.gov ∧
    (receiverTo r s).update = s.update ∧
    (receiverTo r s).track = s.track ∧
    (receiverTo r s).berths = s.berths ∧
    (receiverTo r s).supply = s.supply ∧
    (receiverTo r s).roster = s.roster ∧
    (receiverTo r s).scanner = s.scanner ∧
    (receiverTo r s).counters = s.counters ∧
    (receiverTo r s).watches = s.watches ∧
    (receiverTo r s).phone = s.phone ∧
    (receiverTo r s).desk = s.desk ∧
    (receiverTo r s).pending = s.pending ∧
    (receiverTo r s).line = { s.line with receiver := r, rxBits := [], rxOnes := 0 } := by
  simp [receiverTo, Line.receiverTo]

/-- The fields after the transmitter has gone to flags. -/
@[simp] theorem sendFlags_fields (s : State) :
    (sendFlags s).run = s.run ∧
    (sendFlags s).gov = s.gov ∧
    (sendFlags s).update = s.update ∧
    (sendFlags s).track = s.track ∧
    (sendFlags s).berths = s.berths ∧
    (sendFlags s).supply = s.supply ∧
    (sendFlags s).roster = s.roster ∧
    (sendFlags s).scanner = s.scanner ∧
    (sendFlags s).counters = s.counters ∧
    (sendFlags s).watches = s.watches ∧
    (sendFlags s).phone = s.phone ∧
    (sendFlags s).desk = s.desk ∧
    (sendFlags s).pending = s.pending ∧
    (sendFlags s).line = { s.line with transmit := .flags } := by
  simp [sendFlags]

/-- The fields after a reply is placed. -/
@[simp] theorem placeReply_fields (h : Bool) (r : Reply) (s : State) :
    (placeReply h r s).run = s.run ∧
    (placeReply h r s).gov = s.gov ∧
    (placeReply h r s).update = s.update ∧
    (placeReply h r s).track = s.track ∧
    (placeReply h r s).berths = s.berths ∧
    (placeReply h r s).supply = s.supply ∧
    (placeReply h r s).roster = s.roster ∧
    (placeReply h r s).scanner = s.scanner ∧
    (placeReply h r s).counters = s.counters ∧
    (placeReply h r s).watches = s.watches ∧
    (placeReply h r s).line = s.line ∧
    (placeReply h r s).phone = s.phone ∧
    (placeReply h r s).pending = s.pending ∧
    (placeReply h r s).desk = { s.desk with replies := if h then r :: s.desk.replies else s.desk.replies ++ [r] } := by
  simp [placeReply, State.withDesk]

/-- The fields after a motion request is withdrawn. -/
@[simp] theorem withdrawRequest_fields (i : Idx4) (s : State) :
    (withdrawRequest i s).run = s.run ∧
    (withdrawRequest i s).gov = s.gov ∧
    (withdrawRequest i s).update = s.update ∧
    (withdrawRequest i s).track = s.track ∧
    (withdrawRequest i s).berths = s.berths ∧
    (withdrawRequest i s).roster = s.roster ∧
    (withdrawRequest i s).scanner = s.scanner ∧
    (withdrawRequest i s).counters = s.counters ∧
    (withdrawRequest i s).watches = s.watches ∧
    (withdrawRequest i s).line = s.line ∧
    (withdrawRequest i s).phone = s.phone ∧
    (withdrawRequest i s).desk = s.desk ∧
    (withdrawRequest i s).pending = s.pending ∧
    (withdrawRequest i s).supply = { s.supply with wait := withdraw i s.supply.wait } := by
  simp [withdrawRequest]

/-- The fields after an input is discarded. -/
@[simp] theorem discardInput_fields (s : State) :
    (discardInput s).run = s.run ∧
    (discardInput s).gov = s.gov ∧
    (discardInput s).update = s.update ∧
    (discardInput s).berths = s.berths ∧
    (discardInput s).supply = s.supply ∧
    (discardInput s).roster = s.roster ∧
    (discardInput s).scanner = s.scanner ∧
    (discardInput s).counters = s.counters ∧
    (discardInput s).watches = s.watches ∧
    (discardInput s).line = s.line ∧
    (discardInput s).phone = s.phone ∧
    (discardInput s).desk = s.desk ∧
    (discardInput s).pending = s.pending ∧
    (discardInput s).track = { s.track with discarded := satInc s.track.discarded } := by
  simp [discardInput]

/-- The fields after the buffer's tail is replaced. -/
@[simp] theorem setTail_fields (r : CarrierRec) (s : State) :
    (setTail r s).run = s.run ∧
    (setTail r s).gov = s.gov ∧
    (setTail r s).update = s.update ∧
    (setTail r s).berths = s.berths ∧
    (setTail r s).supply = s.supply ∧
    (setTail r s).roster = s.roster ∧
    (setTail r s).scanner = s.scanner ∧
    (setTail r s).counters = s.counters ∧
    (setTail r s).watches = s.watches ∧
    (setTail r s).line = s.line ∧
    (setTail r s).phone = s.phone ∧
    (setTail r s).desk = s.desk ∧
    (setTail r s).pending = s.pending ∧
    (setTail r s).track = { s.track with buffer := s.track.buffer.dropLast ++ [r] } := by
  simp [setTail]

end Sys2Proof.Machine
end

