-- ==== Sys2Proof/Laws/Keeps.lean ====
section
/-! SUPPORT. What each shared operation leaves as it was: one simp lemma an operation, a conjunction over the fields it
keeps, so that no later proof unfolds the operation for them. -/

namespace Sys2Proof.Machine

/-- A report lost moves only the report queue's own counts (R190). -/
@[simp] theorem loseReport_keeps (r : Report) (s : State) :
    (loseReport r s).run = s.run ∧
    (loseReport r s).gov = s.gov ∧
    (loseReport r s).update = s.update ∧
    (loseReport r s).track = s.track ∧
    (loseReport r s).berths = s.berths ∧
    (loseReport r s).supply = s.supply ∧
    (loseReport r s).roster = s.roster ∧
    (loseReport r s).scanner = s.scanner ∧
    (loseReport r s).counters = s.counters ∧
    (loseReport r s).watches = s.watches ∧
    (loseReport r s).phone = s.phone ∧
    (loseReport r s).pending = s.pending ∧
    (loseReport r s).desk.receiver = s.desk.receiver ∧
    (loseReport r s).desk.inbox = s.desk.inbox ∧
    (loseReport r s).desk.replies = s.desk.replies ∧
    (loseReport r s).desk.transmit = s.desk.transmit ∧
    (loseReport r s).desk.restart = s.desk.restart ∧
    (loseReport r s).line.receiver = s.line.receiver ∧
    (loseReport r s).line.rxBits = s.line.rxBits ∧
    (loseReport r s).line.rxOnes = s.line.rxOnes ∧
    (loseReport r s).line.flagTimer = s.line.flagTimer ∧
    (loseReport r s).line.transmit = s.line.transmit ∧
    (loseReport r s).line.safety = s.line.safety ∧
    (loseReport r s).line.voice = s.line.voice ∧
    (loseReport r s).line.control = s.line.control ∧
    (loseReport r s).line.bulk = s.line.bulk ∧
    (loseReport r s).line.overflow = s.line.overflow ∧
    (loseReport r s).line.beatNumber = s.line.beatNumber ∧
    (loseReport r s).line.beatTimer = s.line.beatTimer ∧
    (loseReport r s).line.stopClass = s.line.stopClass ∧
    (loseReport r s).line.heard = s.line.heard ∧
    (loseReport r s).line.lastBeat = s.line.lastBeat ∧
    (loseReport r s).line.miss = s.line.miss ∧
    (loseReport r s).line.supervision = s.line.supervision ∧
    (loseReport r s).line.contents = s.line.contents ∧
    (loseReport r s).line.inbox = s.line.inbox ∧
    (loseReport r s).line.noticeOffered = s.line.noticeOffered ∧
    (loseReport r s).line.counts = s.line.counts := by
  unfold loseReport
  (repeat' split) <;> simp

/-- A report offered moves only the report queue, and what it says of a Notice (R190). -/
@[simp] theorem queueReport_keeps (r : Report) (s : State) :
    (queueReport r s).run = s.run ∧
    (queueReport r s).gov = s.gov ∧
    (queueReport r s).update = s.update ∧
    (queueReport r s).track = s.track ∧
    (queueReport r s).berths = s.berths ∧
    (queueReport r s).supply = s.supply ∧
    (queueReport r s).roster = s.roster ∧
    (queueReport r s).scanner = s.scanner ∧
    (queueReport r s).counters = s.counters ∧
    (queueReport r s).watches = s.watches ∧
    (queueReport r s).phone = s.phone ∧
    (queueReport r s).pending = s.pending ∧
    (queueReport r s).desk.receiver = s.desk.receiver ∧
    (queueReport r s).desk.inbox = s.desk.inbox ∧
    (queueReport r s).desk.replies = s.desk.replies ∧
    (queueReport r s).desk.transmit = s.desk.transmit ∧
    (queueReport r s).desk.restart = s.desk.restart ∧
    (queueReport r s).line.receiver = s.line.receiver ∧
    (queueReport r s).line.rxBits = s.line.rxBits ∧
    (queueReport r s).line.rxOnes = s.line.rxOnes ∧
    (queueReport r s).line.flagTimer = s.line.flagTimer ∧
    (queueReport r s).line.transmit = s.line.transmit ∧
    (queueReport r s).line.safety = s.line.safety ∧
    (queueReport r s).line.voice = s.line.voice ∧
    (queueReport r s).line.control = s.line.control ∧
    (queueReport r s).line.bulk = s.line.bulk ∧
    (queueReport r s).line.overflow = s.line.overflow ∧
    (queueReport r s).line.beatNumber = s.line.beatNumber ∧
    (queueReport r s).line.beatTimer = s.line.beatTimer ∧
    (queueReport r s).line.stopClass = s.line.stopClass ∧
    (queueReport r s).line.heard = s.line.heard ∧
    (queueReport r s).line.lastBeat = s.line.lastBeat ∧
    (queueReport r s).line.miss = s.line.miss ∧
    (queueReport r s).line.supervision = s.line.supervision ∧
    (queueReport r s).line.contents = s.line.contents ∧
    (queueReport r s).line.inbox = s.line.inbox ∧
    (queueReport r s).line.noticeOffered = s.line.noticeOffered ∧
    (queueReport r s).line.counts = s.line.counts := by
  unfold queueReport
  (repeat' split) <;> simp

/-- An offered change moves only the report queue and the class latch (R191). -/
@[simp] theorem offerGovernor_keeps (s : State) :
    (offerGovernor s).run = s.run ∧
    (offerGovernor s).gov = s.gov ∧
    (offerGovernor s).update = s.update ∧
    (offerGovernor s).track = s.track ∧
    (offerGovernor s).berths = s.berths ∧
    (offerGovernor s).supply = s.supply ∧
    (offerGovernor s).roster = s.roster ∧
    (offerGovernor s).scanner = s.scanner ∧
    (offerGovernor s).counters = s.counters ∧
    (offerGovernor s).watches = s.watches ∧
    (offerGovernor s).phone = s.phone ∧
    (offerGovernor s).pending = s.pending ∧
    (offerGovernor s).desk.receiver = s.desk.receiver ∧
    (offerGovernor s).desk.inbox = s.desk.inbox ∧
    (offerGovernor s).desk.replies = s.desk.replies ∧
    (offerGovernor s).desk.transmit = s.desk.transmit ∧
    (offerGovernor s).desk.restart = s.desk.restart ∧
    (offerGovernor s).line.receiver = s.line.receiver ∧
    (offerGovernor s).line.rxBits = s.line.rxBits ∧
    (offerGovernor s).line.rxOnes = s.line.rxOnes ∧
    (offerGovernor s).line.flagTimer = s.line.flagTimer ∧
    (offerGovernor s).line.transmit = s.line.transmit ∧
    (offerGovernor s).line.safety = s.line.safety ∧
    (offerGovernor s).line.voice = s.line.voice ∧
    (offerGovernor s).line.control = s.line.control ∧
    (offerGovernor s).line.bulk = s.line.bulk ∧
    (offerGovernor s).line.overflow = s.line.overflow ∧
    (offerGovernor s).line.beatNumber = s.line.beatNumber ∧
    (offerGovernor s).line.beatTimer = s.line.beatTimer ∧
    (offerGovernor s).line.stopClass = s.line.stopClass ∧
    (offerGovernor s).line.heard = s.line.heard ∧
    (offerGovernor s).line.lastBeat = s.line.lastBeat ∧
    (offerGovernor s).line.miss = s.line.miss ∧
    (offerGovernor s).line.supervision = s.line.supervision ∧
    (offerGovernor s).line.contents = s.line.contents ∧
    (offerGovernor s).line.inbox = s.line.inbox ∧
    (offerGovernor s).line.noticeOffered = s.line.noticeOffered ∧
    (offerGovernor s).line.counts = s.line.counts := by
  unfold offerGovernor
  (repeat' split) <;> simp

/-- An offered change moves only the report queue and the class latch (R191). -/
@[simp] theorem offerTower_keeps (s : State) :
    (offerTower s).run = s.run ∧
    (offerTower s).gov = s.gov ∧
    (offerTower s).update = s.update ∧
    (offerTower s).track = s.track ∧
    (offerTower s).berths = s.berths ∧
    (offerTower s).supply = s.supply ∧
    (offerTower s).roster = s.roster ∧
    (offerTower s).scanner = s.scanner ∧
    (offerTower s).counters = s.counters ∧
    (offerTower s).watches = s.watches ∧
    (offerTower s).phone = s.phone ∧
    (offerTower s).pending = s.pending ∧
    (offerTower s).desk.receiver = s.desk.receiver ∧
    (offerTower s).desk.inbox = s.desk.inbox ∧
    (offerTower s).desk.replies = s.desk.replies ∧
    (offerTower s).desk.transmit = s.desk.transmit ∧
    (offerTower s).desk.restart = s.desk.restart ∧
    (offerTower s).line.receiver = s.line.receiver ∧
    (offerTower s).line.rxBits = s.line.rxBits ∧
    (offerTower s).line.rxOnes = s.line.rxOnes ∧
    (offerTower s).line.flagTimer = s.line.flagTimer ∧
    (offerTower s).line.transmit = s.line.transmit ∧
    (offerTower s).line.safety = s.line.safety ∧
    (offerTower s).line.voice = s.line.voice ∧
    (offerTower s).line.control = s.line.control ∧
    (offerTower s).line.bulk = s.line.bulk ∧
    (offerTower s).line.overflow = s.line.overflow ∧
    (offerTower s).line.beatNumber = s.line.beatNumber ∧
    (offerTower s).line.beatTimer = s.line.beatTimer ∧
    (offerTower s).line.stopClass = s.line.stopClass ∧
    (offerTower s).line.heard = s.line.heard ∧
    (offerTower s).line.lastBeat = s.line.lastBeat ∧
    (offerTower s).line.miss = s.line.miss ∧
    (offerTower s).line.supervision = s.line.supervision ∧
    (offerTower s).line.contents = s.line.contents ∧
    (offerTower s).line.inbox = s.line.inbox ∧
    (offerTower s).line.noticeOffered = s.line.noticeOffered ∧
    (offerTower s).line.counts = s.line.counts := by
  unfold offerTower
  (repeat' split) <;> simp

/-- An offered change moves only the report queue and the class latch (R191). -/
@[simp] theorem offerLine_keeps (s : State) :
    (offerLine s).run = s.run ∧
    (offerLine s).gov = s.gov ∧
    (offerLine s).update = s.update ∧
    (offerLine s).track = s.track ∧
    (offerLine s).berths = s.berths ∧
    (offerLine s).supply = s.supply ∧
    (offerLine s).roster = s.roster ∧
    (offerLine s).scanner = s.scanner ∧
    (offerLine s).counters = s.counters ∧
    (offerLine s).watches = s.watches ∧
    (offerLine s).phone = s.phone ∧
    (offerLine s).pending = s.pending ∧
    (offerLine s).desk.receiver = s.desk.receiver ∧
    (offerLine s).desk.inbox = s.desk.inbox ∧
    (offerLine s).desk.replies = s.desk.replies ∧
    (offerLine s).desk.transmit = s.desk.transmit ∧
    (offerLine s).desk.restart = s.desk.restart ∧
    (offerLine s).line.receiver = s.line.receiver ∧
    (offerLine s).line.rxBits = s.line.rxBits ∧
    (offerLine s).line.rxOnes = s.line.rxOnes ∧
    (offerLine s).line.flagTimer = s.line.flagTimer ∧
    (offerLine s).line.transmit = s.line.transmit ∧
    (offerLine s).line.safety = s.line.safety ∧
    (offerLine s).line.voice = s.line.voice ∧
    (offerLine s).line.control = s.line.control ∧
    (offerLine s).line.bulk = s.line.bulk ∧
    (offerLine s).line.overflow = s.line.overflow ∧
    (offerLine s).line.beatNumber = s.line.beatNumber ∧
    (offerLine s).line.beatTimer = s.line.beatTimer ∧
    (offerLine s).line.stopClass = s.line.stopClass ∧
    (offerLine s).line.heard = s.line.heard ∧
    (offerLine s).line.lastBeat = s.line.lastBeat ∧
    (offerLine s).line.miss = s.line.miss ∧
    (offerLine s).line.supervision = s.line.supervision ∧
    (offerLine s).line.contents = s.line.contents ∧
    (offerLine s).line.inbox = s.line.inbox ∧
    (offerLine s).line.noticeOffered = s.line.noticeOffered ∧
    (offerLine s).line.counts = s.line.counts := by
  unfold offerLine
  (repeat' split) <;> simp

/-- An offered change moves only the report queue and the class latch (R191). -/
@[simp] theorem offerBerth_keeps (s : State) :
    (offerBerth s).run = s.run ∧
    (offerBerth s).gov = s.gov ∧
    (offerBerth s).update = s.update ∧
    (offerBerth s).track = s.track ∧
    (offerBerth s).berths = s.berths ∧
    (offerBerth s).supply = s.supply ∧
    (offerBerth s).roster = s.roster ∧
    (offerBerth s).scanner = s.scanner ∧
    (offerBerth s).counters = s.counters ∧
    (offerBerth s).watches = s.watches ∧
    (offerBerth s).phone = s.phone ∧
    (offerBerth s).pending = s.pending ∧
    (offerBerth s).desk.receiver = s.desk.receiver ∧
    (offerBerth s).desk.inbox = s.desk.inbox ∧
    (offerBerth s).desk.replies = s.desk.replies ∧
    (offerBerth s).desk.transmit = s.desk.transmit ∧
    (offerBerth s).desk.restart = s.desk.restart ∧
    (offerBerth s).line.receiver = s.line.receiver ∧
    (offerBerth s).line.rxBits = s.line.rxBits ∧
    (offerBerth s).line.rxOnes = s.line.rxOnes ∧
    (offerBerth s).line.flagTimer = s.line.flagTimer ∧
    (offerBerth s).line.transmit = s.line.transmit ∧
    (offerBerth s).line.safety = s.line.safety ∧
    (offerBerth s).line.voice = s.line.voice ∧
    (offerBerth s).line.control = s.line.control ∧
    (offerBerth s).line.bulk = s.line.bulk ∧
    (offerBerth s).line.overflow = s.line.overflow ∧
    (offerBerth s).line.beatNumber = s.line.beatNumber ∧
    (offerBerth s).line.beatTimer = s.line.beatTimer ∧
    (offerBerth s).line.stopClass = s.line.stopClass ∧
    (offerBerth s).line.heard = s.line.heard ∧
    (offerBerth s).line.lastBeat = s.line.lastBeat ∧
    (offerBerth s).line.miss = s.line.miss ∧
    (offerBerth s).line.supervision = s.line.supervision ∧
    (offerBerth s).line.contents = s.line.contents ∧
    (offerBerth s).line.inbox = s.line.inbox ∧
    (offerBerth s).line.noticeOffered = s.line.noticeOffered ∧
    (offerBerth s).line.counts = s.line.counts := by
  unfold offerBerth
  (repeat' split) <;> simp

/-- A ceiling update changes the governor alone (R28). -/
@[simp] theorem updateCeilings_keeps (g : Machine.Governor) (s : State) :
    (updateCeilings g s).run = s.run ∧
    (updateCeilings g s).update = s.update ∧
    (updateCeilings g s).track = s.track ∧
    (updateCeilings g s).berths = s.berths ∧
    (updateCeilings g s).supply = s.supply ∧
    (updateCeilings g s).roster = s.roster ∧
    (updateCeilings g s).scanner = s.scanner ∧
    (updateCeilings g s).counters = s.counters ∧
    (updateCeilings g s).watches = s.watches ∧
    (updateCeilings g s).phone = s.phone ∧
    (updateCeilings g s).pending = s.pending ∧
    (updateCeilings g s).desk.receiver = s.desk.receiver ∧
    (updateCeilings g s).desk.inbox = s.desk.inbox ∧
    (updateCeilings g s).desk.replies = s.desk.replies ∧
    (updateCeilings g s).desk.transmit = s.desk.transmit ∧
    (updateCeilings g s).desk.restart = s.desk.restart ∧
    (updateCeilings g s).line.receiver = s.line.receiver ∧
    (updateCeilings g s).line.rxBits = s.line.rxBits ∧
    (updateCeilings g s).line.rxOnes = s.line.rxOnes ∧
    (updateCeilings g s).line.flagTimer = s.line.flagTimer ∧
    (updateCeilings g s).line.transmit = s.line.transmit ∧
    (updateCeilings g s).line.safety = s.line.safety ∧
    (updateCeilings g s).line.voice = s.line.voice ∧
    (updateCeilings g s).line.control = s.line.control ∧
    (updateCeilings g s).line.bulk = s.line.bulk ∧
    (updateCeilings g s).line.overflow = s.line.overflow ∧
    (updateCeilings g s).line.beatNumber = s.line.beatNumber ∧
    (updateCeilings g s).line.beatTimer = s.line.beatTimer ∧
    (updateCeilings g s).line.stopClass = s.line.stopClass ∧
    (updateCeilings g s).line.heard = s.line.heard ∧
    (updateCeilings g s).line.lastBeat = s.line.lastBeat ∧
    (updateCeilings g s).line.miss = s.line.miss ∧
    (updateCeilings g s).line.supervision = s.line.supervision ∧
    (updateCeilings g s).line.contents = s.line.contents ∧
    (updateCeilings g s).line.inbox = s.line.inbox ∧
    (updateCeilings g s).line.noticeOffered = s.line.noticeOffered ∧
    (updateCeilings g s).line.counts = s.line.counts := by
  unfold updateCeilings
  (repeat' split) <;> simp

/-- An owner's ceiling changes the governor alone (R28). -/
@[simp] theorem setCeiling_keeps (c : Ceiling) (on : Bool) (s : State) :
    (setCeiling c on s).run = s.run ∧
    (setCeiling c on s).update = s.update ∧
    (setCeiling c on s).track = s.track ∧
    (setCeiling c on s).berths = s.berths ∧
    (setCeiling c on s).supply = s.supply ∧
    (setCeiling c on s).roster = s.roster ∧
    (setCeiling c on s).scanner = s.scanner ∧
    (setCeiling c on s).counters = s.counters ∧
    (setCeiling c on s).watches = s.watches ∧
    (setCeiling c on s).phone = s.phone ∧
    (setCeiling c on s).pending = s.pending ∧
    (setCeiling c on s).desk.receiver = s.desk.receiver ∧
    (setCeiling c on s).desk.inbox = s.desk.inbox ∧
    (setCeiling c on s).desk.replies = s.desk.replies ∧
    (setCeiling c on s).desk.transmit = s.desk.transmit ∧
    (setCeiling c on s).desk.restart = s.desk.restart ∧
    (setCeiling c on s).line.receiver = s.line.receiver ∧
    (setCeiling c on s).line.rxBits = s.line.rxBits ∧
    (setCeiling c on s).line.rxOnes = s.line.rxOnes ∧
    (setCeiling c on s).line.flagTimer = s.line.flagTimer ∧
    (setCeiling c on s).line.transmit = s.line.transmit ∧
    (setCeiling c on s).line.safety = s.line.safety ∧
    (setCeiling c on s).line.voice = s.line.voice ∧
    (setCeiling c on s).line.control = s.line.control ∧
    (setCeiling c on s).line.bulk = s.line.bulk ∧
    (setCeiling c on s).line.overflow = s.line.overflow ∧
    (setCeiling c on s).line.beatNumber = s.line.beatNumber ∧
    (setCeiling c on s).line.beatTimer = s.line.beatTimer ∧
    (setCeiling c on s).line.stopClass = s.line.stopClass ∧
    (setCeiling c on s).line.heard = s.line.heard ∧
    (setCeiling c on s).line.lastBeat = s.line.lastBeat ∧
    (setCeiling c on s).line.miss = s.line.miss ∧
    (setCeiling c on s).line.supervision = s.line.supervision ∧
    (setCeiling c on s).line.contents = s.line.contents ∧
    (setCeiling c on s).line.inbox = s.line.inbox ∧
    (setCeiling c on s).line.noticeOffered = s.line.noticeOffered ∧
    (setCeiling c on s).line.counts = s.line.counts := by
  unfold setCeiling
  simp

/-- A beat offered changes the Safety queue and the transmitter alone (R162, R164). -/
@[simp] theorem offerBeat_keeps (s : State) :
    (offerBeat s).run = s.run ∧
    (offerBeat s).gov = s.gov ∧
    (offerBeat s).update = s.update ∧
    (offerBeat s).track = s.track ∧
    (offerBeat s).berths = s.berths ∧
    (offerBeat s).supply = s.supply ∧
    (offerBeat s).roster = s.roster ∧
    (offerBeat s).scanner = s.scanner ∧
    (offerBeat s).counters = s.counters ∧
    (offerBeat s).watches = s.watches ∧
    (offerBeat s).phone = s.phone ∧
    (offerBeat s).desk = s.desk ∧
    (offerBeat s).pending = s.pending ∧
    (offerBeat s).line.receiver = s.line.receiver ∧
    (offerBeat s).line.rxBits = s.line.rxBits ∧
    (offerBeat s).line.rxOnes = s.line.rxOnes ∧
    (offerBeat s).line.flagTimer = s.line.flagTimer ∧
    (offerBeat s).line.voice = s.line.voice ∧
    (offerBeat s).line.control = s.line.control ∧
    (offerBeat s).line.bulk = s.line.bulk ∧
    (offerBeat s).line.overflow = s.line.overflow ∧
    (offerBeat s).line.beatNumber = s.line.beatNumber ∧
    (offerBeat s).line.beatTimer = s.line.beatTimer ∧
    (offerBeat s).line.stopClass = s.line.stopClass ∧
    (offerBeat s).line.heard = s.line.heard ∧
    (offerBeat s).line.lastBeat = s.line.lastBeat ∧
    (offerBeat s).line.miss = s.line.miss ∧
    (offerBeat s).line.supervision = s.line.supervision ∧
    (offerBeat s).line.contents = s.line.contents ∧
    (offerBeat s).line.inbox = s.line.inbox ∧
    (offerBeat s).line.noticeOffered = s.line.noticeOffered ∧
    (offerBeat s).line.noticeTaken = s.line.noticeTaken ∧
    (offerBeat s).line.counts = s.line.counts := by
  unfold offerBeat
  simp

/-- The class given changes the line controller alone (R18, R166). -/
@[simp] theorem giveClass_keeps (s : State) :
    (giveClass s).run = s.run ∧
    (giveClass s).gov = s.gov ∧
    (giveClass s).update = s.update ∧
    (giveClass s).track = s.track ∧
    (giveClass s).berths = s.berths ∧
    (giveClass s).supply = s.supply ∧
    (giveClass s).roster = s.roster ∧
    (giveClass s).scanner = s.scanner ∧
    (giveClass s).counters = s.counters ∧
    (giveClass s).watches = s.watches ∧
    (giveClass s).phone = s.phone ∧
    (giveClass s).desk = s.desk ∧
    (giveClass s).pending = s.pending ∧
    (giveClass s).line.receiver = s.line.receiver ∧
    (giveClass s).line.rxBits = s.line.rxBits ∧
    (giveClass s).line.rxOnes = s.line.rxOnes ∧
    (giveClass s).line.flagTimer = s.line.flagTimer ∧
    (giveClass s).line.voice = s.line.voice ∧
    (giveClass s).line.control = s.line.control ∧
    (giveClass s).line.bulk = s.line.bulk ∧
    (giveClass s).line.overflow = s.line.overflow ∧
    (giveClass s).line.beatNumber = s.line.beatNumber ∧
    (giveClass s).line.beatTimer = s.line.beatTimer ∧
    (giveClass s).line.heard = s.line.heard ∧
    (giveClass s).line.lastBeat = s.line.lastBeat ∧
    (giveClass s).line.miss = s.line.miss ∧
    (giveClass s).line.supervision = s.line.supervision ∧
    (giveClass s).line.contents = s.line.contents ∧
    (giveClass s).line.inbox = s.line.inbox ∧
    (giveClass s).line.noticeOffered = s.line.noticeOffered ∧
    (giveClass s).line.noticeTaken = s.line.noticeTaken ∧
    (giveClass s).line.counts = s.line.counts := by
  unfold giveClass
  (repeat' split) <;> simp

/-- A Control frame offered changes its queue alone (R162). -/
@[simp] theorem offerControl_keeps (f : ControlFrame) (s : State) :
    (offerControl f s).run = s.run ∧
    (offerControl f s).gov = s.gov ∧
    (offerControl f s).update = s.update ∧
    (offerControl f s).track = s.track ∧
    (offerControl f s).berths = s.berths ∧
    (offerControl f s).supply = s.supply ∧
    (offerControl f s).roster = s.roster ∧
    (offerControl f s).scanner = s.scanner ∧
    (offerControl f s).counters = s.counters ∧
    (offerControl f s).watches = s.watches ∧
    (offerControl f s).phone = s.phone ∧
    (offerControl f s).pending = s.pending ∧
    (offerControl f s).desk.receiver = s.desk.receiver ∧
    (offerControl f s).desk.inbox = s.desk.inbox ∧
    (offerControl f s).desk.replies = s.desk.replies ∧
    (offerControl f s).desk.transmit = s.desk.transmit ∧
    (offerControl f s).desk.restart = s.desk.restart ∧
    (offerControl f s).line.receiver = s.line.receiver ∧
    (offerControl f s).line.rxBits = s.line.rxBits ∧
    (offerControl f s).line.rxOnes = s.line.rxOnes ∧
    (offerControl f s).line.flagTimer = s.line.flagTimer ∧
    (offerControl f s).line.transmit = s.line.transmit ∧
    (offerControl f s).line.safety = s.line.safety ∧
    (offerControl f s).line.voice = s.line.voice ∧
    (offerControl f s).line.bulk = s.line.bulk ∧
    (offerControl f s).line.beatNumber = s.line.beatNumber ∧
    (offerControl f s).line.beatTimer = s.line.beatTimer ∧
    (offerControl f s).line.stopClass = s.line.stopClass ∧
    (offerControl f s).line.heard = s.line.heard ∧
    (offerControl f s).line.lastBeat = s.line.lastBeat ∧
    (offerControl f s).line.miss = s.line.miss ∧
    (offerControl f s).line.supervision = s.line.supervision ∧
    (offerControl f s).line.contents = s.line.contents ∧
    (offerControl f s).line.inbox = s.line.inbox ∧
    (offerControl f s).line.noticeOffered = s.line.noticeOffered := by
  unfold offerControl
  (repeat' split) <;> simp

/-- A Voice frame offered changes its queue alone (R162). -/
@[simp] theorem offerVoice_keeps (f : VoiceFrame) (s : State) :
    (offerVoice f s).run = s.run ∧
    (offerVoice f s).gov = s.gov ∧
    (offerVoice f s).update = s.update ∧
    (offerVoice f s).track = s.track ∧
    (offerVoice f s).berths = s.berths ∧
    (offerVoice f s).supply = s.supply ∧
    (offerVoice f s).roster = s.roster ∧
    (offerVoice f s).scanner = s.scanner ∧
    (offerVoice f s).counters = s.counters ∧
    (offerVoice f s).watches = s.watches ∧
    (offerVoice f s).phone = s.phone ∧
    (offerVoice f s).desk = s.desk ∧
    (offerVoice f s).pending = s.pending ∧
    (offerVoice f s).line.receiver = s.line.receiver ∧
    (offerVoice f s).line.rxBits = s.line.rxBits ∧
    (offerVoice f s).line.rxOnes = s.line.rxOnes ∧
    (offerVoice f s).line.flagTimer = s.line.flagTimer ∧
    (offerVoice f s).line.transmit = s.line.transmit ∧
    (offerVoice f s).line.safety = s.line.safety ∧
    (offerVoice f s).line.control = s.line.control ∧
    (offerVoice f s).line.bulk = s.line.bulk ∧
    (offerVoice f s).line.overflow = s.line.overflow ∧
    (offerVoice f s).line.beatNumber = s.line.beatNumber ∧
    (offerVoice f s).line.beatTimer = s.line.beatTimer ∧
    (offerVoice f s).line.stopClass = s.line.stopClass ∧
    (offerVoice f s).line.heard = s.line.heard ∧
    (offerVoice f s).line.lastBeat = s.line.lastBeat ∧
    (offerVoice f s).line.miss = s.line.miss ∧
    (offerVoice f s).line.supervision = s.line.supervision ∧
    (offerVoice f s).line.contents = s.line.contents ∧
    (offerVoice f s).line.inbox = s.line.inbox ∧
    (offerVoice f s).line.noticeOffered = s.line.noticeOffered ∧
    (offerVoice f s).line.noticeTaken = s.line.noticeTaken := by
  unfold offerVoice
  (repeat' split) <;> simp

/-- A berth changed moves no other block (R103). -/
@[simp] theorem changeBerth_keeps (i : Idx4) (b : Machine.Berth) (s : State) :
    (changeBerth i b s).run = s.run ∧
    (changeBerth i b s).gov = s.gov ∧
    (changeBerth i b s).update = s.update ∧
    (changeBerth i b s).track = s.track ∧
    (changeBerth i b s).supply = s.supply ∧
    (changeBerth i b s).roster = s.roster ∧
    (changeBerth i b s).scanner = s.scanner ∧
    (changeBerth i b s).counters = s.counters ∧
    (changeBerth i b s).watches = s.watches ∧
    (changeBerth i b s).phone = s.phone ∧
    (changeBerth i b s).pending = s.pending ∧
    (changeBerth i b s).desk.receiver = s.desk.receiver ∧
    (changeBerth i b s).desk.inbox = s.desk.inbox ∧
    (changeBerth i b s).desk.replies = s.desk.replies ∧
    (changeBerth i b s).desk.transmit = s.desk.transmit ∧
    (changeBerth i b s).desk.restart = s.desk.restart ∧
    (changeBerth i b s).line.receiver = s.line.receiver ∧
    (changeBerth i b s).line.rxBits = s.line.rxBits ∧
    (changeBerth i b s).line.rxOnes = s.line.rxOnes ∧
    (changeBerth i b s).line.flagTimer = s.line.flagTimer ∧
    (changeBerth i b s).line.transmit = s.line.transmit ∧
    (changeBerth i b s).line.safety = s.line.safety ∧
    (changeBerth i b s).line.voice = s.line.voice ∧
    (changeBerth i b s).line.control = s.line.control ∧
    (changeBerth i b s).line.bulk = s.line.bulk ∧
    (changeBerth i b s).line.overflow = s.line.overflow ∧
    (changeBerth i b s).line.beatNumber = s.line.beatNumber ∧
    (changeBerth i b s).line.beatTimer = s.line.beatTimer ∧
    (changeBerth i b s).line.stopClass = s.line.stopClass ∧
    (changeBerth i b s).line.heard = s.line.heard ∧
    (changeBerth i b s).line.lastBeat = s.line.lastBeat ∧
    (changeBerth i b s).line.miss = s.line.miss ∧
    (changeBerth i b s).line.supervision = s.line.supervision ∧
    (changeBerth i b s).line.contents = s.line.contents ∧
    (changeBerth i b s).line.inbox = s.line.inbox ∧
    (changeBerth i b s).line.noticeOffered = s.line.noticeOffered ∧
    (changeBerth i b s).line.counts = s.line.counts := by
  unfold changeBerth
  simp

/-- The four berths replaced in one event move no other block (R103). -/
@[simp] theorem changeBerths_keeps (q : Quad Machine.Berth) (s : State) :
    (changeBerths q s).run = s.run ∧
    (changeBerths q s).gov = s.gov ∧
    (changeBerths q s).update = s.update ∧
    (changeBerths q s).track = s.track ∧
    (changeBerths q s).supply = s.supply ∧
    (changeBerths q s).roster = s.roster ∧
    (changeBerths q s).scanner = s.scanner ∧
    (changeBerths q s).counters = s.counters ∧
    (changeBerths q s).watches = s.watches ∧
    (changeBerths q s).phone = s.phone ∧
    (changeBerths q s).pending = s.pending ∧
    (changeBerths q s).desk.receiver = s.desk.receiver ∧
    (changeBerths q s).desk.inbox = s.desk.inbox ∧
    (changeBerths q s).desk.replies = s.desk.replies ∧
    (changeBerths q s).desk.transmit = s.desk.transmit ∧
    (changeBerths q s).desk.restart = s.desk.restart ∧
    (changeBerths q s).line.receiver = s.line.receiver ∧
    (changeBerths q s).line.rxBits = s.line.rxBits ∧
    (changeBerths q s).line.rxOnes = s.line.rxOnes ∧
    (changeBerths q s).line.flagTimer = s.line.flagTimer ∧
    (changeBerths q s).line.transmit = s.line.transmit ∧
    (changeBerths q s).line.safety = s.line.safety ∧
    (changeBerths q s).line.voice = s.line.voice ∧
    (changeBerths q s).line.control = s.line.control ∧
    (changeBerths q s).line.bulk = s.line.bulk ∧
    (changeBerths q s).line.overflow = s.line.overflow ∧
    (changeBerths q s).line.beatNumber = s.line.beatNumber ∧
    (changeBerths q s).line.beatTimer = s.line.beatTimer ∧
    (changeBerths q s).line.stopClass = s.line.stopClass ∧
    (changeBerths q s).line.heard = s.line.heard ∧
    (changeBerths q s).line.lastBeat = s.line.lastBeat ∧
    (changeBerths q s).line.miss = s.line.miss ∧
    (changeBerths q s).line.supervision = s.line.supervision ∧
    (changeBerths q s).line.contents = s.line.contents ∧
    (changeBerths q s).line.inbox = s.line.inbox ∧
    (changeBerths q s).line.noticeOffered = s.line.noticeOffered ∧
    (changeBerths q s).line.counts = s.line.counts := by
  unfold changeBerths
  split <;> simp

/-- The berths after they are replaced in one event (R103). -/
@[simp] theorem changeBerths_berths (q : Quad Machine.Berth) (s : State) : (changeBerths q s).berths = q := by
  unfold changeBerths
  split <;> simp

/-- One berth replaced leaves the others (R103). -/
@[simp] theorem changeBerth_berths (i : Idx4) (b : Machine.Berth) (s : State) :
    (changeBerth i b s).berths = s.berths.set i b := by
  unfold changeBerth
  simp

/-- The cycle test moves no other block (R82). -/
@[simp] theorem cycleTest_keeps (i : Idx4) (s : State) :
    (cycleTest i s).run = s.run ∧
    (cycleTest i s).gov = s.gov ∧
    (cycleTest i s).update = s.update ∧
    (cycleTest i s).track = s.track ∧
    (cycleTest i s).supply = s.supply ∧
    (cycleTest i s).roster = s.roster ∧
    (cycleTest i s).scanner = s.scanner ∧
    (cycleTest i s).counters = s.counters ∧
    (cycleTest i s).watches = s.watches ∧
    (cycleTest i s).phone = s.phone ∧
    (cycleTest i s).pending = s.pending ∧
    (cycleTest i s).desk.receiver = s.desk.receiver ∧
    (cycleTest i s).desk.inbox = s.desk.inbox ∧
    (cycleTest i s).desk.replies = s.desk.replies ∧
    (cycleTest i s).desk.transmit = s.desk.transmit ∧
    (cycleTest i s).desk.restart = s.desk.restart ∧
    (cycleTest i s).line.receiver = s.line.receiver ∧
    (cycleTest i s).line.rxBits = s.line.rxBits ∧
    (cycleTest i s).line.rxOnes = s.line.rxOnes ∧
    (cycleTest i s).line.flagTimer = s.line.flagTimer ∧
    (cycleTest i s).line.transmit = s.line.transmit ∧
    (cycleTest i s).line.safety = s.line.safety ∧
    (cycleTest i s).line.voice = s.line.voice ∧
    (cycleTest i s).line.control = s.line.control ∧
    (cycleTest i s).line.bulk = s.line.bulk ∧
    (cycleTest i s).line.overflow = s.line.overflow ∧
    (cycleTest i s).line.beatNumber = s.line.beatNumber ∧
    (cycleTest i s).line.beatTimer = s.line.beatTimer ∧
    (cycleTest i s).line.stopClass = s.line.stopClass ∧
    (cycleTest i s).line.heard = s.line.heard ∧
    (cycleTest i s).line.lastBeat = s.line.lastBeat ∧
    (cycleTest i s).line.miss = s.line.miss ∧
    (cycleTest i s).line.supervision = s.line.supervision ∧
    (cycleTest i s).line.contents = s.line.contents ∧
    (cycleTest i s).line.inbox = s.line.inbox ∧
    (cycleTest i s).line.noticeOffered = s.line.noticeOffered ∧
    (cycleTest i s).line.counts = s.line.counts := by
  unfold cycleTest
  (repeat' split) <;> simp

/-- The four cycle tests move no other block (R82). -/
@[simp] theorem cycleTests_keeps (s : State) :
    (cycleTests s).run = s.run ∧
    (cycleTests s).gov = s.gov ∧
    (cycleTests s).update = s.update ∧
    (cycleTests s).track = s.track ∧
    (cycleTests s).supply = s.supply ∧
    (cycleTests s).roster = s.roster ∧
    (cycleTests s).scanner = s.scanner ∧
    (cycleTests s).counters = s.counters ∧
    (cycleTests s).watches = s.watches ∧
    (cycleTests s).phone = s.phone ∧
    (cycleTests s).pending = s.pending ∧
    (cycleTests s).desk.receiver = s.desk.receiver ∧
    (cycleTests s).desk.inbox = s.desk.inbox ∧
    (cycleTests s).desk.replies = s.desk.replies ∧
    (cycleTests s).desk.transmit = s.desk.transmit ∧
    (cycleTests s).desk.restart = s.desk.restart ∧
    (cycleTests s).line.receiver = s.line.receiver ∧
    (cycleTests s).line.rxBits = s.line.rxBits ∧
    (cycleTests s).line.rxOnes = s.line.rxOnes ∧
    (cycleTests s).line.flagTimer = s.line.flagTimer ∧
    (cycleTests s).line.transmit = s.line.transmit ∧
    (cycleTests s).line.safety = s.line.safety ∧
    (cycleTests s).line.voice = s.line.voice ∧
    (cycleTests s).line.control = s.line.control ∧
    (cycleTests s).line.bulk = s.line.bulk ∧
    (cycleTests s).line.overflow = s.line.overflow ∧
    (cycleTests s).line.beatNumber = s.line.beatNumber ∧
    (cycleTests s).line.beatTimer = s.line.beatTimer ∧
    (cycleTests s).line.stopClass = s.line.stopClass ∧
    (cycleTests s).line.heard = s.line.heard ∧
    (cycleTests s).line.lastBeat = s.line.lastBeat ∧
    (cycleTests s).line.miss = s.line.miss ∧
    (cycleTests s).line.supervision = s.line.supervision ∧
    (cycleTests s).line.contents = s.line.contents ∧
    (cycleTests s).line.inbox = s.line.inbox ∧
    (cycleTests s).line.noticeOffered = s.line.noticeOffered ∧
    (cycleTests s).line.counts = s.line.counts := by
  unfold cycleTests
  simp

/-- The index start test starts at most a step (R55, R56). -/
@[simp] theorem indexTest_keeps (s : State) :
    (indexTest s).run = s.run ∧
    (indexTest s).gov = s.gov ∧
    (indexTest s).update = s.update ∧
    (indexTest s).berths = s.berths ∧
    (indexTest s).supply = s.supply ∧
    (indexTest s).roster = s.roster ∧
    (indexTest s).scanner = s.scanner ∧
    (indexTest s).counters = s.counters ∧
    (indexTest s).watches = s.watches ∧
    (indexTest s).line = s.line ∧
    (indexTest s).phone = s.phone ∧
    (indexTest s).desk = s.desk ∧
    (indexTest s).pending = s.pending ∧
    (indexTest s).track.buffer = s.track.buffer ∧
    (indexTest s).track.berths = s.track.berths ∧
    (indexTest s).track.launchBerth = s.track.launchBerth ∧
    (indexTest s).track.launch = s.track.launch ∧
    (indexTest s).track.launchCommand = s.track.launchCommand ∧
    (indexTest s).track.releaseMark = s.track.releaseMark ∧
    (indexTest s).track.inhibit = s.track.inhibit ∧
    (indexTest s).track.discarded = s.track.discarded ∧
    (indexTest s).track.settings = s.track.settings := by
  unfold indexTest
  (repeat' split) <;> simp

/-- The Watch ceiling recomputed (R155). -/
@[simp] theorem watchCeilingTest_keeps (s : State) :
    (watchCeilingTest s).run = s.run ∧
    (watchCeilingTest s).update = s.update ∧
    (watchCeilingTest s).track = s.track ∧
    (watchCeilingTest s).berths = s.berths ∧
    (watchCeilingTest s).supply = s.supply ∧
    (watchCeilingTest s).roster = s.roster ∧
    (watchCeilingTest s).scanner = s.scanner ∧
    (watchCeilingTest s).counters = s.counters ∧
    (watchCeilingTest s).watches = s.watches ∧
    (watchCeilingTest s).phone = s.phone ∧
    (watchCeilingTest s).pending = s.pending ∧
    (watchCeilingTest s).desk.receiver = s.desk.receiver ∧
    (watchCeilingTest s).desk.inbox = s.desk.inbox ∧
    (watchCeilingTest s).desk.replies = s.desk.replies ∧
    (watchCeilingTest s).desk.transmit = s.desk.transmit ∧
    (watchCeilingTest s).desk.restart = s.desk.restart ∧
    (watchCeilingTest s).line.receiver = s.line.receiver ∧
    (watchCeilingTest s).line.rxBits = s.line.rxBits ∧
    (watchCeilingTest s).line.rxOnes = s.line.rxOnes ∧
    (watchCeilingTest s).line.flagTimer = s.line.flagTimer ∧
    (watchCeilingTest s).line.transmit = s.line.transmit ∧
    (watchCeilingTest s).line.safety = s.line.safety ∧
    (watchCeilingTest s).line.voice = s.line.voice ∧
    (watchCeilingTest s).line.control = s.line.control ∧
    (watchCeilingTest s).line.bulk = s.line.bulk ∧
    (watchCeilingTest s).line.overflow = s.line.overflow ∧
    (watchCeilingTest s).line.beatNumber = s.line.beatNumber ∧
    (watchCeilingTest s).line.beatTimer = s.line.beatTimer ∧
    (watchCeilingTest s).line.stopClass = s.line.stopClass ∧
    (watchCeilingTest s).line.heard = s.line.heard ∧
    (watchCeilingTest s).line.lastBeat = s.line.lastBeat ∧
    (watchCeilingTest s).line.miss = s.line.miss ∧
    (watchCeilingTest s).line.supervision = s.line.supervision ∧
    (watchCeilingTest s).line.contents = s.line.contents ∧
    (watchCeilingTest s).line.inbox = s.line.inbox ∧
    (watchCeilingTest s).line.noticeOffered = s.line.noticeOffered ∧
    (watchCeilingTest s).line.counts = s.line.counts := by
  unfold watchCeilingTest
  simp

/-- The local enables cleared (R150). -/
@[simp] theorem clearLocalEnables_keeps (s : State) :
    (clearLocalEnables s).run = s.run ∧
    (clearLocalEnables s).update = s.update ∧
    (clearLocalEnables s).track = s.track ∧
    (clearLocalEnables s).berths = s.berths ∧
    (clearLocalEnables s).supply = s.supply ∧
    (clearLocalEnables s).roster = s.roster ∧
    (clearLocalEnables s).scanner = s.scanner ∧
    (clearLocalEnables s).counters = s.counters ∧
    (clearLocalEnables s).phone = s.phone ∧
    (clearLocalEnables s).pending = s.pending ∧
    (clearLocalEnables s).desk.receiver = s.desk.receiver ∧
    (clearLocalEnables s).desk.inbox = s.desk.inbox ∧
    (clearLocalEnables s).desk.replies = s.desk.replies ∧
    (clearLocalEnables s).desk.transmit = s.desk.transmit ∧
    (clearLocalEnables s).desk.restart = s.desk.restart ∧
    (clearLocalEnables s).line.receiver = s.line.receiver ∧
    (clearLocalEnables s).line.rxBits = s.line.rxBits ∧
    (clearLocalEnables s).line.rxOnes = s.line.rxOnes ∧
    (clearLocalEnables s).line.flagTimer = s.line.flagTimer ∧
    (clearLocalEnables s).line.transmit = s.line.transmit ∧
    (clearLocalEnables s).line.safety = s.line.safety ∧
    (clearLocalEnables s).line.voice = s.line.voice ∧
    (clearLocalEnables s).line.control = s.line.control ∧
    (clearLocalEnables s).line.bulk = s.line.bulk ∧
    (clearLocalEnables s).line.overflow = s.line.overflow ∧
    (clearLocalEnables s).line.beatNumber = s.line.beatNumber ∧
    (clearLocalEnables s).line.beatTimer = s.line.beatTimer ∧
    (clearLocalEnables s).line.stopClass = s.line.stopClass ∧
    (clearLocalEnables s).line.heard = s.line.heard ∧
    (clearLocalEnables s).line.lastBeat = s.line.lastBeat ∧
    (clearLocalEnables s).line.miss = s.line.miss ∧
    (clearLocalEnables s).line.supervision = s.line.supervision ∧
    (clearLocalEnables s).line.contents = s.line.contents ∧
    (clearLocalEnables s).line.inbox = s.line.inbox ∧
    (clearLocalEnables s).line.noticeOffered = s.line.noticeOffered ∧
    (clearLocalEnables s).line.counts = s.line.counts := by
  unfold clearLocalEnables
  simp

/-- What a transition leaves of the governor (R31). -/
@[simp] theorem Governor.enter_keeps (n : RunState) (g : Machine.Governor) :
    (g.enter n).travel = g.travel ∧
    (g.enter n).residue = g.residue ∧
    (g.enter n).history = g.history ∧
    (g.enter n).pf = g.pf ∧
    (g.enter n).pb = g.pb ∧
    (g.enter n).lastPf = g.lastPf ∧
    (g.enter n).lastPb = g.lastPb ∧
    (g.enter n).v = g.v ∧
    (g.enter n).target = g.target ∧
    (g.enter n).limiting = g.limiting ∧
    (g.enter n).rollback = g.rollback ∧
    (g.enter n).missed = g.missed ∧
    (g.enter n).statusSeen = g.statusSeen ∧
    (g.enter n).firstWindow = g.firstWindow ∧
    (g.enter n).status = g.status ∧
    (g.enter n).settings = g.settings ∧
    (g.enter n).desk = g.desk ∧
    (g.enter n).wind = g.wind ∧
    (g.enter n).band = g.band ∧
    (g.enter n).hold = g.hold ∧
    (g.enter n).holdMs = g.holdMs ∧
    (g.enter n).summitCeiling = g.summitCeiling ∧
    (g.enter n).lineCeiling = g.lineCeiling ∧
    (g.enter n).towerCeiling = g.towerCeiling ∧
    (g.enter n).trackCeiling = g.trackCeiling ∧
    (g.enter n).counterCeiling = g.counterCeiling ∧
    (g.enter n).watchCeiling = g.watchCeiling := by
  cases n <;> simp [Governor.enter]

/-- A transition (R1, R13, R31): the run state, and what stays. -/
@[simp] theorem enterState_keeps (n : RunState) (c : Cause) (s : State) :
    (enterState n c s).run.state = n ∧ (enterState n c s).run.demands = s.run.demands ∧
    (enterState n c s).update = s.update ∧
    (enterState n c s).supply = s.supply ∧
    (enterState n c s).roster = s.roster ∧
    (enterState n c s).scanner = s.scanner ∧
    (enterState n c s).counters = s.counters ∧
    (enterState n c s).phone = s.phone ∧
    (enterState n c s).pending = s.pending ∧
    (enterState n c s).desk.receiver = s.desk.receiver ∧
    (enterState n c s).desk.inbox = s.desk.inbox ∧
    (enterState n c s).desk.replies = s.desk.replies ∧
    (enterState n c s).desk.transmit = s.desk.transmit ∧
    (enterState n c s).desk.restart = s.desk.restart ∧
    (enterState n c s).line.receiver = s.line.receiver ∧
    (enterState n c s).line.rxBits = s.line.rxBits ∧
    (enterState n c s).line.rxOnes = s.line.rxOnes ∧
    (enterState n c s).line.flagTimer = s.line.flagTimer ∧
    (enterState n c s).line.voice = s.line.voice ∧
    (enterState n c s).line.control = s.line.control ∧
    (enterState n c s).line.bulk = s.line.bulk ∧
    (enterState n c s).line.overflow = s.line.overflow ∧
    (enterState n c s).line.beatNumber = s.line.beatNumber ∧
    (enterState n c s).line.beatTimer = s.line.beatTimer ∧
    (enterState n c s).line.heard = s.line.heard ∧
    (enterState n c s).line.lastBeat = s.line.lastBeat ∧
    (enterState n c s).line.miss = s.line.miss ∧
    (enterState n c s).line.supervision = s.line.supervision ∧
    (enterState n c s).line.contents = s.line.contents ∧
    (enterState n c s).line.inbox = s.line.inbox ∧
    (enterState n c s).line.noticeOffered = s.line.noticeOffered ∧
    (enterState n c s).line.counts = s.line.counts ∧
    (enterState n c s).track.buffer = s.track.buffer ∧
    (enterState n c s).track.berths = s.track.berths ∧
    (enterState n c s).track.launchBerth = s.track.launchBerth ∧
    (enterState n c s).track.launch = s.track.launch ∧
    (enterState n c s).track.launchCommand = s.track.launchCommand ∧
    (enterState n c s).track.releaseMark = s.track.releaseMark ∧
    (enterState n c s).track.inhibit = s.track.inhibit ∧
    (enterState n c s).track.discarded = s.track.discarded ∧
    (enterState n c s).track.settings = s.track.settings ∧
    (enterState n c s).run.platformStop = s.run.platformStop ∧
    (enterState n c s).run.loopOpen = s.run.loopOpen := by
  unfold enterState
  simp only []
  split <;> simp

end Sys2Proof.Machine
end

