-- ==== Sys2Proof/Laws/Line.lean ====
section
/-! SUPPORT. What the transmitter of the summit line has still to send in each of its phases, and what leaves the frame
in transmission as it is. -/

namespace Sys2Proof.Machine

/-- A frame whose transmission starts has all its bits before it, and its closing flag after them (R157). -/
@[simp] theorem Transmit.start_bits (f : SentFrame) : (Transmit.start f).bits = wireBits f.body ++ flagBits := by
  simp [Transmit.start, Transmit.bits]

/-- A frame whose last bit has been sent has its closing flag still to send (R157). -/
@[simp] theorem Transmit.frame_zero_bits (f : SentFrame) : (Transmit.frame f 0).bits = flagBits := by
  simp [Transmit.bits]

@[simp] theorem Transmit.start_sending? (f : SentFrame) : (Transmit.start f).sending? = some f := rfl

/-- A Beat offered leaves the frame in transmission, be it aborted or not (R164). -/
@[simp] theorem Transmit.preempted_sending? (t : Transmit) : t.preempted.sending? = t.sending? := by
  unfold Transmit.preempted
  (repeat' split) <;> rfl

/-- Time leaves a frame in transmission until its closing flag has been sent (R157). -/
theorem Transmit.tick_frame_sending? (f : SentFrame) (left : Nat) :
    (Transmit.frame f left).tick.sending? = some f := rfl

/-- Time never adds to the bits that a frame has left (R157). -/
theorem Transmit.tick_frame_left (f : SentFrame) (left : Nat) :
    ∃ less, less ≤ left ∧ (Transmit.frame f left).tick = .frame f less :=
  ⟨left - Config.lineBitsPerMs, Nat.sub_le _ _, rfl⟩

/-- A Restart leaves no frame in transmission (R176). -/
@[simp] theorem Transmit.cut_sending? (t : Transmit) : t.cut.sending? = none := by
  cases t <;> rfl

end Sys2Proof.Machine
end

