-- ==== Sys2Proof/Laws/Raising.lean ====
section
/-! SUPPORT. What raising a stop demand and offering a counter event can do, said once: the demand set, the run state, and
the blocks touched. The proofs about commands that raise or count cite these. -/

namespace Sys2Proof.Machine

/-! ### Blocks touched -/

theorem Touches.refl (bs : List Block) (s : State) : Touches bs s s := by
  intro b _
  cases b <;> simp [Block.kept]

theorem Touches.trans {bs : List Block} {s t u : State} (h : Touches bs s t) (k : Touches bs t u) :
    Touches bs s u := by
  intro b hb
  have h1 := h b hb
  have h2 := k b hb
  cases b <;> simp only [Block.kept] at * <;> exact h2.trans h1

theorem Touches.mono {bs cs : List Block} {s t : State} (h : Touches bs s t) (sub : ∀ b, b ∈ bs → b ∈ cs) :
    Touches cs s t := fun b hb => h b fun hm => hb (sub b hm)

theorem DeskQuiet.refl (s : State) : DeskQuiet s s := by simp [DeskQuiet]

theorem DeskQuiet.trans {s t u : State} (h : DeskQuiet s t) (k : DeskQuiet t u) : DeskQuiet s u := by
  obtain ⟨a, b, c, d, e⟩ := h
  obtain ⟨a', b', c', d', e'⟩ := k
  exact ⟨a'.trans a, b'.trans b, c'.trans c, d'.trans d, e'.trans e⟩

/-! ### The demand set -/

theorem Source.mem_all (x : Source) : x ∈ Source.all := by cases x <;> decide

@[simp] theorem mem_addSource (x src : Source) (set : List Source) :
    x ∈ addSource src set ↔ x = src ∨ x ∈ set := by
  simp [addSource, Source.mem_all]

theorem mem_removeSource (x src : Source) (set : List Source) :
    x ∈ removeSource src set ↔ x ∈ set ∧ x ≠ src := by
  simp [removeSource]

/-! ### Raising (R9, R11, R14) -/

/-- The transition a demand requires leaves the set alone and the run state as R9 and R11 say. -/
theorem demandTransition_run (src : Source) (s : State) :
    (demandTransition src s).run.demands = s.run.demands ∧
      (demandTransition src s).run.state = afterDemand src.cls s.run.state ∧
      (demandTransition src s).run.platformStop = s.run.platformStop ∧
      (demandTransition src s).run.loopOpen = s.run.loopOpen := by
  unfold demandTransition
  cases hc : src.cls <;> cases hs : s.run.state <;> simp [afterDemand, hs]

/-- A demand requires no transition, or one to a state that is not Starting (R9, R11). -/
theorem demandTransition_cases (src : Source) (s : State) : demandTransition src s = s ∨
    ∃ n, n ≠ .starting ∧ demandTransition src s = enterState n (.demand src) s := by
  unfold demandTransition
  split
  iterate 4 exact Or.inr ⟨.tripped, by decide, rfl⟩
  iterate 2 exact Or.inr ⟨.stopping, by decide, rfl⟩
  exact Or.inl rfl

theorem enterState_touches (n : RunState) (c : Cause) (s : State) (h : s.run.state ≠ .stopped ∨ n ≠ .starting) :
    Touches raiseBlocks s (enterState n c s) := by
  intro b hb
  have hw : (enterState n c s).watches = s.watches := by
    unfold enterState
    simp only []
    split
    · rename_i hh
      rcases h with h | h
      · exact absurd hh.1 h
      · exact absurd hh.2 h
    · simp
  cases b <;> simp [raiseBlocks] at hb <;> simp [Block.kept, hw]

theorem demandTransition_touches (src : Source) (s : State) : Touches raiseBlocks s (demandTransition src s) := by
  rcases demandTransition_cases src s with h | ⟨n, hn, h⟩ <;> rw [h]
  · exact Touches.refl _ _
  · exact enterState_touches _ _ _ (Or.inr hn)

theorem giveClass_touches (s : State) : Touches raiseBlocks s (giveClass s) := by
  intro b hb
  cases b <;> simp [raiseBlocks] at hb <;> simp [Block.kept]

theorem queueReport_touches (r : Report) (s : State) : Touches raiseBlocks s (queueReport r s) := by
  intro b hb
  cases b <;> simp [raiseBlocks] at hb <;> simp [Block.kept]

/-- A raising of a present source has no effect (R14). -/
theorem raise_of_mem {src : Source} {s : State} (h : src ∈ s.run.demands) : raise src s = s := by simp [raise, h]

/-- What raising a demand does to run control (R9, R11, R14). -/
theorem raise_run (src : Source) (s : State) : Raised src s (raise src s) ∧
    (raise src s).run.platformStop = s.run.platformStop ∧ (raise src s).run.loopOpen = s.run.loopOpen := by
  unfold Raised raise
  split
  · rename_i h
    refine ⟨⟨fun x => ⟨Or.inr, ?_⟩, by simp⟩, rfl, rfl⟩
    rintro (rfl | hx) <;> assumption
  · have hd := demandTransition_run src (queueReport (.stopDemand src src.cls)
      { s with run := { s.run with demands := addSource src s.run.demands } })
    simp_all

/-- Raising a demand touches run control, the governor, the track, the berths, the line and the reports alone. -/
theorem raise_touches (src : Source) (s : State) : Touches raiseBlocks s (raise src s) := by
  unfold raise
  split
  · exact Touches.refl _ _
  · refine Touches.trans ?_ (giveClass_touches _)
    refine Touches.trans ?_ (demandTransition_touches _ _)
    refine Touches.trans ?_ (queueReport_touches _ _)
    intro b hb
    cases b <;> simp [raiseBlocks] at hb <;> simp [Block.kept]

theorem raiseAll_touches (l : List Source) (s : State) : Touches raiseBlocks s (raiseAll l s) := by
  induction l generalizing s with
  | nil => exact Touches.refl _ _
  | cons x xs ih => exact (raise_touches x s).trans (ih _)

theorem enterState_deskQuiet (n : RunState) (c : Cause) (s : State) : DeskQuiet s (enterState n c s) := by
  simp [DeskQuiet]

/-- Of the desk link, raising a demand moves only the report queue. -/
theorem raise_deskQuiet (src : Source) (s : State) : DeskQuiet s (raise src s) := by
  unfold raise
  split
  · exact DeskQuiet.refl _
  · have h : ∀ t, DeskQuiet t (demandTransition src t) := by
      intro t
      rcases demandTransition_cases src t with h | ⟨n, _, h⟩ <;> rw [h]
      · exact DeskQuiet.refl _
      · exact enterState_deskQuiet _ _ _
    have hg : ∀ t, DeskQuiet t (giveClass t) := by intro t; simp [DeskQuiet]
    have hr : ∀ r t, DeskQuiet t (queueReport r t) := by intro r t; simp [DeskQuiet]
    refine DeskQuiet.trans ?_ (hg _)
    refine DeskQuiet.trans ?_ (h _)
    refine DeskQuiet.trans ?_ (hr _ _)
    simp [DeskQuiet]

theorem raiseAll_deskQuiet (l : List Source) (s : State) : DeskQuiet s (raiseAll l s) := by
  induction l generalizing s with
  | nil => exact DeskQuiet.refl _
  | cons x xs ih => exact (raise_deskQuiet x s).trans (ih _)

/-- The source raised is in the set afterwards, and nothing leaves the set. -/
theorem mem_raise (x src : Source) (s : State) : x ∈ (raise src s).run.demands ↔ x = src ∨ x ∈ s.run.demands :=
  (raise_run src s).1.1 x

theorem mem_raiseAll (x : Source) (l : List Source) (s : State) :
    x ∈ (raiseAll l s).run.demands ↔ x ∈ l ∨ x ∈ s.run.demands := by
  induction l generalizing s with
  | nil => simp [raiseAll]
  | cons y ys ih => simp [raiseAll, ih, mem_raise, or_assoc, or_left_comm]

/-! ### Counter events (R141 to R145) -/

/-- The blocks that an offered counter event can touch. -/
def eventBlocks : List Block := .counters :: raiseBlocks

theorem raise_touches_event (src : Source) (s : State) : Touches eventBlocks s (raise src s) :=
  (raise_touches src s).mono (by simp [eventBlocks, raiseBlocks])

theorem setCeiling_touches (c : Ceiling) (on : Bool) (s : State) : Touches raiseBlocks s (setCeiling c on s) := by
  intro b hb
  cases b <;> simp [raiseBlocks] at hb <;> simp [Block.kept]

theorem setCeiling_deskQuiet (c : Ceiling) (on : Bool) (s : State) : DeskQuiet s (setCeiling c on s) := by
  simp [DeskQuiet]

theorem setCounter_touches (i : Idx4) (c : Machine.Counter) (s : State) : Touches eventBlocks s (s.setCounter i c) := by
  intro b hb
  cases b <;> simp [eventBlocks, raiseBlocks] at hb <;> simp [Block.kept]

theorem fireAction_touches (a : CounterAction) (s : State) : Touches eventBlocks s (fireAction a s) := by
  cases a
  · exact Touches.refl _ _
  · exact (setCeiling_touches _ _ s).mono (by simp [eventBlocks, raiseBlocks])
  · exact raise_touches_event _ _

theorem fireAction_deskQuiet (a : CounterAction) (s : State) : DeskQuiet s (fireAction a s) := by
  cases a
  · exact DeskQuiet.refl _
  · exact setCeiling_deskQuiet _ _ _
  · exact raise_deskQuiet _ _

theorem counterTake_touches (i : Idx4) (ev : CounterEvent) (s : State) : Touches eventBlocks s (counterTake i ev s) := by
  unfold counterTake
  split
  · split
    · refine Touches.trans ?_ (fireAction_touches _ _)
      refine Touches.trans ?_ ((queueReport_touches _ _).mono (by simp [eventBlocks, raiseBlocks]))
      exact setCounter_touches _ _ _
    · exact setCounter_touches _ _ _
  · exact Touches.refl _ _

theorem counterTake_deskQuiet (i : Idx4) (ev : CounterEvent) (s : State) : DeskQuiet s (counterTake i ev s) := by
  unfold counterTake
  split
  · split
    · refine DeskQuiet.trans ?_ (fireAction_deskQuiet _ _)
      simp [DeskQuiet]
    · simp [DeskQuiet]
  · exact DeskQuiet.refl _

/-- An offered event touches the counters, and what a Slow or Stop action brings, alone. -/
theorem offerEvent_touches (ev : CounterEvent) (s : State) : Touches eventBlocks s (offerEvent ev s) :=
  (((counterTake_touches _ _ _).trans (counterTake_touches _ _ _)).trans (counterTake_touches _ _ _)).trans
    (counterTake_touches _ _ _)

theorem offerEvent_deskQuiet (ev : CounterEvent) (s : State) : DeskQuiet s (offerEvent ev s) :=
  (((counterTake_deskQuiet _ _ _).trans (counterTake_deskQuiet _ _ _)).trans (counterTake_deskQuiet _ _ _)).trans
    (counterTake_deskQuiet _ _ _)

end Sys2Proof.Machine
end

