-- ==== Sys2Proof/Tests/Slice0.lean ====
section
/-! SUPPORT. Tests: what `wellFormed` refuses, worked cases of the spec one step at a time, and for every statement of
Certificates/Slice0/Obligations.lean a state and operands that meet its hypotheses. Expected values come from the
tables and rules named beside them. -/

set_option maxRecDepth 20000

namespace Sys2Proof.Tests

open Sys2Proof.Machine Sys2Proof.Config

/-! ### Small states -/

/-- The state after a command. -/
def after (c : Instr) (s : State) : State :=
  match exec c s with
  | .next t => t
  | _ => s

def init : State := State.reset
def onRun (f : RunControl → RunControl) (s : State) : State := { s with run := f s.run }
def onGov (f : Governor → Governor) (s : State) : State := { s with gov := f s.gov }
def onTrack (f : Track → Track) (s : State) : State := { s with track := f s.track }
def onSupply (f : Supply → Supply) (s : State) : State := { s with supply := f s.supply }
def onRoster (f : Roster → Roster) (s : State) : State := { s with roster := f s.roster }
def onScanner (f : Scanner → Scanner) (s : State) : State := { s with scanner := f s.scanner }
def onLine (f : Line → Line) (s : State) : State := { s with line := f s.line }
def onPhone (f : CallUnit → CallUnit) (s : State) : State := { s with phone := f s.phone }
def onDesk (f : Desk → Desk) (s : State) : State := { s with desk := f s.desk }
def onBerth (i : Idx4) (f : Berth → Berth) (s : State) : State := s.setBerth i (f (s.berth i))
def onCounter (i : Idx4) (f : Counter → Counter) (s : State) : State := s.setCounter i (f (s.counter i))
def isIn (st : RunState) (s : State) : State := onRun (fun r => { r with state := st }) s
def demands (l : List Source) (s : State) : State := onRun (fun r => { r with demands := l }) s

/-- A carrier and a roster record. -/
def car (n : Nat) (marks : List Mark := []) : CarrierRec :=
  { number := n, marks := marks, entryTravel := 0, gripStuck := false, cycles := [], reopens := 0, force := none,
    releaseTravel := none }
def rope (n : Nat) (leg : Leg) (marks : List Mark := []) : RosterRec :=
  { carrier := car n marks, gripClass := .good, leg := leg, anchor := 0, position := 0, prevCoord := none,
    updateCoord := none, overdue := true, exempt := [] }
def records (l : List RosterRec) (s : State) : State := onRoster (fun r => { r with records := l }) s

/-- A used tower slot. -/
def tower (address : Nat) : Slot :=
  { Slot.unused with address := some address, enables := ⟨true, true, true, false⟩,
                     codes := ⟨.normal, .normal, .normal, .disabled⟩ }

def stopped : State := isIn .stopped init
def running : State := onGov (fun g => { g with reference := 300, target := 300, brakeReleased := true }) (isIn .running init)

/-- Stopped, with both permissives of R6. -/
def ready : State :=
  onGov (fun g => { g with status := ⟨true, false⟩ })
    (onLine (fun l => { l with contents := { l.contents with ready := true } }) stopped)

/-- A berth in a state, in Manual mode. -/
def manual (st : BerthState) (b : Berth) : Berth := { b with state := st, mode := .manual }

/-- A berth in a state with a timer running, in Auto mode. -/
def timed (st : BerthState) (t : BerthTimer) (b : Berth) : Berth := { b with state := st, timer := some (t, 7) }

/-- Running at 300 cm/s with berth 1 occupied, a record on the rope, a tower in use and a call in Talking. -/
def busy : State :=
  records [rope 9 .outbound]
    (onScanner (fun x => { x with slots := tower 5 :: x.slots.tail })
      (onPhone (fun c => { c with state := .talking, id := some 1, reference := some 255, queue := [⟨0, []⟩] })
        (onTrack (fun k => { k with berths := ⟨some (car 3), none, none, none⟩ })
          (onBerth .i1 (fun b => { b with state := .opened, occupied := true })
            { running with berths := running.berths.map fun b => { b with state := .locked } }))))

/-! ### Well-formed commands: one command refused for each check -/

theorem test_wellFormed_small : wellFormed (.clearStop 0 256) = false ∧ wellFormed (.clearStop 0 255) = true := by decide
theorem test_wellFormed_quantity : wellFormed (.setSpeed 0 65536) = false ∧ wellFormed (.setSpeed 0 65535) = true := by
  decide
theorem test_wellFormed_bandsFit :
    wellFormed (.setWind 0 (List.replicate 62 (0, 0)) 0 0) = false ∧
      wellFormed (.setWind 0 [(65536, 0)] 0 0) = false ∧
      wellFormed (.setWind 0 (List.replicate 61 (0, 0)) 0 0) = true := by decide
theorem test_wellFormed_governorFits :
    wellFormed (.setGovernor 0 { governorDefaults with up := 65536 }) = false := by decide
theorem test_wellFormed_berthFits :
    wellFormed (.setBerth 0 1 ⟨256, 300, 1500, 15, 1800, 300, 1000, 3⟩) = false := by decide
theorem test_wellFormed_counterFits :
    wellFormed (.setCounter 0 1 ⟨1, 65536, 0, 0, 0, 0, false, 0, false⟩) = false := by decide
theorem test_wellFormed_watchFits :
    wellFormed (.setWatch 0 1 ⟨0, 65536, 0, 0, false, false⟩) = false := by decide
theorem test_wellFormed_notice_request :
    wellFormed (.sendNotice 0 (List.replicate 249 0)) = false := by decide
theorem test_wellFormed_slotNumber :
    wellFormed (.towerStale 0) = false ∧ wellFormed (.towerSilent 25) = false ∧ wellFormed (.towerStale 24) = true := by
  decide
theorem test_wellFormed_eventFits :
    wellFormed (.counterExpiry .i1 ⟨0, none, none, none, 0, none⟩) = false ∧
      wellFormed (.counterExpiry .i1 ⟨1, some (251, false), none, none, 0, none⟩) = false ∧
      wellFormed (.counterExpiry .i1 ⟨8, none, some 0, none, 0, none⟩) = false ∧
      wellFormed (.counterExpiry .i1 ⟨8, none, some 1, some 5, 0, none⟩) = false ∧
      wellFormed (.counterExpiry .i1 ⟨14, some (7, false), none, none, 0, none⟩) = false ∧
      wellFormed (.counterExpiry .i1 ⟨13, some (7, false), none, none, 0, some .i4⟩) = false ∧
      wellFormed (.counterExpiry .i1 ⟨14, some (7, false), none, none, 0, some .i4⟩) = true ∧
      wellFormed (.counterExpiry .i1 ⟨16, some (250, false), some 24, some 4, 0, none⟩) = true := by decide
theorem test_wellFormed_beatFits :
    wellFormed (.summitBeat ⟨0, false, .clear, true, .stopped, 0, 0, 32768⟩) = false := by decide
theorem test_wellFormed_noSixOnes :
    wellFormed (.bodyBitsReceived (List.replicate 6 true)) = false ∧
      wellFormed (.bodyBitsReceived (List.replicate 5 true)) = true := by decide
theorem test_wellFormed_isBlock : wellFormed (.blockPeriod (List.replicate 39 0)) = false := by decide
theorem test_wellFormed_notice :
    wellFormed (.noticeFrame []) = false ∧ wellFormed (.noticeFrame (List.replicate 65 0)) = false := by decide
theorem test_wellFormed_records :
    wellFormed (.driveStatus []) = false ∧ wellFormed (.gripTestResult []) = false ∧
      wellFormed (.towerReply []) = false := by decide
theorem test_wellFormed_message : wellFormed (.deskMessage 0 0 (List.replicate 249 0)) = false := by decide

/-! ### Worked cases of the spec -/

/-- The CRC of R157 is CRC-16/X-25 by its polynomial, preset, bit order and complement: the check value of "123456789"
is 0x906E. -/
theorem test_crc : crc [0x31, 0x32, 0x33, 0x34, 0x35, 0x36, 0x37, 0x38, 0x39] = 0x906E#16 := by decide

/-- The bytes of Run with tag 1, received in Waiting, are answered as Run is. -/
theorem test_request_bytes :
    ((requestBytes 1 .run).foldl (fun u b => deskByte b u) ready).run.state = .starting := by decide

/-- No row of the opcode table gives bits. -/
theorem test_decodeTableWord : decodeTableWord 16 0 = none ∧ State.withFetchWord stopped 16 0 = stopped := by decide

def rest7854 : State :=
  onGov (fun g => { g with settings := { g.settings with calibration := 7854 }, creepBase := some 0 }) stopped

/-- Table 2-1, windows 1 and 2. -/
theorem test_table_2_1 :
    (let t := after .windowEnd (onGov (fun g => { g with pf := 313 }) rest7854)
     (t.gov.history.h1, t.gov.residue, t.gov.travel.toNat, t.gov.v) = (600, 702, 600, 150)) ∧
    (let t := after .windowEnd (onGov (fun g => { g with pf := 312, residue := 702, travel := 600, history := ⟨600, 0, 0, 0⟩ })
       rest7854)
     (t.gov.history.h1, t.gov.residue, t.gov.travel.toNat, t.gov.v) = (598, 1742, 1198, 300)) := by decide

/-- Table 2-2, windows 1 and 4. -/
theorem test_table_2_2 :
    (let t := after .windowEnd (onGov (fun g => { g with pb := 40 }) rest7854)
     (t.gov.residue, t.gov.travel.toNat, t.gov.rollback, t.gov.v) = (1232, 4294967219, 77, -19)) ∧
    (let t := after .windowEnd (onGov (fun g => { g with
        pb := 40, residue := 3696, travel := 4294967065, rollback := 231, history := ⟨-77, -77, -77, 0⟩ }) rest7854)
     (t.gov.residue, t.gov.travel.toNat, t.gov.rollback, t.gov.v, t.run.demands, t.run.state) =
       (832, 4294966989, 0, -77, [.rollback], .tripped)) := by decide

/-- Table 1-7: the first window of Starting, the press of the stop button, and the loop that opens in Stopped. -/
theorem test_table_1_7 :
    (after .windowEnd (isIn .starting ready)).gov.reference = 5 ∧
      (let t := after (.platformStopInput true) running
       (t.run.state, t.run.demands, t.line.stopClass, t.run.quiet) = (.stopping, [.platformStop], .service, 0)) ∧
      (let t := after (.emergencyLoopInput true) (demands [.platformStop] stopped)
       (t.run.state, t.run.demands, t.line.stopClass) = (.tripped, [.platformStop, .emergencyLoop], .emergency)) := by
  decide

/-- Table 2-4, window ends 1 and 44: the ramp down stops at the Wind ceiling. -/
theorem test_table_2_4 :
    (let windy := onGov (fun g => { g with band := 1, wind := ⟨[⟨160, some 250⟩], 20, 60⟩, desk := 600 }) running
     (after .windowEnd (onGov (fun g => { g with reference := 600 }) windy)).gov.reference = 592 ∧
       (after .windowEnd (onGov (fun g => { g with reference := 256 }) windy)).gov.reference = 250) := by decide

/-- Table 2-6: a reading of 165 jumps to band 2; 135 starts the hold timer there, 150 does not. -/
theorem test_table_2_6 :
    (let s := onGov (fun g => { g with wind := ⟨[⟨120, some 400⟩, ⟨160, some 250⟩, ⟨200, none⟩], 20, 60⟩ }) stopped
     let beat (n w : Nat) : Instr := .summitBeat ⟨n, false, .clear, true, .stopped, 0, w, 0⟩
     let s2 := after (beat 1 165) s
     s2.gov.band = 2 ∧ (after (beat 2 150) s2).gov.hold = .stopped ∧ (after (beat 2 135) s2).gov.hold = .running ∧
       (after (beat 2 215) s2).run.demands = [.wind]) := by decide

/-- R88's example: with t_open 1500 and t_close 1800, an obstruction 900 ms into the Closing gives an Opening of 750 ms,
and one 1 ms into it an Opening of 1 ms. -/
theorem test_reversal_times :
    (let s (ms : Nat) := onBerth .i1 (fun b => { b with state := .closing, grant := true, timer := some (.run, 5),
                                                        motionElapsed := ms }) running
     ((after (.obstruction .i1 true) (s 900)).berth .i1).timer = some (.run, 750) ∧
       ((after (.obstruction .i1 true) (s 1)).berth .i1).timer = some (.run, 1)) := by decide

/-- Section 7.6: a base of 2600 with a size of 256 begins at 2560, a base of 2700 with a size of 64 at 2688. -/
theorem test_watch_windows :
    (({ Watch.defaults with base := 2600, size := 256 } : Watch).start,
      ({ Watch.defaults with base := 2700, size := 64 } : Watch).start) = (2560, 2688) := by decide

/-- Table 7-4, carrier 43: counter 1 expires on event 3 and counter 2, chained to it, then counts event 4. -/
theorem test_table_7_4 :
    (let moving : List RunState := [.starting, .running, .stopping]
     let s := onCounter .i2 (fun c => { c with event := 4, preset := 2, value := 2, mask := moving, threshold := 1500,
                                               action := .stop, chained := true })
       (onCounter .i1 (fun c => { c with event := 3, preset := 2, value := 1, mask := moving, freeze := true,
                                         window := 5 }) running)
     let t := after (.gripTestResult (gripRecord 1470)) (onTrack (fun k => { k with launch := some (car 43) }) s)
     ((t.counter .i1).value, (t.counter .i1).alarm, (t.counter .i1).frozen, (t.counter .i2).value) =
       (0, true, true, 1)) := by decide

/-- R10: the quiet window count is gone in Starting after the tenth quiet window and a Run, and after a trip. -/
theorem test_quiet_count_is_not_kept :
    (let q := onRun (fun r => { r with state := .stopping, quiet := 9 }) ready
     (after .quietWindows q).run = { q.run with state := .stopped, quiet := 0 } ∧
       (after (.emergencyLoopInput true) q).run.quiet = 0) := by decide

/-- R36: the update of the window end that ends Starting carries Starting, and one that passes a whole kilometre the
kilometre event. -/
theorem test_travel_update :
    (let s := onGov (fun g => { g with reference := 296, travel := 999999, pf := 1 }) (isIn .starting running)
     let t := after .windowEnd s
     t.run.state = .running ∧ t.update = ⟨1000000, 999999, 1, 0, .starting, true⟩) := by decide

/-- R89, R94, R95: with a gap of 0 and one grant free, the release at an obstructed Close is followed by its test, so
the Open that waits is granted before the berth asks again. -/
theorem test_obstructed_close_frees_its_grant :
    (let s := onSupply (fun x => { x with gap := 0, wait := [(.i1, .closing), (.i2, .opening)] })
       (onBerth .i3 (fun b => { b with state := .opening, grant := true })
         (onBerth .i2 (fun b => { b with state := .unlocked })
           (onBerth .i1 (fun b => { b with state := .opened, senses := { b.senses with obstruction := true } }) running)))
     ((supplyTest s).berth .i2).state = .opening ∧ ((supplyTest s).berth .i1).reopens = 1 ∧
       (supplyTest s).supply.wait = [(.i1, .closing)]) := by decide

/-- R103: Park with every berth in Fault changes no berth and offers no Berth change. -/
theorem test_park_of_faulted_berths_is_silent :
    (let s := { stopped with berths := stopped.berths.map fun b => { b with state := .fault } }
     (after (.park 1) s).desk.berth = s.desk.berth ∧ (after (.park 1) stopped).desk.berth = stopped.desk.berth ∧
       (after (.park 1) (onBerth .i1 (manual .locked) s)).desk.berth.latched = true) := by decide

/-- R65, R119: a lost launch ends with the grip force absent, also where the carrier brought one. -/
theorem test_untested_launch_has_no_force :
    (let s := onTrack (fun k => { k with launch := some { car 7 with force := some 2000 } }) stopped
     (after (.abandon 1) s).roster.records.map (fun r => r.carrier.force) = [none]) := by decide

/-- R141: event 14 carries the watch that matched, and a reply's several events 7 are one offer, taken before the
latchings of event 8. -/
theorem test_event_14_names_its_watch :
    (let m : WatchMatch := ⟨.i2, some 7, false, none, 5, true, false⟩
     let s := onCounter .i1 (fun c => { c with event := 14, mask := [.running] }) running
     (occasion [m] s).desk.others.length = 2 ∧ ((occasion [m] s).counter .i1).alarm = true) := by decide

/-! ### Witnesses: states that meet the hypotheses of the statements, and the commands that complete there -/

theorem witness_StepRunsTheFrontCommand : ({ init with pending := [.windowEnd, .powerOn] } : State).pending = .windowEnd :: [.powerOn] := by
  decide

theorem witness_IdleStepOnlyPassesTime :
    init.pending = [] ∧ (onRun (fun r => { r with platformStop := true }) busy).pending = [] ∧
      (onRun (fun r => { r with platformStop := true }) busy).run.platformStop = true := by decide

def restarting : State := onDesk (fun d => { d with restart := .sending }) busy

theorem witness_StartsTakeTheirValues :
    restarting.desk.restart = .sending ∧ (after .restartStart restarting).run.state = .parked := by decide

theorem witness_StartsEmptyTheRosterAndTheCallUnit :
    (∃ t, exec .powerOn busy = .next t) ∧ restarting.desk.restart = .sending ∧
      ∃ t, exec .restartStart restarting = .next t := ⟨⟨_, rfl⟩, by decide, ⟨_, rfl⟩⟩

/-- A state that no start leaves meets every promise, and a step is taken from it. -/
theorem witness_promises :
    DemandsObeyed busy ∧ BrakeObeyed busy ∧ ReferenceBounded busy ∧ PlacesBounded busy ∧ QueuesBounded busy ∧
      CallHeld busy ∧ TableSound busy ∧ CeilingsTrue busy ∧ NumbersUnique busy ∧ QuietCounted busy ∧
      ∃ t, step { busy with pending := [.windowEnd] } = .next t := by
  unfold DemandsObeyed BrakeObeyed ReferenceBounded PlacesBounded QueuesBounded CallHeld TableSound CeilingsTrue
    NumbersUnique QuietCounted
  refine ⟨?_, ?_, ?_, ?_, ?_, ?_, ?_, ?_, ?_, ?_, ⟨_, rfl⟩⟩ <;> decide

theorem witness_DoorsStaySound : DoorsSound busy := by
  unfold DoorsSound
  refine ⟨by decide, fun i => ?_, by decide, by decide, fun h => absurd h (by decide)⟩
  unfold Berth.grantSound
  cases i <;> decide

theorem witness_NoticesStayTrue : NoticesTrue busy := by
  unfold NoticesTrue
  exact ⟨by decide, by decide, by decide, fun i => by cases i <;> decide⟩

theorem witness_TablesAndSettingsStayLegal : SettingsLegal busy := by
  unfold SettingsLegal BerthSettings.legal Watch.legal WindConfig.legal TrackSettings.legal Counter.legal Slot.legal
  refine ⟨by decide, by decide, by decide, by decide, fun i => ?_, by decide, by decide, by decide, by decide, by decide,
    by decide, fun i => ?_, fun i => ?_⟩ <;> cases i <;> decide

theorem witness_PlayoutIsEmptiedAroundTalking :
    (exec (.hangUp 1) busy = .next (after (.hangUp 1) busy)) ∧
      ¬ (busy.phone.state = .talking ↔ (after (.hangUp 1) busy).phone.state = .talking) :=
  ⟨rfl, by decide⟩

theorem witness_RequestPayloadsDecode :
    requestFits (.setWind (List.replicate 61 (65535, 65535)) 255 65535) = true ∧
      requestFits (.sendNotice (List.replicate 248 0xFF)) = true := by decide

theorem witness_RequestBytesDeliverTheRequest :
    requestFits (.setSpeed 65535) = true ∧ init.desk.receiver = .waiting := by decide

/-! Run control -/

def blocked : State := onBerth .i1 (fun b => { b with senses := { b.senses with obstruction := true } }) init

theorem witness_RunStateRequestsAct_wake :
    DeskFree stopped ∧ stopped.run.state ≠ .parked ∧ DeskFree blocked ∧ blocked.run.state = .parked ∧
      blocked.supply.wait = [] ∧ (after (.wake 1) blocked).run.state = .waking ∧
      ((after (.wake 1) blocked).berth .i1).state = .fault ∧ ((after (.wake 1) blocked).berth .i2).state = .homing := by
  unfold DeskFree; decide

theorem witness_RunStateRequestsAct_park :
    (let rolling := onGov (fun g => { g with v := 1 }) (isIn .tripped init)
     let stepping := onTrack (fun k => { k with step := some ⟨5, false⟩, indexCommand := true }) stopped
     DeskFree rolling ∧ rolling.run.state = .tripped ∧ rolling.gov.v ≠ 0 ∧ DeskFree running ∧
       running.run.state = .running ∧ DeskFree stepping ∧ stepping.run.state = .stopped ∧
       stepping.track.step.isSome = true ∧ (after (.park 1) stepping).run.state = .parked ∧
       (isIn .tripped init).gov.v = 0 ∧ (after (.park 1) (isIn .tripped init)).run.state = .parked) := by
  unfold DeskFree; decide

theorem witness_RunStateRequestsAct_run :
    DeskFree ready ∧ ready.run.state = .stopped ∧ ready.run.demands = [] ∧ ready.gov.status.ready = true ∧
      ready.line.contents.ready = true ∧ (after (.run 1) ready).run.state = .starting ∧
      (demands [.deskStop] ready).run.demands ≠ [] ∧
      ¬ (stopped.gov.status.ready = true ∧ stopped.line.contents.ready = true) := by
  unfold DeskFree; decide

theorem witness_StopAndClearStopAct :
    (let s := demands [.deskStop, .platformStop] (onRun (fun r => { r with platformStop := true }) stopped)
     DeskFree s ∧ Source.all[23]? = some .watch ∧ .watch ∉ s.run.demands ∧ Source.all[1]? = some .platformStop ∧
       .platformStop ∈ s.run.demands ∧ causePersists s .platformStop = true ∧ Source.all[0]? = some .deskStop ∧
       .deskStop ∈ s.run.demands ∧ causePersists s .deskStop = false ∧
       (after (.stop 1) s).desk.urgent = s.desk.urgent ∧ (after (.clearStop 1 0) s).run.demands = [.platformStop] ∧ (after (.stop 1) running).run.state = .stopping) := by
  unfold DeskFree; decide

theorem witness_ResetTripReturnsToStopped :
    (let s := demands [.deskStop] (isIn .tripped init)
     DeskFree s ∧ s.run.state = .tripped ∧ (∀ x ∈ s.run.demands, x.cls ≠ .emergency) ∧ s.gov.v = 0 ∧
       (after (.resetTrip 1) s).run.state = .stopped ∧
       (∃ x ∈ (demands [.creep] s).run.demands, x.cls = .emergency) ∧ (onGov (fun g => { g with v := -1 }) s).gov.v ≠ 0) := by
  unfold DeskFree; decide

theorem witness_StopInputsRaiseTheirDemands :
    (let s := onRun (fun r => { r with platformStop := true, loopOpen := true }) stopped
     running.run.platformStop = false ∧ running.run.loopOpen = false ∧ s.run.platformStop = true ∧ s.run.loopOpen = true ∧
       (after (.platformStopInput false) s).run.platformStop = false ∧
       (after (.emergencyLoopInput true) running).run.state = .tripped) := by decide

theorem witness_WindowCountsReachTheirEnds :
    (let q := onRun (fun r => { r with quiet := 9 }) (isIn .stopping init)
     let o := onGov (fun g => { g with v := 351, overspeed := 2 }) running
     let e := onGov (fun g => { g with reference := 100, encoderLoss := 9 }) running
     let m := onGov (fun g => { g with firstWindow := false, missed := 4 }) running
     q.run.state = .stopping ∧ q.gov.reference = 0 ∧ q.gov.v = 0 ∧ 9 ≤ q.run.quiet ∧
       (after .quietWindows q).run.state = .stopped ∧
       (o.gov.reference : Int) + o.gov.settings.margin < o.gov.v ∧ 2 ≤ o.gov.overspeed ∧
       (after .overspeed o).run.demands = [.overspeed] ∧
       100 ≤ e.gov.reference ∧ e.gov.pf = 0 ∧ e.gov.pb = 0 ∧ 9 ≤ e.gov.encoderLoss ∧
       (after .encoderLoss e).run.demands = [.encoderLost] ∧
       m.gov.firstWindow = false ∧ m.gov.statusSeen = false ∧ m.gov.missed = 4 ∧
       (after .missedExchange m).run.demands = [.driveFault]) := by decide

theorem witness_WindowCountsReachTheirEnds_supervision :
    (let still (mm : Travel) := onGov (fun g => { g with creepBase := some 0, travel := mm }) stopped
     let back (b : Nat) := onGov (fun g => { g with pb := b, rollback := 295 }) running
     QuietCounted (onRun (fun r => { r with quiet := 9 }) (isIn .stopping init)) ∧ running.run.state ≠ .parked ∧
       (still 500).gov.creepBase = some 0 ∧ (after .windowEnd (still 500)).run.demands = [] ∧
       (after .windowEnd (still 501)).run.demands = [.creep] ∧
       (after .windowEnd (still 4294966795)).run.demands = [.creep] ∧
       (after .windowEnd (back 5)).gov.rollback = 300 ∧ (after .windowEnd (back 5)).run.demands = [] ∧
       (after .windowEnd (back 6)).gov.rollback = 0 ∧ Source.rollback ∈ (after .windowEnd (back 6)).run.demands) := by
  unfold QuietCounted; decide

/-! The speed governor -/

theorem witness_PulsesBecomeTravel :
    (let s (f b : Nat) := onGov (fun g => { g with pf := f, pb := b }) running
     (s 1 3999).gov.pf + (s 1 3999).gov.pb ≤ 4000 ∧ (after .windowEnd (s 1 3999)).gov.v = -1000 ∧
       4000 < (s 2 3999).gov.pf + (s 2 3999).gov.pb ∧ (after .windowEnd (s 2 3999)).run.demands = [.encoderLost] ∧
       (after (.encoderPulse false) (s 65535 0)).gov.pf = 65535 ∧ (after (.encoderPulse true) (s 0 0)).gov.pb = 1) := by
  decide

theorem witness_WindowEndFollowsTheLowestCeiling :
    (let s := onGov (fun g => { g with reference := 296 }) (isIn .starting running)
     s.run.state = .starting ∧ running.run.state = .running ∧ (after .windowEnd s).run.demands = [] ∧
       (after .windowEnd s).gov.reference = 300 ∧ (after .windowEnd s).run.state = .running) := by decide

theorem witness_WindowEndFollowsTheLowestCeiling_stopping :
    (let s (q r : Nat) := onGov (fun g => { g with reference := r }) (onRun (fun x => { x with quiet := q }) (isIn .stopping init))
     (s 8 8).run.state = .stopping ∧ (after .windowEnd (s 8 8)).run.quiet = 9 ∧
       (after .windowEnd (s 8 8)).run.state = .stopping ∧ (after .windowEnd (s 9 0)).run.state = .stopped ∧
       (after .windowEnd (s 9 0)).run.quiet = 0 ∧ (after .windowEnd (s 9 0)).gov.creepBase = some 0 ∧
       (after .windowEnd (s 9 9)).gov.reference = 1 ∧ (after .windowEnd (s 9 9)).run.quiet = 0 ∧
       (after .windowEnd stopped).gov.target = 0) := by decide

theorem witness_DriveStatusAndHoldTimerAct :
    (let s := onGov (fun g => { g with band := 1, hold := .running, wind := ⟨[⟨120, some 400⟩], 20, 60⟩ }) running
     parseStatus [0xD2, 0] = none ∧ parseStatus (statusRecord true false) = some ⟨true, false⟩ ∧
       parseStatus (statusRecord true true) = some ⟨false, true⟩ ∧
       (after (.driveStatus (statusRecord true true)) running).run.demands = [.driveFault] ∧
       s.gov.hold = .running ∧ (after .holdTimer s).gov.band = 0 ∧ (after .holdTimer s).gov.hold = .stopped) := by decide

theorem witness_GovernorSettingsAreTaken :
    (let g : GovernorSettings := { governorDefaults with max := 100, slow := 50 }
     DeskFree stopped ∧ stopped.run.state = .stopped ∧ settingsInRange g = true ∧
       (after (.setGovernor 1 g) stopped).gov.desk = 100 ∧ (after (.setSpeed 1 0) stopped).gov.desk = 50 ∧
       windInRange [(120, 400), (160, 0)] 20 60 = true ∧
       (after (.setWind 1 [(120, 400), (160, 0)] 20 60) stopped).gov.wind.bands = [⟨120, some 400⟩, ⟨160, none⟩]) := by
  unfold DeskFree; decide

/-! The terminal track -/

theorem witness_EntryJoinsTheBuffer :
    (let five := onTrack (fun k => { k with buffer := List.replicate 5 (car 0) }) running
     let six := onTrack (fun k => { k with buffer := List.replicate 6 (car 0) }) running
     let s := records [rope 4 .outbound, rope 5 .inbound, rope 6 .inbound] running
     6 ≤ six.track.buffer.length ∧ (after (.entry 1 false) six).run.demands = [.entryOverrun] ∧
       five.track.buffer.length < 6 ∧ (after (.entry 250 true) five).track.buffer.length = 6 ∧
       (∀ x ∈ five.roster.records, x.carrier.number = 250 → x.leg ≠ .inbound) ∧
       (∀ x ∈ five.roster.records, x.leg ≠ .inbound) ∧ (∀ p ∈ placed five, p.2.number ≠ 250) ∧
       (∃ p ∈ placed s, p.2.number = 4) ∧ (∀ x ∈ s.roster.records, x.carrier.number = 4 → x.leg ≠ .inbound) ∧
       s.roster.records = [rope 4 .outbound] ++ rope 5 .inbound :: [rope 6 .inbound] ∧
       (∀ y ∈ [rope 4 .outbound], y.leg ≠ .inbound) ∧
       (after (.entry 251 false) s).track.buffer.map (fun r => r.number) = [5]) := by decide

theorem witness_EntryJoinsTheBuffer_listed :
    (let s := records [rope 4 .inbound, rope 5 .inbound [.marked], rope 6 .inbound] running
     s.roster.records = [rope 4 .inbound] ++ rope 5 .inbound [.marked] :: [rope 6 .inbound] ∧
       (∀ y ∈ [rope 4 .inbound], y.leg = .inbound → y.carrier.number ≠ 5) ∧ s.track.buffer.length < 6 ∧
       (after (.entry 5 false) s).run.demands = [.order] ∧
       (after (.entry 5 false) s).track.buffer.map (fun r => (r.number, r.marks)) = [(5, [.marked])] ∧
       (after (.entry 5 false) s).roster.records.map (fun r => (r.carrier.number, r.carrier.marks)) =
         [(4, [.skipped]), (6, [])] ∧ (after (.entry 4 false) s).run.demands = [] ∧
       (after (.entry 5 false) (records [rope 5 .inbound [.noTest]] running)).track.buffer.map (fun r => r.marks) =
         [[.held, .noTest]]) := by decide

theorem witness_IndexStepEndsAsItShould :
    (let s := onTrack (fun k => { k with buffer := [car 1], berths := ⟨none, none, none, some (car 2)⟩,
                                         step := some ⟨5, false⟩, indexCommand := true }) running
     s.track.step = some ⟨5, false⟩ ∧ s.run.platformStop = false ∧
       (after .indexTimeLimit s).run.demands = [.indexJam] ∧
       (after .indexDone s).track.berths.v1 = some (car 1) ∧ ((after .indexDone s).berth .i1).occupied = true ∧
       running.track.step = none ∧ (after .indexDone running).track.discarded = 1) := by decide

theorem witness_GripResultCompletesTheLaunch :
    (let s := onTrack (fun k => { k with launch := some (car 8), launchCommand := true }) running
     parseGrip (gripRecord 1399) = some 1399 ∧ s.track.launch = some (car 8) ∧
       (after (.gripTestResult (gripRecord 1399)) s).run.demands = [.gripFail] ∧
       (after (.gripTestResult (gripRecord 1600)) s).roster.records.map (fun r => r.gripClass) = [.good] ∧
       (after (.gripTestResult (gripRecord 1600)) s).track.launch = none ∧
       running.track.launch = none ∧ (after (.gripTestResult (gripRecord 0)) running).track.discarded = 1) := by decide

def withBuffer (r : CarrierRec) : State := onTrack (fun k => { k with buffer := [r] }) stopped
def withLaunchBerth (r : CarrierRec) : State := onTrack (fun k => { k with launchBerth := some r }) stopped

theorem witness_NamedRecordRequestsAct :
    DeskFree (withBuffer (car 250)) ∧ bearers 250 (withBuffer (car 250)) = [(.buffer, car 250)] ∧
      Mark.held ∉ (car 250).marks ∧ bearers 1 (withBuffer (car 1 [.held])) = [(.buffer, car 1 [.held])] ∧
      bearers 7 (onTrack (fun k => { k with launch := some (car 7) }) stopped) = [(.launchRecord, car 7)] ∧
      bearers 7 (withLaunchBerth (car 7)) = [(.launchBerth, car 7)] ∧ bearers 1 (withBuffer (car 250)) = [] ∧
      bearers 9 (records [rope 9 .outbound] (withBuffer (car 250))) ≠ [] ∧
      bearers 9 (after (.renumber 1 250 1) (records [rope 9 .outbound] (withBuffer (car 250)))) =
        [(.roster, car 9)] ∧
      bearers 9 (after (.release 1 7) (records [rope 9 .outbound] (withLaunchBerth (car 7)))) = [(.roster, car 9)] ∧
      bearers 7 (after (.renumber 1 7 1) (withLaunchBerth (car 7))) = [] ∧
      (after (.hold 1 250) (withBuffer (car 250))).track.buffer = [car 250 [.held]] ∧
      (after (.release 1 1) (withBuffer (car 1 [.held]))).track.buffer = [car 1] ∧
      (after (.renumber 1 250 1) (withBuffer (car 250))).track.buffer = [car 1] ∧
      (after (.mark 1 250) (withBuffer (car 250))).track.buffer = [car 250 [.marked]] ∧
      (after (.unmark 1 1) (withBuffer (car 1 [.marked]))).track.buffer = [car 1] := by
  unfold DeskFree; decide

theorem witness_LaunchRequestsAct :
    (let s := onTrack (fun k => { k with launch := some (car 7) }) stopped
     DeskFree stopped ∧ stopped.track.launchBerth = none ∧ (withLaunchBerth (car 7)).track.launchBerth = some (car 7) ∧
       (after (.garage 1) (withLaunchBerth (car 7))).track.launchBerth = none ∧
       (after (.inhibitLaunch 1 true) stopped).track.inhibit = true ∧ s.run.state = .stopped ∧
       s.track.launch = some (car 7) ∧ s.gov.v = 0 ∧
       (after (.abandon 1) s).roster.records.map (fun r => r.gripClass) = [.noTest]) := by
  unfold DeskFree; decide

theorem witness_LaunchRequestsAct_declare :
    (let s := onTrack (fun k => { k with buffer := List.replicate 5 (car 0) }) init
     let m := onTrack (fun k => { k with launchBerth := some (car 250) }) init
     DeskFree s ∧ s.run.state = .parked ∧ declarePlace? 0 = some .buffer ∧ launchedBears 250 s = false ∧
       (inPlaces 250 s).length ≤ 1 ∧ s.track.buffer.length < 6 ∧ s.track.occupiedAt .buffer = false ∧
       inPlaces 250 s = [] ∧ (after (.declare 1 0 250) s).track.buffer.length = 6 ∧
       inPlaces 250 m ≠ [] ∧ (inPlaces 250 m).length ≤ 1 ∧ declarePlace? 1 = some (.berth .i1) ∧
       m.track.occupiedAt (.berth .i1) = false ∧ (after (.declare 1 1 250) m).track.berths.v1 = some (car 250)) := by
  unfold DeskFree; decide

/-- A state in which every condition of the launch gate holds, two of them at their limit. -/
def gated : State :=
  { onTrack (fun k => { k with launchBerth := some (car 7) }) running with update := ⟨100000, 100000, 0, 100, .running, false⟩ }

/-- With the gate's other conditions met, the result that ends one launch lets the next carrier go. -/
theorem witness_GripResultCompletesTheLaunch_gate :
    (let s := onTrack (fun k => { k with launch := some (car 8), launchCommand := true }) gated
     s.run.state = .running ∧ s.track.launchBerth = some (car 7) ∧
       (after (.gripTestResult (gripRecord 1600)) s).track.launchBerth = none ∧
       (after (.gripTestResult (gripRecord 1600)) s).track.launch =
         some { car 7 with releaseTravel := some s.update.t } ∧
       (after (.gripTestResult (gripRecord 1399)) s).track.launch = none) := by decide

theorem witness_LaunchGateAndTrackSettings :
    gated.track.launchBerth = some (car 7) ∧ gated.run.state = .running ∧
      (gated.track.settings.vMin : Int) ≤ gated.update.v ∧
      (gated.track.settings.spacing : Int) * 1000 ≤ (gated.update.t - gated.track.releaseMark).toInt ∧
      gated.track.launch = none ∧ gated.roster.records.length < 96 ∧ gated.track.inhibit = false ∧
      gated.line.control.length < 16 ∧ (gateTest gated).track.launchCommand = true ∧
      gateTest (onTrack (fun k => { k with inhibit := true }) gated) =
        onTrack (fun k => { k with inhibit := true }) gated ∧
      DeskFree stopped ∧ (after (.setSpacing 1 20 400) stopped).track.settings.vMin = 400 ∧
      (after (.setTrack 1 3 30 true) stopped).track.settings.limit = 30 ∧
      (after (.setGrip 1 100 4000) stopped).track.settings.fOk = 4000 := by
  unfold DeskFree; decide

/-- The gate's conditions hold but for the launch berth's record or the inhibit, and counter 1 counts launches. -/
def launching (r : CarrierRec) (inhibit : Bool) : State :=
  onCounter .i1 (fun c => { c with event := 1, mask := [.running], action := .stop })
    (onTrack (fun k => { k with launchBerth := some r, inhibit := inhibit }) gated)

theorem witness_launches_count :
    (let held := launching (car 7 [.held]) false
     DeskFree held ∧ bearers 7 held = [(.launchBerth, car 7 [.held])] ∧ bearers 8 held = [] ∧
       (after (.release 1 7) held).track.launch.map (fun r => r.number) = some 7 ∧
       (after (.release 1 7) held).run.demands = [.counter] ∧
       (after (.release 1 7) (launching (car 7 [.held]) true)).track.launchBerth = some (car 7) ∧
       (after (.renumber 1 7 8) (launching (car 7) false)).track.launch.map (fun r => r.number) = some 8 ∧
       (after (.renumber 1 7 8) (launching (car 7) false)).run.demands = [.counter] ∧
       (after (.inhibitLaunch 1 false) (launching (car 7) true)).track.launchBerth = none ∧
       (after (.inhibitLaunch 1 false) (launching (car 7) true)).run.demands = [.counter] ∧
       (after (.setSpacing 1 20 50) (launching (car 7) false)).track.launchBerth = none ∧
       (after (.setSpacing 1 20 50) (launching (car 7) false)).run.demands = [.counter]) := by
  unfold DeskFree; decide

/-! The berths -/

theorem witness_DoorTimersAct_opening :
    (let rec1 := onBerth .i1 (timed .locked .recovery) running
     let unl := onBerth .i1 (timed .unlocking .unlock) running
     let op (m : BerthMode) := onBerth .i1 (fun b => { timed .opening .run b with motionSeen := true, grant := true, mode := m }) running
     (rec1.berth .i1).state = .locked ∧ (rec1.berth .i1).timer = some (.recovery, 7) ∧ rec1.run.platformStop = false ∧
       ((after (.recoveryTimer .i1) rec1).berth .i1).timer = none ∧
       (unl.berth .i1).state = .unlocking ∧ (unl.berth .i1).timer = some (.unlock, 7) ∧
       (unl.berth .i1).senses.lockConfirm = false ∧ (unl.berth .i1).mode = .auto ∧ (∀ e ∈ unl.supply.wait, e.1 ≠ .i1) ∧
       ((after (.unlockTimer .i1) unl).berth .i1).state = .opening ∧
       ((op .auto).berth .i1).motionSeen = true ∧ (op .auto).supply.wait = [] ∧ ((op .auto).berth .i1).holdOpen = false ∧
       ((op .auto).berth .i1).reopens = 0 ∧
       ((after (.openingEnd .i1) (op .auto)).berth .i1).timer = some (.dwell, 15000) ∧
       ((after (.openingEnd .i1) (op .manual)).berth .i1).timer = none) := by decide

theorem witness_DoorTimersAct_reopened :
    (let op := onBerth .i1 (fun b => { timed .opening .run b with motionSeen := true, grant := true, reopens := 1 }) running
     let waits := onSupply (fun x => { x with wait := [(.i2, .opening)] }) (onBerth .i2 (fun b => { b with state := .unlocked })
       (onBerth .i1 (fun b => { timed .closing .run b with motionSeen := true, grant := true, mode := .manual }) running))
     (op.berth .i1).reopens ≠ 0 ∧ (op.berth .i1).mode = .auto ∧ (op.berth .i1).senses.obstruction = false ∧
       ((after (.openingEnd .i1) op).berth .i1).state = .closing ∧ waits.supply.wait ≠ [] ∧
       (∀ e ∈ waits.supply.wait, e.1 ≠ .i1) ∧ ((after (.closingEnd .i1) waits).berth .i1).state = .closed ∧
       ((after (.closingEnd .i1) waits).berth .i2).state = .opening) := by decide

theorem witness_DoorTimersAct_closing :
    (let dw := onBerth .i1 (timed .opened .dwell) running
     let cl := onBerth .i1 (fun b => { timed .closing .run b with motionSeen := true, grant := true }) running
     let lk := onBerth .i1 (timed .locking .lock) running
     let hm (n : Nat) := onBerth .i1 (fun b => { timed .homing .run b with
       grant := true, homingRun := n, senses := { b.senses with lockConfirm := true } }) running
     (dw.berth .i1).state = .opened ∧ (dw.berth .i1).timer = some (.dwell, 7) ∧
       (dw.berth .i1).senses.obstruction = false ∧ dw.supply.wait = [] ∧
       ((after (.dwellExpiry .i1) dw).berth .i1).state = .closing ∧
       (cl.berth .i1).state = .closing ∧ (cl.berth .i1).motionSeen = true ∧ (cl.berth .i1).senses.lockConfirm = false ∧
       ((after (.closingEnd .i1) cl).berth .i1).state = .locking ∧
       (lk.berth .i1).timer = some (.lock, 7) ∧ ((after (.lockTimer .i1) lk).berth .i1).reason = .lockTimeout ∧
       ((hm 1).berth .i1).homingRun ≤ 1 ∧ ((after (.homingRunEnd .i1) (hm 1)).berth .i1).homingRun = 2 ∧
       1 < ((hm 2).berth .i1).homingRun ∧ ((hm 2).berth .i1).settings.tRecover ≠ 0 ∧
       ((after (.homingRunEnd .i1) (hm 2)).berth .i1).state = .locked ∧
       (running.berth .i1).timer = none ∧ (onRun (fun r => { r with platformStop := true }) dw).run.platformStop = true) := by
  decide

theorem witness_SensesActAsArrivals :
    (let s (st : BerthState) := onBerth .i1 (fun b => { b with state := st, grant := true, occupied := true }) running
     let stepping := onTrack (fun k => { k with step := some ⟨5, false⟩ }) (s .locked)
     ((s .closing).berth .i1).senses = ⟨false, false, false, false⟩ ∧ ((s .closing).berth .i1).state = .closing ∧
       ((after (.motionComplete .i1 true) (s .closing)).berth .i1).closeTime = some 0 ∧
       ((after (.motionComplete .i1 true) (s .opening)).berth .i1).motionSeen = true ∧
       ((after (.lockConfirm .i1 true) (s .locking)).berth .i1).cycleComplete = true ∧
       ((after (.obstruction .i1 true) (s .closing)).berth .i1).state = .opening ∧
       ((s .homing).berth .i1).grant = true ∧
       ((after (.obstruction .i1 true) (s .homing)).berth .i1).reason = .homingObstructed ∧
       ¬ (((s .opened).berth .i1).state = .locked ∧ (s .opened).track.step.isSome = true) ∧
       ((after (.driveFaultSense .i1 true) (s .opened)).berth .i1).state = .fault ∧
       (stepping.berth .i1).state = .locked ∧ stepping.track.step.isSome = true ∧
       ((after (.driveFaultSense .i1 true) stepping).berth .i1).faultPending = true) := by decide

theorem witness_MotionSupplyGrantsTheFirstEntry :
    (let s := onSupply (fun x => { x with wait := [(.i2, .opening)], sinceGrant := some 249 })
       (onBerth .i2 (fun b => { b with state := .unlocked }) running)
     s.supply.sinceGrant = some 249 ∧ 249 < s.supply.gap ∧ supplyTest s = s ∧ (grantHolders s).length < 2 ∧
       s.supply.wait = (.i2, .opening) :: [] ∧ s.run.platformStop = false ∧ 0 < s.supply.gap ∧
       ((after .startGapEnd s).berth .i2).state = .opening ∧
       ((supplyTest (onSupply (fun x => { x with sinceGrant := none }) s)).berth .i2).grant = true ∧
       running.supply.sinceGrant = none ∧
       (onSupply (fun x => { x with sinceGrant := some 250 }) running).supply.wait = [] ∧ DeskFree stopped ∧
       (after (.setMotion 1 2000) stopped).supply.gap = 2000) := by
  unfold DeskFree; decide

theorem witness_MotionSupplyGrantsTheFirstEntry_kinds :
    (let s (gap : Nat) (st : BerthState) (blocked : Bool) (w : List (Idx4 × Motion)) :=
       onSupply (fun x => { x with wait := w, gap := gap })
         (onBerth .i1 (fun b => { b with state := st, senses := { b.senses with obstruction := blocked } }) running)
     let close : List (Idx4 × Motion) := [(.i1, .closing)]
     (grantHolders (s 250 .opened false close)).length < 2 ∧ 0 < (s 250 .opened false close).supply.gap ∧
       (s 250 .opened false close).supply.sinceGrant = none ∧
       ((supplyTest (s 250 .opened false close)).berth .i1).state = .closing ∧
       ((supplyTest (s 250 .opened true close)).berth .i1).reopens = 1 ∧
       (supplyTest (s 250 .opened true close)).supply.wait = close ∧
       ((supplyTest (s 250 .homing false [(.i1, .homing)])).berth .i1).homingRun = 1 ∧
       ((supplyTest (s 250 .homing true [(.i1, .homing)])).berth .i1).reason = .homingObstructed ∧
       grantHolders (s 0 .unlocked false [(.i1, .opening), (.i2, .opening)]) = [] ∧
       grantHolders (supplyTest (s 0 .unlocked false [(.i1, .opening), (.i2, .opening)])) = [.i1, .i2] ∧
       (s 0 .unlocked false []).supply.gap = 0) := by decide

theorem witness_BerthSettingsAreTaken :
    (let r : BerthRequest := ⟨3, 100, 500, 2, 500, 100, 0, 1⟩
     let locked := onBerth .i4 (fun b => { b with state := .locked, occupied := true }) stopped
     roleOf? r.role = some .pass ∧ berthInRange r = true ∧ berthInRange { r with maxReopens := 6 } = false ∧
       DeskFree locked ∧ (locked.berth .i4).state = .locked ∧ (locked.berth .i4).occupied = true ∧
       ((after (.setBerth 1 4 r) locked).berth .i4).settings.maxReopens = 1 ∧
       ((onBerth .i4 (manual .opened) stopped).berth .i4).state ≠ .parked) := by
  unfold DeskFree; decide

theorem witness_ManualCommandsAct :
    (let s (st : BerthState) := onBerth .i2 (manual st) stopped
     DeskFree (s .locked) ∧ ((s .locked).berth .i2).mode = .manual ∧ ((s .locked).berth .i2).timer = none ∧
       (s .locked).track.step = none ∧ (s .locked).run.state ≠ .waking ∧
       ((after (.unlock 1 2) (s .locked)).berth .i2).state = .unlocking ∧
       (onTrack (fun k => { k with step := some ⟨5, false⟩ }) (s .locked)).track.step.isSome = true ∧
       (s .unlocked).supply.wait = [] ∧ ((after (.openDoors 1 2) (s .unlocked)).berth .i2).state = .opening ∧
       ((s .opened).berth .i2).senses.obstruction = false ∧
       ((after (.closeDoors 1 2) (s .opened)).berth .i2).state = .closing ∧
       ((s .closed).berth .i2).senses.lockConfirm = false ∧
       ((after (.lock 1 2) (s .closed)).berth .i2).state = .locking ∧ ((s .homing).berth .i2).state = .homing) := by
  unfold DeskFree; decide

theorem witness_AttendedCommandsAct :
    (let s (st : BerthState) := onBerth .i2 (fun b => { b with state := st, occupied := true }) stopped
     let faulted := onBerth .i2 (fun b => { b with state := .fault, senses := { b.senses with driveFault := true } }) init
     DeskFree (s .opened) ∧ ((s .opened).berth .i2).holdOpen = false ∧ (s .opened).supply.wait = [] ∧
       ((after (.holdOpen 1 2) (s .opened)).berth .i2).holdOpen = true ∧
       ((after (.holdOpen 1 2) (s .opening)).berth .i2).holdOpen = true ∧
       ((after (.endDwell 1 2) (s .opened)).berth .i2).state = .closing ∧
       ((after (.reopen 1 2) (s .closing)).berth .i2).state = .opening ∧
       ((after (.reopen 1 2) (s .closed)).berth .i2).reopens = 1 ∧ ((s .locked).berth .i2).cycleComplete = false ∧
       ((after (.skipCycle 1 2) (s .locked)).berth .i2).cycleComplete = true ∧
       (faulted.berth .i2).senses.driveFault = true ∧
       ((after (.clearFault 1 2) (isIn .parked (s .fault))).berth .i2).state = .parked ∧
       ((after (.clearFault 1 2) (s .fault)).berth .i2).state = .homing ∧ modeOf? 0 = some ((s .locked).berth .i2).mode ∧
       modeOf? 1 = some .manual ∧ ((after (.setMode 1 2 1) (s .locked)).berth .i2).mode = .manual) := by
  unfold DeskFree; decide

/-! The roster and the tower string -/

theorem witness_ExpectedArrivalReachesTheSummit :
    (let s := records [rope 1 .atSummit, rope 250 .outbound [.skipped], rope 3 .outbound] running
     s.roster.records = [rope 1 .atSummit] ++ rope 250 .outbound [.skipped] :: [rope 3 .outbound] ∧
       (∀ x ∈ [rope 1 .atSummit], x.leg ≠ .outbound) ∧
       (after (.passageFrame false 250 0) s).roster.records.map (fun r => (r.leg, r.overdue, r.carrier.marks)) =
         [(.atSummit, true, []), (.atSummit, false, []), (.outbound, true, [])]) := by decide

theorem witness_OtherPassagesMoveTheRecord :
    (let s := records [rope 1 .outbound, rope 2 .outbound, rope 3 .atSummit] running
     s.roster.records = [rope 1 .outbound] ++ rope 2 .outbound :: [rope 3 .atSummit] ∧
       (∀ x ∈ [rope 1 .outbound], x.leg = .outbound → x.carrier.number ≠ 2) ∧
       (∃ x ∈ [rope 1 .outbound], x.leg = .outbound) ∧ (after (.passageFrame false 2 0) s).run.demands = [.order] ∧
       s.roster.records = [rope 1 .outbound, rope 2 .outbound] ++ rope 3 .atSummit :: [] ∧
       (∀ x ∈ [rope 1 .outbound, rope 2 .outbound], x.leg ≠ .inbound → x.carrier.number ≠ 3) ∧
       (after (.passageFrame true 3 255) s).roster.records.map (fun r => r.leg) = [.outbound, .outbound, .inbound] ∧
       (∀ x ∈ s.roster.records, x.carrier.number ≠ 250)) := by decide

theorem witness_RosterRequestsAct :
    (let s := records [rope 1 .outbound, rope 250 .atSummit] stopped
     DeskFree s ∧ s.roster.records = [rope 1 .outbound] ++ rope 250 .atSummit :: [] ∧
       (∀ x ∈ [rope 1 .outbound], x.carrier.number ≠ 250) ∧ running.run.state ≠ .stopped ∧ running.run.state ≠ .tripped ∧
       (∀ x ∈ s.roster.records, x.carrier.number ≠ 2) ∧
       (after (.removeCarrier 1 250) s).roster.records = [rope 1 .outbound] ∧ s.run.state = .stopped ∧
       (after (.setGeometry 1 500 9000 10) s).roster.lDown = 9000) := by
  unfold DeskFree; decide

theorem witness_PositionsFollowTheRope :
    (let s := onGov (fun g => { g with travel := 4101000 }) (records [rope 1 .outbound] running)
     (after .windowEnd s).roster.records.map (fun r => r.position) = [4101000] ∧
       (after .windowEnd s).run.demands = [.missing]) := by decide

/-- An Inbound record one millimetre past the slack, and one past twice the slack. -/
theorem witness_PositionsFollowTheRope_inbound :
    (let at_ (mm : Nat) := after .windowEnd
       (onGov (fun g => { g with travel := .ofNat _ mm }) (records [{ rope 1 .inbound with overdue := false }] running))
     (at_ 4050001).roster.records.map (fun r => (r.position, r.overdue)) = [(8050001, true)] ∧
       (at_ 4050001).run.demands = [] ∧ (at_ 4050000).roster.records.map (fun r => r.overdue) = [false] ∧
       (at_ 4100000).run.demands = [] ∧ (at_ 4100001).run.demands = [.missing]) := by decide

/-- Slot 1 in use, with a transaction in flight. -/
def polled (t : Option Transaction) (x : Slot) : State :=
  onScanner (fun c => { c with slots := x :: c.slots.tail, transaction := t, pollNumber := 255 }) running

theorem witness_TransactionsRun :
    (polled (some ⟨1, false, 3, none⟩) (tower 5)).scanner.transaction = some ⟨1, false, 3, none⟩ ∧
      (after .pollSent (polled (some ⟨1, false, 3, none⟩) (tower 5))).scanner.transaction = some ⟨1, false, 3, some 8⟩ ∧
      (after .replyTimer (polled (some ⟨1, false, 3, some 0⟩) (tower 5))).scanner.pollNumber = 0 ∧
      slotAt 1 (polled (some ⟨1, true, 3, some 0⟩) (tower 5)) = some (tower 5) ∧
      (after .replyTimer (polled (some ⟨1, true, 3, some 0⟩) (tower 5))).scanner.transaction = none ∧
      (∃ x ∈ (polled none (tower 5)).scanner.slots, x.used = true) ∧
      (after .transactionStart (polled none (tower 5))).scanner.transaction = some ⟨1, false, 255, none⟩ ∧
      (after .parkedPollTimer (isIn .parked (polled none (tower 5)))).scanner.parkedTimer = some 250 := by decide

/-- Slots 1 to 3 in use, slot 2 with a point out of Normal. -/
def string (pass : Pass) (at_ : Nat) : State :=
  onScanner (fun c => { c with
    slots := tower 5 :: { tower 6 with codes := ⟨.offsetIn, .normal, .normal, .disabled⟩ } :: tower 7 :: c.slots.drop 3
    pass := pass, passSlot := at_, lastPolled := at_ }) running

theorem witness_TransactionsRun_rounds :
    (let slotOf (s : State) := s.scanner.transaction.map (fun x => x.slot)
     slotOf (after .transactionStart (string .main 1)) = some 2 ∧
       (after .transactionStart (string .main 3)).scanner.pass = .extra ∧
       slotOf (after .transactionStart (string .main 3)) = some 2 ∧
       (after .transactionStart (string .extra 2)).scanner.pass = .main ∧
       slotOf (after .transactionStart (string .extra 2)) = some 1 ∧
       slotOf (after .parkedPollTimer (isIn .parked (string .main 1))) = some 2 ∧
       slotOf (after .parkedPollTimer (isIn .parked (string .main 3))) = some 1 ∧
       (isIn .parked (polled (some ⟨1, false, 3, none⟩) (tower 5))).scanner.transaction.isSome = true) := by decide

/-- A slot past the k-th is as the slots past it all are. -/
theorem slotAt_past {k n : Nat} {s : State} {y : Slot} {p : Slot → Bool}
    (h : (s.scanner.slots.drop k).all p = true) (hn : k < n) (hy : slotAt n s = some y) : p y = true := by
  unfold slotAt at hy
  split at hy
  · omega
  · refine List.all_eq_true.mp h y (List.mem_of_getElem? (i := n - 1 - k) ?_)
    rw [List.getElem?_drop, ← hy]
    congr 1
    omega

/-- The rounds' conditions on the slots are met: slot 2 follows slot 1 in the main pass; past slot 3 comes the extra
pass, with slot 2 its first; and past slot 2 of the extra pass the next main pass, with slot 1 its first. -/
theorem witness_TransactionsRun_slots :
    (∀ n y, n < 2 → (string .main 1).scanner.passSlot < n → slotAt n (string .main 1) = some y → y.inPass .main = false) ∧
      (∀ n y, (string .main 3).scanner.passSlot < n → slotAt n (string .main 3) = some y → y.used = false) ∧
      (∀ n y, n < 2 → slotAt n (string .main 3) = some y → y.used = true → y.nonNormal = false) ∧
      (∀ n y, (string .extra 2).scanner.passSlot < n → slotAt n (string .extra 2) = some y → y.inPass .extra = false) ∧
      ((slotAt 2 (string .main 1)).map fun y => (y.inPass .main, y.used, y.nonNormal)) = some (true, true, true) := by
  refine ⟨fun n y h1 h2 => absurd (Nat.lt_of_lt_of_le h2 (Nat.le_of_lt_succ h1)) (by decide), fun n y h hy => ?_,
    fun n y h hy => ?_, fun n y h hy => ?_, by decide⟩
  · simpa using slotAt_past (p := fun x => !x.used) (by decide) h hy
  · match n, h with
    | 0, _ => simp [slotAt] at hy
    | 1, _ => exact fun _ => (Option.some.inj hy) ▸ by decide
  · simpa using slotAt_past (p := fun x => !x.inPass .extra) (by decide) h hy

theorem witness_TowerEventsAreTaken :
    (let f : TowerFrame := ⟨5, 3, ⟨3, 1, 2, 7⟩⟩
     let s := polled (some ⟨1, false, 3, some 8⟩) (tower 5)
     let stale := polled none { tower 5 with deadline := .stale }
     parseReply [] = none ∧ parseReply (replyFrame f) = some f ∧ s.scanner.transaction = some ⟨1, false, f.number, some 8⟩ ∧
       slotAt 1 s = some (tower 5) ∧ (tower 5).address = some f.address ∧ (tower 5).enables.get .i4 = false ∧
       (tower 5).latches.get .i1 = .clear ∧ (after (.towerReply (replyFrame f)) s).run.demands = [.towerOut] ∧
       ((slotAt 1 (after (.towerReply (replyFrame f)) s)).map fun y => (y.codes, y.latches)) =
         some (⟨.out, .offsetIn, .offsetOut, .disabled⟩, ⟨.out, .clear, .clear, .clear⟩) ∧
       (after (.towerReply (replyFrame f)) running).scanner.late = 1 ∧
       (after (.towerReply (replyFrame { f with number := 2 })) s).scanner.late = 1 ∧
       (after (.towerReply (replyFrame { f with number := 2 })) s).scanner.transaction = s.scanner.transaction ∧
       parseReply (replyFrame { f with address := 6 }) = some { f with address := 6 } ∧
       (after (.towerReply (replyFrame { f with address := 6 })) s).scanner = s.scanner ∧
       (tower 5).used = true ∧ (tower 5).deadline = .within ∧
       (after (.towerStale 1) (polled none (tower 5))).gov.towerCeiling = true ∧
       slotAt 1 stale = some { tower 5 with deadline := .stale } ∧
       (after (.towerSilent 1) stale).run.demands = [.towerSilent]) := by decide

theorem witness_ScannerRequestsAct :
    (let s := isIn .stopped (polled none { tower 5 with age := 600 })
     let latched := polled none { tower 5 with latches := ⟨.out, .clear, .clear, .clear⟩ }
     DeskFree s ∧ slotAt 24 s = some Slot.unused ∧ Slot.unused.latched = false ∧
       ((slotAt 24 (after (.setTower 1 24 63 18000 6) s)).map fun y => (y.address, y.enables)) =
         some (some 63, ⟨false, true, true, false⟩) ∧
       init.run.state = .parked ∧ (after (.setScan 1 2000) init).scanner.deadline = 2000 ∧ s.run.state ≠ .parked ∧
       s.scanner.slots.length = 24 ∧ ((slotAt 1 (after (.setScan 1 200) s)).map fun y => y.deadline) = some .silent ∧
       ((slotAt 1 (after (.setScan 1 300) s)).map fun y => y.deadline) = some .stale ∧
       slotAt 25 s = none ∧ Slot.unused.used = false ∧ (tower 5).used = true ∧
       (tower 5).latches.get .i4 = .clear ∧ (tower 5).codes.get .i1 = .normal ∧
       ((slotAt 1 (after (.ackTower 1 1 0) latched)).map fun y => y.latches) = some (Quad.all4 .clear) ∧
       { tower 5 with latches := ⟨.out, .clear, .clear, .clear⟩, codes := ⟨.out, .normal, .normal, .disabled⟩ }.codes.get
         .i1 ≠ .normal) := by
  unfold DeskFree; decide

/-- Stopped, with the transaction of the pass in flight to the slot last taken. -/
def stringTo (pass : Pass) (n : Nat) : State :=
  isIn .stopped (onScanner (fun c => { c with transaction := some ⟨n, false, 3, none⟩ }) (string pass n))

/-- SetTower on the slot in flight: past the last slot of the main pass the extra due of slot 2 is set, in the middle of
the pass and in Parked the other slots stay, and with another slot in flight the transaction stays. -/
theorem witness_ScannerRequestsAct_inFlight :
    (let s := stringTo .main 3
     let set (n : Nat) : Instr := .setTower 1 n 9 100 3
     let due (s : State) := (s.scanner.slots.take 3).map fun x => x.extraDue
     DeskFree s ∧ s.run.state = .stopped ∧ s.scanner.transaction.map (fun x => x.slot) = some 3 ∧
       slotAt 3 s = some (tower 7) ∧ (tower 7).latched = false ∧ 3 ≤ s.scanner.passSlot ∧
       (after (set 3) s).scanner.transaction = none ∧ (after (set 3) s).scanner.pass = .extra ∧
       due (after (set 3) s) = [false, true, false] ∧ (after (set 3) s).scanner.pauseTimer = some 1 ∧
       (after (set 1) (stringTo .main 1)).scanner.pass = .main ∧ due (after (set 1) (stringTo .main 1)) = due s ∧
       due (after (set 3) (isIn .parked s)) = due s ∧ (after (set 1) s).scanner.transaction = s.scanner.transaction) ∧
    ∀ n x, n ≠ 3 → (stringTo .main 3).scanner.passSlot < n → slotAt n (stringTo .main 3) = some x → x.used = false := by
  refine ⟨by unfold DeskFree; decide, fun n x _ h hx => ?_⟩
  simpa using slotAt_past (p := fun y => !y.used) (by decide) h hx

/-! Event counters and position watches -/

/-- Counter 1 on event 4 below 1500, and counter 2 chained to it. -/
def counting (value : Nat) : State :=
  onCounter .i1 (fun c => { c with event := 4, value := value, preset := 2, mask := [.running], threshold := 1500,
                                   action := .slow }) running

theorem witness_CountingConditions :
    (let ev : CounterEvent := { code := 4, carrier := some (7, true), value := 1499 }
     ((counting 2).counter .i1).event = ev.code ∧ (counting 2).run.state ∈ ((counting 2).counter .i1).mask ∧
       ((counting 2).counter .i1).qualifier = .all ∧ ev.value < ((counting 2).counter .i1).threshold ∧
       ((counting 2).counter .i1).frozen = false ∧ ((counting 2).counter .i1).chained = false ∧
       ((counterTake .i1 ev (counting 2)).counter .i1).value = 1 ∧
       ((counterTake .i1 ev (counting 1)).counter .i1).alarm = true ∧
       ((counterTake .i1 { ev with value := 1500 } (counting 2)).counter .i1).value = 2) := by decide

theorem witness_CounterExpiryActs :
    (let s (a : CounterAction) := onCounter .i3 (fun c => { c with event := 8, mask := [.running], action := a }) running
     ((s .stop).counter .i3).event = 8 ∧ (s .stop).run.state ∈ ((s .stop).counter .i3).mask ∧
       ((s .stop).counter .i3).qualifier = .all ∧ ((s .stop).counter .i3).frozen = false ∧
       ((s .stop).counter .i3).chained = false ∧ ((s .stop).counter .i3).value = 1 ∧
       (after (.counterExpiry .i3 { code := 8 }) (s .stop)).run.demands = [.counter] ∧
       (after (.counterExpiry .i3 { code := 8 }) (s .slow)).gov.counterCeiling = true ∧
       (after (.counterExpiry .i3 { code := 8 }) (s .report)).run.demands = []) := by decide

theorem witness_CounterExpiryActs_window :
    (let s (alarm : Bool) := onCounter .i2 (fun c => { c with event := 8, preset := 9, value := 4, window := 2, alarm := alarm })
       (onGov (fun g => { g with travel := 1999999, pf := 1 }) running)
     ((s false).counter .i2).event ∉ [1, 13, 14, 15] ∧ ((after .windowEnd (s false)).counter .i2).value = 9 ∧
       ((after .windowEnd (s true)).counter .i2).value = 4 ∧ (after .windowEnd (s true)).counters.heldT = 2000000) := by
  decide

theorem witness_ArmCounterReloads :
    DeskFree (counting 1) ∧ ((after (.armCounter 1 0) (counting 1)).counter .i1).value = 2 ∧
      ((after (.armCounter 1 4) (counting 1)).counter .i1).value = 1 := by
  unfold DeskFree; decide

theorem witness_CounterAndWatchSettingsAreTaken :
    (let r : CounterRequest := ⟨16, 65535, 127, 2, 0, 2, true, 0, true⟩
     let w : WatchRequest := ⟨18000, 1024, 2, 2, true, true⟩
     DeskFree stopped ∧ qualifierOf? r.qualifier = some .unmarked ∧ counterActionOf? r.action = some .stop ∧
       counterInRange .i2 r = true ∧ ((after (.setCounter 1 2 r) stopped).counter .i2).value = 65535 ∧
       counterInRange .i2 { r with event := 4, threshold := 1500 } = true ∧
       ((after (.setCounter 1 2 { r with event := 4, threshold := 1500 }) stopped).counter .i2).threshold = 1500 ∧
       ((after (.setCounter 1 2 { r with event := 5, threshold := 1500 }) stopped).counter .i2).threshold = 0 ∧
       watchKindOf? w.kind = some .both ∧ watchActionOf? w.action = some .stop ∧ watchInRange w = true ∧
       ((after (.setWatch 1 2 w) stopped).watches.units.get .i2).base = 18000 ∧
       ((after (.clearHits 1 0) stopped).watches.units.get .i4).hit = false) := by
  unfold DeskFree; decide

/-- Watch 2 on metres 16 to 31, and a record on the rope at its position. -/
def watching (a : WatchAction) (mm : Int) (prev : Option Int) : State :=
  let w : Watch := ⟨20, 16, .both, a, true, true, false⟩
  let s := records [{ rope 9 .outbound with position := mm, updateCoord := prev, prevCoord := prev }]
    (onGov (fun g => { g with travel := BitVec.ofInt 32 mm }) running)
  { s with watches := { s.watches with units := s.watches.units.set .i2 w } }

theorem witness_PositionWatchesActOnOccasions :
    (let w := (watching .stop 0 none).watches.units.get .i2
     let inside := { rope 9 .outbound with position := 16000 }
     let e : TowerEvent := ⟨.stale, 1, 5, none, 31⟩
     let stops : WatchMatch := ⟨.i2, some 9, false, none, 16, true, true⟩
     let off : WatchMatch := ⟨.i1, none, false, none, 16, false, false⟩
     (carrierMatch? .i2 w inside).isSome = true ∧ (carrierMatch? .i2 w { inside with position := 15999 }).isSome = false ∧
       (carrierMatch? .i2 w { inside with prevCoord := some 31 }).isSome = false ∧
       (carrierMatch? .i2 w { inside with exempt := [.i2] }).isSome = false ∧
       (towerMatches e (watching .note 0 none)).map (fun m => m.watch) = [.i2] ∧
       (∀ m ∈ [off], m.enabled = false) ∧ (∃ m ∈ [off, stops], m.enabled = true) ∧
       (occasion [off, stops] (watching .stop 16000 none)).run.demands = [.watch] ∧
       (occasion [off, stops] (watching .stop 16000 none)).watches.units.map (fun x => x.hit) =
         ⟨true, true, false, false⟩ ∧
       (occasion [off, stops] (watching .stop 16000 none)).roster.records.map (fun r => r.exempt) = [[.i2]] ∧
       (∀ m ∈ [{ stops with raised := false }], m.raised = false) ∧
       (occasion [{ stops with raised := false }] (watching .note 16000 none)).desk.others.length = 1) ∧
    ∀ i, ((watching .note 16000 none).counter i).event ≠ 14 := by
  exact ⟨by decide, fun i => by cases i <;> decide⟩

theorem witness_PositionWatchesActOnOccasions_window :
    (let t := after .windowEnd (watching .stop 16000 (some 15))
     t.run.demands = [.watch] ∧ t.roster.records.map (fun r => r.exempt) = [[.i2]] ∧
       (t.watches.units.get .i2).hit = true ∧ (t.watches.units.get .i2).enabled = true ∧
       (after .windowEnd (watching .stop 16000 (some 16))).run.demands = [] ∧
       (after .windowEnd (watching .slow 16000 none)).gov.watchCeiling = true) := by decide

/-! The summit line -/

def receiving (bits : List Bool) : State := onLine (fun l => { l with receiver := .receiving, rxBits := bits }) running

def passageBody : List Byte := [1, 2, 2, 9, 0, 0] ++ fcs [1, 2, 2, 9, 0, 0]

theorem witness_FramesComeThroughTheReceiver :
    (let s := receiving (passageBody.flatMap byteBits)
     parseBody passageBody = .passage false 9 0 ∧ s.line.receiver = .receiving ∧
       s.line.rxBits = passageBody.flatMap byteBits ∧
       (after .flagReceived (records [rope 9 .outbound] s)).roster.records.map (fun r => r.leg) = [.atSummit] ∧
       parseBody [1, 2, 2, 9, 0, 0, 0, 0] = .bad .fcs ∧ 8 ≤ (receiving (List.replicate 8 true)).line.rxBits.length ∧
       (receiving (List.replicate 7 true)).line.rxBits.length < 8 ∧ running.line.receiver = .hunting ∧
       (receiving [true]).line.rxBits.length % 8 ≠ 0 ∧ (after .flagReceived (receiving [true])).line.counts.lengthErrors = 1 ∧
       (after .abortReceived (receiving (List.replicate 8 true))).line.counts.aborts = 1 ∧
       (after .flagTimer s).line.receiver = .hunting ∧ (after .flagReceived running).line.receiver = .idle) := by decide

theorem witness_FramesComeThroughTheReceiver_bits :
    accumulate [true, false] [] 5 = some ([true, false], 0) ∧ accumulate [false, true] [] 5 = some ([true], 1) ∧
      accumulate [true] (List.replicate 583 false) 0 = none ∧
      (after (.bodyBitsReceived [true]) (receiving (List.replicate 583 false))).line.counts.lengthErrors = 1 ∧
      (after (.bodyBitsReceived [true]) (receiving [])).line.rxBits = [true] ∧ passageBody.length ≤ 72 ∧
      wireBits [0x1F] = [true, true, true, true, true, false] ++ [false, false, false] ∧
      accumulate [true, true, true, true, true, false] [] 0 = some (List.replicate 5 true, 0) ∧
      (after (.frameError .fcs) running).line.counts.fcsErrors = 1 := by decide

theorem witness_BeatsAndTheirAbsenceAct :
    (let b : BeatFields := ⟨0, false, .service, true, .running, 801, 601, 1000⟩
     let s (n : Nat) := onLine (fun l => { l with supervision := some 0, heard := true, lastBeat := some 255, miss := n }) running
     (s 0).line.heard = true ∧ (s 0).line.lastBeat = some 255 ∧ b.number = (255 + 1) % 256 ∧
       (after (.summitBeat b) (s 0)).line.counts.beatsMissed = 0 ∧
       (after (.summitBeat b) (s 0)).gov.summitCeiling = some 800 ∧
       (after (.summitBeat b) (s 0)).run.demands = [.summitService] ∧
       running.line.supervision = none ∧ (s 0).line.supervision = some 0 ∧
       (after .supervisionTimer (s 1)).gov.lineCeiling = true ∧
       (after .supervisionTimer (s 3)).run.demands = [.lineLost] ∧
       (after .supervisionTimer (s 255)).line.miss = 255) := by decide

theorem witness_BeatsAndTheirAbsenceAct_windAndGap :
    (let s := onCounter .i1 (fun c => { c with event := 11, value := 4, mask := [.running] })
       (onGov (fun g => { g with wind := ⟨[⟨120, some 400⟩, ⟨200, none⟩], 20, 60⟩ })
         (onLine (fun l => { l with heard := true, lastBeat := some 254, supervision := some 0 }) running))
     let beat (n w : Nat) : Instr := .summitBeat ⟨n, false, .clear, true, .stopped, 0, w, 0⟩
     let lower := onGov (fun g => { g with band := 1 }) s
     s.line.heard = true ∧ s.line.lastBeat = some 254 ∧ (after (beat 2 65535) s).line.counts.beatsMissed = 3 ∧
       ((after (beat 2 65535) s).counter .i1).value = 1 ∧ s.gov.wind.bands[1]? = some ⟨200, none⟩ ∧ s.gov.band < 2 ∧
       (after (beat 255 200) s).gov.band = 2 ∧ (after (beat 255 200) s).run.demands = [.wind] ∧
       (after (beat 255 199) s).gov.band = 1 ∧ (after (beat 255 199) s).run.demands = [] ∧
       (after (beat 255 99) lower).gov.hold = .running ∧ (after (beat 255 100) lower).gov.hold = .stopped ∧
       (after (beat 255 65535) lower).gov.hold = .stopped) := by decide

/-- A transmitter state with frames waiting in the queues below Safety. -/
def sending (t : Transmit) (voice : List VoiceFrame) (control : List ControlFrame) : State :=
  onLine (fun l => { l with safety := none, transmit := t, voice := voice, control := control, bulk := [[0x41], [0x42]] }) running

theorem witness_TransmitterServesTheHighestClass :
    (let notice (left : Nat) : Transmit := .frame (.notice [0x41]) left
     (after .beatTimer (sending (notice 1) [] [])).line.transmit = .aborting (some (.notice [0x41])) ∧
       (after .beatTimer (sending (notice 0) [] [])).line.transmit = notice 0 ∧
       init.line.safety = some startBeat ∧ init.line.transmit = .flags ∧
       (after .frameStart init).line.transmit = .start (.beat 0 startBeat) ∧
       (after .frameEnd (onLine (fun l => { l with transmit := notice 0 }) init)).line.transmit = .start (.beat 0 startBeat) ∧
       (after .abortEnd (onLine (fun l => { l with transmit := .afterAbort }) init)).line.transmit =
         .start (.beat 0 startBeat) ∧
       (sending .flags [⟨1, 2, []⟩] []).line.voice = ⟨1, 2, []⟩ :: [] ∧
       (after .frameStart (sending .flags [⟨1, 2, []⟩] [])).line.transmit = .start (.voice ⟨1, 2, []⟩) ∧
       (after .frameStart (sending .flags [] [.passage 1])).line.transmit = .start (.control (.passage 1)) ∧
       (after .frameStart (sending .flags [] [])).line.transmit = .start (.notice [0x41]) ∧
       (after .frameEnd (sending (notice 0) [] [])).line.bulk = [[0x42]] ∧
       (after .abortEnd (sending (.aborting none) [] [])).line.transmit = .start (.notice [0x41]) ∧
       (Transmit.start (.control (.passage 1))).bits.length = 8 * 8 + 8) := by decide

/-- A full Control queue meets Call's Ring, and a full Voice queue a Voice frame. -/
theorem witness_TransmitterServesTheHighestClass_full :
    (let s := onLine (fun l => { l with control := List.replicate 16 (.passage 1) }) running
     let v (n : Nat) : VoiceFrame := ⟨n, 0, []⟩
     let u := onLine (fun l => { l with voice := [v 1, v 2, v 3, v 4] }) running
     DeskFree s ∧ s.phone.state = .idle ∧ s.line.control.length = 16 ∧
       (after (.call 1) s).line.counts.controlDropped = 1 ∧ (after (.call 1) s).line.overflow = true ∧
       (offerVoice (v 5) u).line.voice = [v 2, v 3, v 4, v 5] ∧
       (offerVoice (v 5) u).line.counts.voiceDropped = 1) := by
  unfold DeskFree; decide

theorem witness_NoticesAreKept :
    (let s (n : Nat) := onLine (fun l => { l with inbox := List.replicate n ⟨[1], false⟩ }) running
     (s 3).line.inbox.length < 4 ∧ (s 4).line.inbox.length = 4 ∧ (after (.noticeFrame [2]) (s 3)).line.inbox.length = 4 ∧
       (after (.noticeFrame [2]) (s 4)).line.counts.noticesLost = 1 ∧ DeskFree running ∧
       List.replicate 64 0x41#8 ≠ [] ∧ (List.replicate 64 0x41#8).length ≤ 64 ∧ running.line.bulk.length < 4 ∧
       (after (.sendNotice 1 [0x41]) running).line.bulk = [[0x41]] ∧
       4 ≤ (onLine (fun l => { l with bulk := List.replicate 4 [0x41] }) running).line.bulk.length) := by
  unfold DeskFree; decide

/-! Calls and voice -/

def inCall (st : CallState) (id : Nat) : State :=
  onPhone (fun c => { c with state := st, id := some id, ringRepeat := some 0, ringOut := some 0, ringingGap := some 0,
                             voiceLoss := some 0, nextId := 255 }) running

theorem witness_CallRequestsAct :
    DeskFree running ∧ running.line.control.length < 16 ∧ running.phone.state = .idle ∧
      (after (.call 1) running).phone.id = some 1 ∧ (inCall .ringing 4).phone.id = some 4 ∧
      (after (.answer 1) (inCall .ringing 4)).phone.state = .talking ∧ (inCall .calling 3).phone.state ≠ .idle ∧
      (after (.hangUp 1) (inCall .calling 3)).line.control = [.callSignal .clear 3] ∧
      (inCall .calling 3).phone.state ≠ .ringing := by
  unfold DeskFree; decide

theorem witness_CallSignalsAndTimersAct :
    (after (.callSignal .ring 4) running).phone.state = .ringing ∧
      (after (.callSignal .ring 4) (inCall .calling 7)).phone.id = some 4 ∧
      (after (.callSignal .answer 7) (inCall .calling 7)).phone.state = .talking ∧
      (after (.callSignal .answer 8) (inCall .calling 7)).line.control = [.callSignal .clear 8] ∧
      (after (.callSignal .clear 7) (inCall .talking 7)).phone.state = .idle ∧ running.phone.id ≠ some 7 ∧
      (inCall .calling 7).phone.id = some 7 ∧ (inCall .calling 7).line.control.length < 16 ∧
      (after .ringRepeat (inCall .calling 7)).phone.ringRepeat = some 1000 ∧
      (after .ringTimeout (inCall .calling 7)).phone.state = .idle ∧
      (after .ringingGap (inCall .ringing 7)).phone.state = .idle ∧
      (after .voiceLoss (inCall .talking 7)).phone.state = .idle := by decide

theorem witness_CallSignalsAndTimersAct_table :
    (inCall .ringing 4).phone.id = some 4 ∧ (after (.callSignal .ring 4) (inCall .ringing 4)).phone.ringingGap = some 3000 ∧
      (after (.callSignal .ring 5) (inCall .ringing 4)).phone.id = some 5 ∧
      (after (.callSignal .ring 5) (inCall .ringing 4)).desk.others = [.call .incoming 5 .ringing] ∧
      (after (.callSignal .ring 4) (inCall .talking 4)).line.control = [.callSignal .answer 4] ∧
      (after (.callSignal .ring 5) (inCall .talking 4)).line.control = [.callSignal .clear 5] ∧
      (after (.callSignal .answer 4) (inCall .ringing 4)).line.control = [.callSignal .clear 4] ∧
      (after (.callSignal .answer 4) (inCall .talking 4)).line.control = [] ∧ running.phone.id = none ∧
      (after (.callSignal .answer 4) running).line.control = [.callSignal .clear 4] := by decide

theorem witness_VoiceIsQueuedAndPlayed :
    (let s (r : Option Nat) (q : List PlayoutBlock) (m : PlayoutMode) :=
       onPhone (fun c => { c with reference := r, queue := q, mode := m }) (inCall .talking 7)
     ¬ (running.phone.state = .talking ∧ running.phone.id = some 7) ∧
       (after (.voiceFrame 7 0 []) (s none [] .buffering)).phone.reference = some 255 ∧
       (after (.voiceFrame 7 128 []) (s (some 0) [] .playing)).phone.counts.late = 1 ∧
       (after (.voiceFrame 7 127 []) (s (some 0) [⟨1, []⟩] .playing)).phone.queue = [⟨1, []⟩, ⟨127, []⟩] ∧
       (inCall .talking 7).line.voice.length < 4 ∧
       (after (.blockPeriod []) (s (some 255) [⟨0, [1]⟩] .playing)).phone.codec = [1] ∧
       (after (.blockPeriod []) (s (some 255) [] .playing)).phone.mode = .buffering ∧
       (after (.blockPeriod []) (s none [⟨0, [1]⟩] .buffering)).phone.codec = List.replicate 40 0xD5#8 ∧
       (after (.blockPeriod []) running).line.voice = []) := by decide

theorem witness_VoiceIsQueuedAndPlayed_table :
    (let q (l : List Nat) := l.map fun n => (⟨n, [byte n]⟩ : PlayoutBlock)
     let s (l : List Nat) (m : PlayoutMode) :=
       onPhone (fun c => { c with reference := some 0, queue := q l, mode := m }) (inCall .talking 7)
     let full := s [2, 3, 4, 5, 6, 7, 8, 9] .playing
     (after (.voiceFrame 7 2 []) (s [2] .playing)).phone.counts.duplicate = 1 ∧
       (after (.voiceFrame 7 2 []) (s [2] .playing)).phone.queue = q [2] ∧
       full.phone.queue.length = 8 ∧ full.phone.queue.head? = some ⟨2, [2]⟩ ∧
       full.phone.queue.Pairwise (fun a b => seqDiff a.sequence 0 < seqDiff b.sequence 0) ∧
       (after (.voiceFrame 7 1 [1]) full).phone.queue = full.phone.queue ∧
       (after (.voiceFrame 7 1 [1]) full).phone.counts.overflow = 1 ∧
       (after (.voiceFrame 7 10 [10]) full).phone.queue = q [3, 4, 5, 6, 7, 8, 9, 10] ∧
       (after (.blockPeriod []) (s [2] .playing)).phone.queue = q [2] ∧
       (after (.blockPeriod []) (s [2] .playing)).phone.reference = some 1 ∧
       (after (.blockPeriod []) (s [2] .playing)).phone.counts.concealed = 1 ∧
       (after (.blockPeriod []) (s [3, 5] .buffering)).phone.mode = .playing ∧
       (after (.blockPeriod []) (s [3, 5] .buffering)).phone.codec = [3]) := by decide

/-- The invariant's premise and the full Voice queue. -/
theorem witness_VoiceIsQueuedAndPlayed_full :
    (let v (n : Nat) : VoiceFrame := ⟨7, n, []⟩
     let s := onLine (fun l => { l with voice := [v 1, v 2, v 3, v 4] })
       (onPhone (fun c => { c with sequence := 5 }) (inCall .talking 7))
     let u := { inCall .talking 7 with pending := [.voiceFrame 7 255 (List.replicate 40 0#8)] }
     s.phone.state = .talking ∧ s.phone.id = some 7 ∧
       (after (.blockPeriod []) s).line.voice = [v 2, v 3, v 4, ⟨7, 5, []⟩] ∧
       (after (.blockPeriod []) s).line.counts.voiceDropped = 1 ∧
       (∀ c ∈ u.pending.head?, wellFormed c = true) ∧ (∀ b ∈ u.phone.queue, b.sequence < 256) ∧
       (match step u with | .next t => t.phone.queue.map (fun b => b.sequence) | _ => []) = [255]) := by decide

/-! The desk link -/

def reports (urgent others : List Report) : State := onDesk (fun d => { d with urgent := urgent, others := others }) running

theorem witness_MessagesLeaveByGroup :
    (let full := reports (List.replicate 31 (.stopDemand .wind .service)) [.garbled .gap]
     let sent (m : Message) := onDesk (fun d => { d with transmit := some m }) (reports [] [])
     full.desk.urgent.length + full.desk.others.length = 32 ∧
       (reports (List.replicate 31 (.garbled .gap)) []).desk.urgent.length < 32 ∧
       full.desk.others = [] ++ [.garbled .gap] ∧ (Report.garbled .gap).isUrgent = false ∧
       (Report.stopDemand .wind .service).isUrgent = true ∧ (Report.notice [] true).isNotice = true ∧
       (queueReport (.stopDemand .creep .emergency) full).desk.others = [] ∧
       init.desk.urgent ≠ [] ∧ init.desk.transmit = none ∧ init.desk.restart ≠ .waiting ∧
       (after .messageStart init).desk.urgent = [] ∧
       (reports [] [.garbled .gap]).desk.others = .garbled .gap :: [] ∧
       (after .messageStart (reports [] [.garbled .gap])).desk.transmit = some (.report (.garbled .gap) false) ∧
       (sent (.report (.notice [1] false) false)).desk.transmit = some (.report (.notice [1] false) false) ∧
       (after .messageSent (sent (.report (.garbled .gap) true))).desk.transmit = none ∧
       running.line.noticeOffered = false) := by decide

theorem witness_MessagesLeaveByGroup_replies :
    (let r : Reply := ⟨1, 0x27, .done []⟩
     let s (p : RestartPhase) := onDesk (fun d => { d with restart := p, replies := [r] }) (reports [] [])
     let going (p : RestartPhase) := onDesk (fun d => { d with transmit := some (.reply r) }) (s p)
     (s .none).desk.replies = r :: [] ∧ (s .none).desk.inbox = [] ∧ (s .none).desk.urgent = [] ∧
       (after .messageStart (s .none)).desk.transmit = some (.reply r) ∧ (s .waiting).desk.restart = .waiting ∧
       (after .messageStart (s .waiting)).desk.restart = .sending ∧ (going .none).desk.restart ≠ .sending ∧
       (after .messageSent (going .none)).desk.transmit = none ∧ (going .sending).desk.restart = .sending ∧
       (after .messageSent (going .sending)).run.state = .parked) := by decide

def assembling (l : List Byte) : State := onDesk (fun d => { d with receiver := .assembling l 5 }) running

theorem witness_DeskBytesAndMessagesAreSorted :
    (after (.deskByteReceived 0xA7) running).desk.receiver = .assembling [] 5 ∧
      (after (.deskByteReceived 251) (assembling [])).desk.counts.length = 1 ∧
      (after (.deskByteReceived 250) (assembling [])).desk.receiver = .assembling [250] 5 ∧
      (assembling [2, 0x20]).desk.receiver = .assembling (2 :: [0x20]) 5 ∧ [0x20#8].length + 2 < (2 : Byte).toNat + 3 ∧
      (after (.deskByteReceived 1) (assembling [2, 0x20])).desk.receiver = .assembling [2, 0x20, 1] 5 ∧
      (assembling [2, 0x20, 1, 0]).desk.receiver = .assembling (2 :: [0x20, 1] ++ [0]) 5 ∧ [0x20#8, 1].length = (2 : Byte).toNat ∧
      [0#8, 0] ≠ crcHighFirst [2, 0x20, 1] ∧
      (after (.deskByteReceived 0) (assembling [2, 0x20, 1, 0])).desk.counts.crc = 1 ∧
      (after .gapTimer (assembling [2])).desk.counts.gap = 1 ∧ running.desk.receiver = .waiting := by decide

theorem witness_DeskBytesAndMessagesAreSorted_messages :
    (let replies (n : Nat) := onDesk (fun d => { d with replies := List.replicate n ⟨0, 0, .done []⟩ }) running
     let inbox (n : Nat) := onDesk (fun d => { d with inbox := List.replicate n (0, .wake), restart := .waiting }) running
     8 ≤ (replies 8).desk.replies.length ∧ (replies 7).desk.replies.length < 8 ∧
       (after (.deskMessage 0x20 1 []) (replies 8)).desk.counts.overruns = 1 ∧ payloadDecoder (0x2F : Byte).toNat = none ∧
       (payloadDecoder (0x20 : Byte).toNat).isSome = true ∧
       (after (.deskMessage 0x20 1 [0]) (replies 7)).desk.replies.getLast? = some ⟨1, 0x20, .refused .length⟩ ∧
       decodeRequest (0x20 : Byte).toNat [] = .ok .wake ∧ 4 ≤ (inbox 4).desk.inbox.length ∧
       (after (.deskMessage 0x20 1 []) (inbox 4)).desk.counts.refusedFull = 1 ∧ (inbox 3).desk.restart ≠ .none ∧
       (after (.deskMessage 0x20 1 []) (inbox 3)).desk.inbox.length = 4 ∧ DeskFree running ∧
       (after (.deskMessage 0x24 1 [0, 100]) running).gov.desk = 100) := by
  unfold DeskFree; decide

theorem witness_ReportsAndRestartRequestsAct :
    (let latch (s : State) (x : GovernorSnapshot) := onDesk (fun d => { d with governor := ⟨true, some x⟩ }) s
     let same := latch running (governorSnapshot running)
     let moved := latch running (governorSnapshot stopped)
     let all := onDesk (fun d => { d with tower := ⟨true, some (towerSnapshot running)⟩, line := ⟨true, some (lineSnapshot running)⟩,
                                          berth := ⟨true, some (berthSnapshot running)⟩ }) running
     DeskFree same ∧ running.desk.governor.latched = false ∧ same.desk.governor.latched = true ∧
       same.desk.governor.snapshot = some (governorSnapshot same) ∧
       (after (.releaseReports 1 0) same).desk.governor.latched = false ∧
       moved.desk.governor.snapshot ≠ some (governorSnapshot moved) ∧
       moved.desk.urgent.length + moved.desk.others.length < 32 ∧
       (after (.releaseReports 1 0) moved).desk.others = [governorReport moved] ∧
       all.desk.tower.snapshot = some (towerSnapshot all) ∧ all.desk.line.snapshot = some (lineSnapshot all) ∧
       all.desk.berth.snapshot = some (berthSnapshot all) ∧ stopped.run.state = .stopped ∧ stopped.gov.v = 0 ∧
       (after (.restart 1) stopped).desk.restart = .waiting ∧
       (onGov (fun g => { g with v := -1 }) stopped).gov.v ≠ 0) := by
  unfold DeskFree; decide

theorem witness_ReadsChangeNothing :
    DeskFree busy ∧ (after (.readStatus 1) busy).desk.replies = [⟨1, 0x60, .done (readStatus busy)⟩] ∧
      (readRoster 1 busy).length > 0 := by
  unfold DeskFree; decide

end Sys2Proof.Tests
end

section
/-! SUPPORT. The family of run states and stop demands. First the rules that every request of the desk port shares, then
what a transition into a state other than Starting and the valley stop class do, said once; last the statements on Stop,
ClearStop and ResetTrip. -/

namespace Sys2Proof.Machine

open Config

/-! ### A request given at once to its owner (R189) -/

/-- The fields after a reply has joined the queue. -/
@[simp] theorem withReply_fields (tag : Byte) (r : Request) (result : ReplyResult) (s : State) :
    (withReply tag r result s).run = s.run ∧
    (withReply tag r result s).gov = s.gov ∧
    (withReply tag r result s).update = s.update ∧
    (withReply tag r result s).track = s.track ∧
    (withReply tag r result s).berths = s.berths ∧
    (withReply tag r result s).supply = s.supply ∧
    (withReply tag r result s).roster = s.roster ∧
    (withReply tag r result s).scanner = s.scanner ∧
    (withReply tag r result s).counters = s.counters ∧
    (withReply tag r result s).watches = s.watches ∧
    (withReply tag r result s).line = s.line ∧
    (withReply tag r result s).phone = s.phone ∧
    (withReply tag r result s).pending = s.pending ∧
    (withReply tag r result s).desk = { s.desk with
      replies := s.desk.replies ++ [{ tag := tag, kind := byte (requestKind r), result := result }] } := by
  simp [withReply]

theorem dispatch_of_inbox_nil (n : Nat) {s : State} (h : s.desk.inbox = []) : dispatch n s = s := by
  cases n with
  | zero => rfl
  | succ n =>
    unfold dispatch
    split
    · simp [h]
    · rfl

theorem dispatch_of_inbox_cons (n : Nat) {tag : Byte} {r : Request} {rest : List (Byte × Request)} {s : State}
    (may : mayDispatch s = true) (h : s.desk.inbox = (tag, r) :: rest) :
    dispatch (n + 1) s = dispatch n (takeRequest tag r (s.withDesk fun d => { d with inbox := rest })) := by
  simp [dispatch, may, h]

theorem takeRequest_eq (tag : Byte) {r : Request} (hr : r ≠ .restart) (s : State) :
    takeRequest tag r s = withReply tag r (perform r s).2 (perform r s).1 := by
  simp [takeRequest, hr, placeReply, State.withDesk, withReply]

/-- The state in which a request has joined the inbox and waits to be given (R188). -/
def withWaiting (tag : Byte) (r : Request) (s : State) : State :=
  s.withDesk fun d => { d with inbox := d.inbox ++ [(tag, r)] }

theorem submit_of_room (tag : Byte) (r : Request) {s : State} (replies : s.desk.replies.length < replyMax)
    (inbox : s.desk.inbox.length < inboxMax) : submit tag r s = dispatch inboxMax (withWaiting tag r s) := by
  simp [submit, Nat.not_le.mpr replies, Nat.not_le.mpr inbox, giveRequests, withWaiting]

/-- A request whose owner leaves the inbox alone is performed on the state it finds, and only its reply is added
(R189). -/
theorem submit_of_deskFree (tag : Byte) {r : Request} {s : State} (free : DeskFree s) (hr : r ≠ .restart)
    (quiet : DeskQuiet s (perform r s).1) :
    submit tag r s = withReply tag r (perform r s).2 (perform r s).1 := by
  obtain ⟨hinbox, hroom, hrestart⟩ := free
  obtain ⟨-, kinbox, -⟩ := quiet
  have may : mayDispatch (withWaiting tag r s) = true := by simp [withWaiting, mayDispatch, hroom, hrestart]
  have given : (withWaiting tag r s).desk.inbox = (tag, r) :: [] := by simp [withWaiting, hinbox]
  have taken : ((withWaiting tag r s).withDesk fun d => { d with inbox := [] }) = s := by
    simp only [withWaiting, State.withDesk, ← hinbox]
  have empty : (withReply tag r (perform r s).2 (perform r s).1).desk.inbox = [] := kinbox.trans hinbox
  calc submit tag r s = dispatch inboxMax (withWaiting tag r s) :=
        submit_of_room tag r hroom (by simp [hinbox, inboxMax])
    _ = dispatch 3 (takeRequest tag r s) := by rw [inboxMax, dispatch_of_inbox_cons 3 may given, taken]
    _ = withReply tag r (perform r s).2 (perform r s).1 := by
        rw [takeRequest_eq tag hr, dispatch_of_inbox_nil _ empty]

/-- A request that its owner refuses has its reply as its only effect (R189). -/
theorem submit_of_refuse (tag : Byte) {r : Request} {reason : Reason} {s : State} (free : DeskFree s)
    (hr : r ≠ .restart) (h : perform r s = refuse reason s) :
    submit tag r s = withReply tag r (.refused reason) s := by
  have quiet : DeskQuiet s (perform r s).1 := by rw [h]; exact DeskQuiet.refl s
  rw [submit_of_deskFree tag free hr quiet, h]
  rfl

/-- A request that its owner accepts: the owner's state, with the reply Done (R189). -/
theorem submit_of_done (tag : Byte) {r : Request} {s t : State} (free : DeskFree s) (hr : r ≠ .restart)
    (h : perform r s = done t) (quiet : DeskQuiet s t) : submit tag r s = withReply tag r (.done []) t := by
  rw [submit_of_deskFree tag free hr (by rwa [h]), h]
  rfl

theorem answered_withReply (tag : Byte) (r : Request) (result : ReplyResult) {s t : State} (quiet : DeskQuiet s t) :
    Answered tag r result s (withReply tag r result t) := by
  obtain ⟨hreceiver, hinbox, hreplies, htransmit, hrestart⟩ := quiet
  exact ⟨by simp [hreplies], hreceiver, hinbox, htransmit, hrestart⟩

theorem touches_withReply (tag : Byte) (r : Request) (result : ReplyResult) {bs : List Block} {s t : State}
    (h : Touches bs s t) (hd : .desk ∈ bs) : Touches bs s (withReply tag r result t) := by
  refine h.trans fun b hb => ?_
  cases b
  case desk => exact absurd hd hb
  all_goals simp [Block.kept]

theorem exec_stop (tag : Byte) (s : State) : exec (.stop tag) s = .next (submit tag .stop s) := rfl

theorem exec_clearStop (tag : Byte) (n : Nat) (s : State) :
    exec (.clearStop tag n) s = .next (submit tag (.clearStop n) s) := rfl

theorem exec_resetTrip (tag : Byte) (s : State) : exec (.resetTrip tag) s = .next (submit tag .resetTrip s) := rfl

/-! ### What the urgent reports and the line keep (R190) -/

/-- No urgent report has left the queue, and the line controller has had at most a Notice given back (R190). -/
def UrgentKept (s t : State) : Prop := LineQuiet s t ∧ s.desk.urgent ⊆ t.desk.urgent

theorem UrgentKept.refl (s : State) : UrgentKept s s := ⟨rfl, List.Subset.refl _⟩

theorem UrgentKept.of_eq {s t : State} (hl : t.line = s.line) (hd : t.desk = s.desk) : UrgentKept s t := by
  simp [UrgentKept, LineQuiet, hl, hd]

theorem UrgentKept.trans {s t u : State} (h : UrgentKept s t) (k : UrgentKept t u) : UrgentKept s u := by
  obtain ⟨hl, hu⟩ := h
  obtain ⟨kl, ku⟩ := k
  refine ⟨?_, List.Subset.trans hu ku⟩
  unfold LineQuiet at *
  rw [kl, hl]

theorem loseReport_urgentKept (r : Report) (s : State) : UrgentKept s (loseReport r s) := by
  unfold loseReport
  split <;> exact ⟨rfl, List.Subset.refl _⟩

theorem queueReport_urgentKept (r : Report) (s : State) : UrgentKept s (queueReport r s) := by
  unfold queueReport
  split
  · split
    · exact ⟨rfl, List.subset_append_left _ _⟩
    · exact ⟨rfl, List.Subset.refl _⟩
  · split
    · split
      · refine UrgentKept.trans ?_ (loseReport_urgentKept _ _)
        exact ⟨rfl, List.subset_append_left _ _⟩
      · exact loseReport_urgentKept _ _
    · exact loseReport_urgentKept _ _

/-- An urgent report offered is queued where there is room, or where a report of the other group gives way (R190). -/
theorem mem_urgent_queueReport {r : Report} {s : State} (hr : r.isUrgent = true)
    (room : s.desk.urgent.length + s.desk.others.length < reportMax ∨ s.desk.others ≠ []) :
    r ∈ (queueReport r s).desk.urgent := by
  unfold queueReport
  by_cases hroom : reportRoom s = true
  · simp [hroom, hr]
  · have hothers : s.desk.others ≠ [] := room.resolve_left fun h => hroom (by simpa [reportRoom] using h)
    obtain ⟨newest, hnewest⟩ := Option.ne_none_iff_exists'.mp (mt List.getLast?_eq_none_iff.mp hothers)
    simp only [hroom, hr, hnewest, if_true]
    exact (loseReport_urgentKept _ _).2 (by simp)

theorem offerBerth_urgentKept (s : State) : UrgentKept s (offerBerth s) := by
  unfold offerBerth
  split
  · exact UrgentKept.refl s
  · split
    · exact queueReport_urgentKept (berthReport s) s
    · exact queueReport_urgentKept (berthReport s) s

theorem cycleTest_urgentKept (i : Idx4) (s : State) : UrgentKept s (cycleTest i s) := by
  unfold cycleTest
  split
  · exact (UrgentKept.of_eq (by simp) (by simp)).trans (offerBerth_urgentKept _)
  · exact UrgentKept.refl s

theorem cycleTests_urgentKept (s : State) : UrgentKept s (cycleTests s) :=
  (((cycleTest_urgentKept _ _).trans (cycleTest_urgentKept _ _)).trans (cycleTest_urgentKept _ _)).trans
    (cycleTest_urgentKept _ _)

theorem indexTest_urgentKept (s : State) : UrgentKept s (indexTest s) := .of_eq (by simp) (by simp)

/-! ### A transition into a state other than Starting (R1, R13, R31) -/

/-- Such a transition clears no local enable (R150), so that it is the change of state, its report and the tests of R82
and R55. -/
theorem enterState_of_ne_starting {n : RunState} (hn : n ≠ .starting) (c : Cause) (s : State) :
    enterState n c s = indexTest (cycleTests (queueReport
      (.runState n s.run.state c (stopClassOf s.run.demands) s.run.demands)
      { s with run := { s.run with state := n, quiet := 0 }, gov := s.gov.enter n })) := by
  simp [enterState, hn]

theorem enterState_run_gov {n : RunState} (hn : n ≠ .starting) (c : Cause) (s : State) :
    (enterState n c s).run = { s.run with state := n, quiet := 0 } ∧ (enterState n c s).gov = s.gov.enter n := by
  simp [enterState_of_ne_starting hn]

theorem enterState_urgentKept {n : RunState} (hn : n ≠ .starting) (c : Cause) (s : State) :
    UrgentKept s (enterState n c s) := by
  rw [enterState_of_ne_starting hn]
  refine UrgentKept.trans ?_ (indexTest_urgentKept _)
  refine UrgentKept.trans ?_ (cycleTests_urgentKept _)
  refine UrgentKept.trans ?_ (queueReport_urgentKept _ _)
  exact UrgentKept.of_eq rfl rfl

theorem enterState_report {n : RunState} (hn : n ≠ .starting) (c : Cause) {s : State}
    (room : s.desk.urgent.length + s.desk.others.length < reportMax ∨ s.desk.others ≠ []) :
    .runState n s.run.state c (stopClassOf s.run.demands) s.run.demands ∈ (enterState n c s).desk.urgent := by
  rw [enterState_of_ne_starting hn]
  refine ((cycleTests_urgentKept _).trans (indexTest_urgentKept _)).2 ?_
  exact mem_urgent_queueReport rfl room

theorem demandTransition_urgentKept (src : Source) (s : State) : UrgentKept s (demandTransition src s) := by
  rcases demandTransition_cases src s with h | ⟨n, hn, h⟩ <;> rw [h]
  · exact UrgentKept.refl s
  · exact enterState_urgentKept hn _ s

/-! ### The valley stop class (R18) -/

theorem stopClassOf_eq_emergency_iff (set : List Source) :
    stopClassOf set = .emergency ↔ ∃ x ∈ set, x.cls = .emergency := by
  unfold stopClassOf
  split
  · rename_i h
    simpa using h
  · rename_i h
    split <;> simpa using h

theorem giveClass_stopClass (s : State) : (giveClass s).line.stopClass = stopClassOf s.run.demands := by
  unfold giveClass
  split
  · rename_i h
    exact h.symm
  · rfl

/-- A valley stop class that has changed is in the beat that waits (R18, R166). -/
theorem giveClass_safety {s : State} (h : s.line.stopClass ≠ (giveClass s).line.stopClass) :
    ∃ b, (giveClass s).line.safety = some b ∧ b.stop = (giveClass s).line.stopClass := by
  have hne : stopClassOf s.run.demands ≠ s.line.stopClass := by
    rw [giveClass_stopClass] at h
    exact h.symm
  rw [giveClass, if_neg hne]
  exact ⟨_, rfl, rfl⟩

theorem raise_stopClass {src : Source} {s : State} (h : src ∉ s.run.demands) :
    (raise src s).line.stopClass = stopClassOf (raise src s).run.demands := by
  rw [raise, if_neg h, giveClass_stopClass]
  simp

/-- A demand that joins the set is reported, where the queue has room (R14, R190). -/
theorem raise_report {src : Source} {s : State} (h : src ∉ s.run.demands)
    (room : s.desk.urgent.length + s.desk.others.length < reportMax) :
    .stopDemand src src.cls ∈ (raise src s).desk.urgent := by
  rw [raise, if_neg h]
  have kept := demandTransition_urgentKept src (queueReport (.stopDemand src src.cls)
    { s with run := { s.run with demands := addSource src s.run.demands } })
  simpa using kept.2 (mem_urgent_queueReport rfl (Or.inl room))

/-! ### Stop and ClearStop (R8, R15) -/

theorem exec_stop_of_deskFree (tag : Byte) {s : State} (free : DeskFree s) :
    exec (.stop tag) s = .next (withReply tag .stop (.done []) (raise .deskStop s)) := by
  rw [exec_stop, submit_of_done tag free (by decide) rfl (raise_deskQuiet _ s)]

theorem doClearStop_of_range {n : Nat} (h : 24 ≤ n) (s : State) : doClearStop n s = refuse .range s := by
  have hnone : Source.all[n]? = none := List.getElem?_eq_none h
  simp [doClearStop, hnone]

theorem doClearStop_of_source {n : Nat} {src : Source} (h : Source.all[n]? = some src) (s : State) :
    doClearStop n s =
      if src ∈ s.run.demands then
        if causePersists s src then refuse .causePresent s else done (clearSource src s)
      else refuse .notFound s := by
  simp [doClearStop, h]

theorem clearSource_stopClass (src : Source) (s : State) :
    (clearSource src s).line.stopClass = stopClassOf (clearSource src s).run.demands := by
  rw [clearSource, giveClass_stopClass]
  simp

theorem clearSource_run (src : Source) (s : State) :
    (clearSource src s).run = { s.run with demands := removeSource src s.run.demands } := by
  simp [clearSource]

theorem clearSource_desk (src : Source) (s : State) : (clearSource src s).desk = s.desk := by
  simp [clearSource]

theorem clearSource_touches (src : Source) (s : State) : Touches [.run, .line, .desk] s (clearSource src s) := by
  intro b hb
  cases b <;> simp at hb <;> simp [Block.kept, clearSource]

theorem clearStop_completes (tag : Byte) {n : Nat} {src : Source} {s : State} (free : DeskFree s)
    (hsrc : Source.all[n]? = some src) (hmem : src ∈ s.run.demands) (hcause : causePersists s src = false) :
    exec (.clearStop tag n) s = .next (withReply tag (.clearStop n) (.done []) (clearSource src s)) := by
  have hperform : perform (.clearStop n) s = done (clearSource src s) :=
    (doClearStop_of_source hsrc s).trans (by simp [hmem, hcause])
  rw [exec_clearStop, submit_of_done tag free (by simp) hperform]
  simp [DeskQuiet, clearSource_desk]

theorem clearStop_refused (tag : Byte) {n : Nat} {reason : Reason} {s : State} (free : DeskFree s)
    (h : doClearStop n s = refuse reason s) : Refused (.clearStop tag n) tag (.clearStop n) reason s := by
  rw [Refused, exec_clearStop, submit_of_refuse tag (r := .clearStop n) free (by simp) h]

/-- Settles O18: Stop by what raising DeskStop does, ClearStop by the cases of its tests in their order. -/
theorem stopAndClearStopAct : Obligations.StopAndClearStopAct := by
  refine ⟨fun tag s => ⟨rfl, fun free => ⟨?_, fun hmem => ?_⟩⟩, fun tag n src s free => ⟨?_, ?_, ?_, ?_⟩⟩
  · refine ⟨_, exec_stop_of_deskFree tag free, answered_withReply _ _ _ (raise_deskQuiet _ s), (raise_run _ s).1,
      fun habsent => ⟨raise_stopClass habsent, raise_report habsent⟩,
      touches_withReply _ _ _ (raise_touches _ s) (by decide)⟩
  · rw [exec_stop_of_deskFree tag free, raise_of_mem hmem]
  · intro hn
    exact clearStop_refused tag free (doClearStop_of_range hn s)
  · intro hsrc habsent
    exact clearStop_refused tag free (by simp [doClearStop_of_source hsrc, habsent])
  · intro hsrc hmem hcause
    exact clearStop_refused tag free (by simp [doClearStop_of_source hsrc, hmem, hcause])
  · intro hsrc hmem hcause
    refine ⟨_, clearStop_completes tag free hsrc hmem hcause, answered_withReply _ _ _ ?_, fun x => ?_, ?_, ?_, ?_,
      clearSource_stopClass src s, ?_, touches_withReply _ _ _ (clearSource_touches src s) (by decide)⟩
    · simp [DeskQuiet, clearSource_desk]
    · simp [clearSource_run, mem_removeSource]
    · simp [clearSource_run]
    · simp [clearSource_desk]
    · simp [clearSource_desk]
    · exact fun hchanged => giveClass_safety hchanged

/-! ### ResetTrip (R12) -/

theorem resetTrip_refused (tag : Byte) {reason : Reason} {s : State} (free : DeskFree s)
    (h : doResetTrip s = refuse reason s) : Refused (.resetTrip tag) tag .resetTrip reason s := by
  rw [Refused, exec_resetTrip, submit_of_refuse tag (r := .resetTrip) free (by decide) h]

theorem resetTrip_completes (tag : Byte) {s : State} (free : DeskFree s) (hstate : s.run.state = .tripped)
    (hclass : stopClassOf s.run.demands ≠ .emergency) (hv : s.gov.v = 0) : exec (.resetTrip tag) s =
      .next (withReply tag .resetTrip (.done []) (enterState .stopped .resetTrip s)) := by
  have hperform : perform .resetTrip s = done (enterState .stopped .resetTrip s) := by
    simp [perform, doResetTrip, hstate, hclass, hv]
  rw [exec_resetTrip, submit_of_done tag free (by decide) hperform (enterState_deskQuiet _ _ s)]

/-- Settles O19: the three refusals by the tests in their order, the return to Stopped by what a transition does. -/
theorem resetTripReturnsToStopped : Obligations.ResetTripReturnsToStopped := by
  intro tag s free
  refine ⟨fun hstate => ?_, fun hstate hemergency => ?_, fun hstate hnone hv => ?_, fun hstate hnone hv => ?_⟩
  · exact resetTrip_refused tag free (by simp [doResetTrip, hstate])
  · have hclass := (stopClassOf_eq_emergency_iff s.run.demands).mpr hemergency
    exact resetTrip_refused tag free (by simp [doResetTrip, hstate, hclass])
  all_goals
    have hclass : stopClassOf s.run.demands ≠ .emergency := fun h => by
      obtain ⟨x, hx, hcls⟩ := (stopClassOf_eq_emergency_iff s.run.demands).mp h
      exact hnone x hx hcls
  · exact resetTrip_refused tag free (by simp [doResetTrip, hstate, hclass, hv])
  · obtain ⟨hrun, hgov⟩ := enterState_run_gov (n := .stopped) (by decide) .resetTrip s
    have hline := (enterState_urgentKept (n := .stopped) (by decide) .resetTrip s).1
    have htouches := enterState_touches .stopped .resetTrip s (Or.inr (by decide))
    refine ⟨_, resetTrip_completes tag free hstate hclass hv,
      answered_withReply _ _ _ (enterState_deskQuiet _ _ s), ?_, ?_, ?_, ?_, fun room => ?_,
      touches_withReply _ _ _ htouches (by decide), ?_⟩
    · simp [hrun]
    · simp [hgov, Governor.enter]
    · simp [hgov, Governor.enter]
    · simp [hgov, Governor.enter]
    · have hreport := enterState_report (n := .stopped) (by decide) .resetTrip room
      simpa [hstate] using hreport
    · simpa [LineQuiet] using hline

end Sys2Proof.Machine
end

section
/-! SUPPORT. The family of rope travel and the speed governor. First what an event given to another block inside a
window end can do, said once for every shared operation: the brake, the measurement, the demands, the blocks touched. -/

namespace Sys2Proof.Machine

open Config

/-! ### What an arrival keeps -/

/-- What stages 1 to 3 of a window end leave of the encoder's pulses (R20 to R23). -/
structure Measurement where
  travel  : Travel
  residue : Nat
  history : History
  v       : Int
  pf      : Nat
  pb      : Nat
  lastPf  : Nat
  lastPb  : Nat

def Governor.measurement (g : Governor) : Measurement :=
  { travel := g.travel, residue := g.residue, history := g.history, v := g.v, pf := g.pf, pb := g.pb,
    lastPf := g.lastPf, lastPb := g.lastPb }

/-- The brake output and the drive trip flag (R32, R33). -/
def Governor.outputs (g : Governor) : Bool × Bool := (g.brakeReleased, g.tripFlag)

/-- The blocks that the arrivals of a window end can touch. -/
def arrivalBlocks : List Block := .roster :: .counters :: .watches :: raiseBlocks

theorem touches_arrivalBlocks_iff {s t : State} : Touches arrivalBlocks s t ↔
    t.update = s.update ∧ t.supply = s.supply ∧ t.scanner = s.scanner ∧ t.phone = s.phone ∧ t.pending = s.pending := by
  constructor
  · intro h
    exact ⟨h .update (by decide), h .supply (by decide), h .scanner (by decide), h .phone (by decide),
      h .pending (by decide)⟩
  · rintro ⟨hupdate, hsupply, hscanner, hphone, hpending⟩ b hb
    cases b <;> simp [arrivalBlocks, raiseBlocks] at hb <;> assumption

theorem BrakeObeyed.of_outputs {s t : State} (h : BrakeObeyed s) (hstate : t.run.state = s.run.state)
    (hout : t.gov.outputs = s.gov.outputs) : BrakeObeyed t := by
  obtain ⟨hbrake, htrip⟩ := h
  obtain ⟨kbrake, ktrip⟩ := Prod.mk.inj hout
  exact ⟨by rw [kbrake, hstate, hbrake], by rw [ktrip, hstate, htrip]⟩

/-- A state changed by events given to other blocks: the brake still follows the run state, the measurement stands, no
demand has left the set, and of the desk link only the report queue has moved. -/
structure Arrives (s t : State) : Prop where
  brake : BrakeObeyed s → BrakeObeyed t
  measurement : t.gov.measurement = s.gov.measurement
  demands : s.run.demands ⊆ t.run.demands
  desk : DeskQuiet s t
  touches : Touches arrivalBlocks s t

theorem Arrives.refl (s : State) : Arrives s s :=
  ⟨id, rfl, List.Subset.refl _, DeskQuiet.refl s, Touches.refl _ s⟩

theorem Arrives.trans {s t u : State} (h : Arrives s t) (k : Arrives t u) : Arrives s u :=
  ⟨k.brake ∘ h.brake, k.measurement.trans h.measurement, List.Subset.trans h.demands k.demands,
    h.desk.trans k.desk, h.touches.trans k.touches⟩

/-- An edit of the state that leaves what an arrival keeps. -/
theorem Arrives.edit {s t u : State} (h : Arrives s t)
    (e : (u.run.state, u.run.demands, u.gov.measurement, u.gov.outputs, u.desk, u.update, u.supply, u.scanner, u.phone,
        u.pending) =
      (t.run.state, t.run.demands, t.gov.measurement, t.gov.outputs, t.desk, t.update, t.supply, t.scanner, t.phone,
        t.pending)) : Arrives s u := by
  simp only [Prod.mk.injEq] at e
  obtain ⟨hstate, hdemands, hmeasure, hout, hdesk, hupdate, hsupply, hscanner, hphone, hpending⟩ := e
  exact h.trans
    { brake := fun hb => hb.of_outputs hstate hout
      measurement := hmeasure
      demands := by rw [hdemands]; exact List.Subset.refl _
      desk := by simp [DeskQuiet, hdesk]
      touches := touches_arrivalBlocks_iff.mpr ⟨hupdate, hsupply, hscanner, hphone, hpending⟩ }

/-- An operation that leaves run control and the governor. -/
theorem Arrives.of_same {s t u : State} (h : Arrives s t) (hrun : u.run = t.run) (hgov : u.gov = t.gov)
    (hdesk : DeskQuiet t u) (htouches : Touches arrivalBlocks t u) : Arrives s u :=
  h.trans ⟨fun hb => hb.of_outputs (by rw [hrun]) (by rw [hgov]), by rw [hgov],
    by rw [hrun]; exact List.Subset.refl _, hdesk, htouches⟩

section
variable {s t : State}

protected theorem Arrives.queueReport {r : Report} (h : Arrives s t) : Arrives s (queueReport r t) :=
  h.of_same (by simp) (by simp) (by simp [DeskQuiet]) (by simp [touches_arrivalBlocks_iff])

protected theorem Arrives.offerGovernor (h : Arrives s t) : Arrives s (offerGovernor t) :=
  h.of_same (by simp) (by simp) (by simp [DeskQuiet]) (by simp [touches_arrivalBlocks_iff])

protected theorem Arrives.giveClass (h : Arrives s t) : Arrives s (giveClass t) :=
  h.of_same (by simp) (by simp) (by simp [DeskQuiet]) (by simp [touches_arrivalBlocks_iff])

protected theorem Arrives.offerControl {f : ControlFrame} (h : Arrives s t) : Arrives s (offerControl f t) :=
  h.of_same (by simp) (by simp) (by simp [DeskQuiet]) (by simp [touches_arrivalBlocks_iff])

protected theorem Arrives.indexTest (h : Arrives s t) : Arrives s (indexTest t) :=
  h.of_same (by simp) (by simp) (by simp [DeskQuiet]) (by simp [touches_arrivalBlocks_iff])

protected theorem Arrives.setCounter {i : Idx4} {c : Counter} (h : Arrives s t) : Arrives s (t.setCounter i c) :=
  h.edit (by rfl)

/-! ### The ceilings (R28) -/

theorem updateCeilings_gov (g : Governor) (s : State) : (updateCeilings g s).gov = g := by
  unfold updateCeilings
  split <;> simp

theorem setCeiling_gov (c : Ceiling) (on : Bool) (s : State) : (setCeiling c on s).gov = s.gov.withCeiling c on :=
  updateCeilings_gov _ s

/-- An owner's ceiling leaves the measurement and the outputs (R28). -/
theorem Governor.withCeiling_keeps (g : Governor) (c : Ceiling) (on : Bool) :
    (g.withCeiling c on).measurement = g.measurement ∧ (g.withCeiling c on).outputs = g.outputs := by
  cases c <;> exact ⟨rfl, rfl⟩

protected theorem Arrives.setCeiling {c : Ceiling} {on : Bool} (h : Arrives s t) : Arrives s (setCeiling c on t) := by
  obtain ⟨hmeasure, hout⟩ := t.gov.withCeiling_keeps c on
  refine h.trans ⟨fun hb => hb.of_outputs (by simp) ?_, ?_, by simp, by simp [DeskQuiet],
    by simp [touches_arrivalBlocks_iff]⟩
  · rw [setCeiling_gov, hout]
  · rw [setCeiling_gov, hmeasure]

/-! ### Transitions and demands (R9, R11, R14, R31) -/

theorem Governor.enter_measurement (n : RunState) (g : Governor) : (g.enter n).measurement = g.measurement := by
  simp [Governor.measurement]

/-- The governor at a transition gives the outputs that Table 1-5 gives the new state (R32, R33). -/
theorem Governor.enter_outputs (n : RunState) (g : Governor) :
    (g.enter n).outputs = (runMoves n, decide (n = .tripped)) := by
  cases n <;> rfl

/-- A transition into Starting may also move the Watch ceiling (R150), any other does not. -/
theorem enterState_outputs (n : RunState) (c : Cause) (s : State) :
    (enterState n c s).gov.outputs = (runMoves n, decide (n = .tripped)) := by
  unfold enterState
  simp only []
  split
  · simp only [indexTest_keeps, cycleTests_keeps, clearLocalEnables, watchCeilingTest, setCeiling_gov,
      Governor.withCeiling_keeps, queueReport_keeps, Governor.enter_outputs]
  · simp only [indexTest_keeps, cycleTests_keeps, queueReport_keeps, Governor.enter_outputs]

/-- The brake changes level at the transition itself (R32). -/
theorem BrakeObeyed.of_enterState (n : RunState) (c : Cause) (s : State) : BrakeObeyed (enterState n c s) := by
  obtain ⟨hbrake, htrip⟩ := Prod.mk.inj (enterState_outputs n c s)
  exact ⟨by rw [hbrake]; simp, by rw [htrip]; simp⟩

protected theorem Arrives.enterState {n : RunState} (hn : n ≠ .starting) {c : Cause} (h : Arrives s t) :
    Arrives s (enterState n c t) := by
  obtain ⟨-, hgov⟩ := enterState_run_gov hn c t
  refine h.trans ⟨fun _ => .of_enterState n c t, by rw [hgov, Governor.enter_measurement], by simp, by simp [DeskQuiet],
    (enterState_touches n c t (Or.inr hn)).mono fun b hb => by simp [arrivalBlocks, hb]⟩

/-- The governor after a demand is as it was, or as the transition that the demand requires leaves it (R9, R11, R31). -/
theorem raise_gov (src : Source) (s : State) :
    (raise src s).gov = s.gov ∨ ∃ n, (raise src s).gov = s.gov.enter n := by
  unfold raise
  split
  · exact Or.inl rfl
  · rw [(giveClass_keeps _).2.1]
    rcases demandTransition_cases src _ with h | ⟨n, hn, h⟩
    · exact Or.inl (by rw [h]; simp)
    · exact Or.inr ⟨n, by rw [h, (enterState_run_gov hn _ _).2]; simp⟩

protected theorem Arrives.raise {src : Source} (h : Arrives s t) : Arrives s (raise src t) := by
  unfold Machine.raise
  split
  · exact h
  · have joined : Arrives s (Machine.queueReport (.stopDemand src src.cls)
        { t with run := { t.run with demands := addSource src t.run.demands } }) := by
      refine Arrives.queueReport (h.trans ⟨fun hb => hb, rfl, fun x hx => ?_, DeskQuiet.refl t, ?_⟩)
      · exact (mem_addSource x src t.run.demands).mpr (Or.inr hx)
      · simp [touches_arrivalBlocks_iff]
    rcases demandTransition_cases src _ with hd | ⟨n, hn, hd⟩ <;> rw [hd]
    · exact joined.giveClass
    · exact (joined.enterState hn).giveClass

protected theorem Arrives.raiseAll {l : List Source} (h : Arrives s t) : Arrives s (raiseAll l t) := by
  induction l generalizing t with
  | nil => exact h
  | cons x xs ih => exact ih h.raise

/-! ### Counter events (R141 to R145) -/

protected theorem Arrives.fireAction {a : CounterAction} (h : Arrives s t) : Arrives s (fireAction a t) := by
  cases a
  · exact h
  · exact h.setCeiling
  · exact h.raise

protected theorem Arrives.counterTake {i : Idx4} {ev : CounterEvent} (h : Arrives s t) :
    Arrives s (counterTake i ev t) := by
  unfold Machine.counterTake
  split
  · split
    · exact h.setCounter.queueReport.fireAction
    · exact h.setCounter
  · exact h

protected theorem Arrives.offerEvent {ev : CounterEvent} (h : Arrives s t) : Arrives s (offerEvent ev t) :=
  h.counterTake.counterTake.counterTake.counterTake

protected theorem Arrives.countersTravel (h : Arrives s t) : Arrives s (countersTravel t) := by
  unfold Machine.countersTravel
  simp only []
  split
  · exact (h.edit (by rfl)).offerEvent
  · exact h.edit (by rfl)

/-! ### The position watches (R151 to R155) -/

protected theorem Arrives.offerHits {ms : List WatchMatch} (h : Arrives s t) : Arrives s (offerHits ms t) := by
  induction ms generalizing t with
  | nil => exact h
  | cons m ms ih => exact ih h.offerEvent

protected theorem Arrives.stopMatches {ms : List WatchMatch} (h : Arrives s t) : Arrives s (stopMatches ms t) := by
  induction ms generalizing t with
  | nil => exact h
  | cons m ms ih =>
    unfold Machine.stopMatches
    split
    · exact ih (h.edit (by rfl)).raise
    · exact ih h

protected theorem Arrives.occasion {ms : List WatchMatch} (h : Arrives s t) : Arrives s (occasion ms t) := by
  unfold Machine.occasion
  split
  · exact (h.edit (by rfl)).queueReport.offerHits.stopMatches
  · exact h

protected theorem Arrives.watchesTravel (h : Arrives s t) : Arrives s (watchesTravel t) :=
  (h.occasion.edit (by rfl)).setCeiling

/-! ### The roster and the track at a travel update (R60, R61, R65, R107 to R110) -/

protected theorem Arrives.reportOverdue {rs : List RosterRec} (h : Arrives s t) : Arrives s (reportOverdue rs t) := by
  induction rs generalizing t with
  | nil => exact h
  | cons r rs ih => exact ih h.offerEvent.queueReport

protected theorem Arrives.rosterWith {rs : List RosterRec} (h : Arrives s t) : Arrives s (rosterWith rs t) :=
  h.edit (by rfl)

protected theorem Arrives.rosterTravel (h : Arrives s t) : Arrives s (rosterTravel t) := by
  unfold Machine.rosterTravel
  simp only []
  split
  · exact h.rosterWith.reportOverdue.raise.watchesTravel
  · exact h.rosterWith.reportOverdue.watchesTravel

protected theorem Arrives.gateTest (h : Arrives s t) : Arrives s (gateTest t) := by
  unfold Machine.gateTest
  split
  · split
    · exact (h.edit (by rfl)).offerControl.offerEvent.queueReport.indexTest
    · exact h
  · exact h

protected theorem Arrives.completeLaunch {cls : GripClass} {r : CarrierRec} (h : Arrives s t) :
    Arrives s (completeLaunch cls r t) := by
  unfold Machine.completeLaunch
  exact (h.edit (by rfl)).gateTest

protected theorem Arrives.endUntested {raises : Bool} {r : CarrierRec} (h : Arrives s t) :
    Arrives s (endUntested raises r t) := by
  unfold Machine.endUntested
  simp only []
  split
  · exact (h.edit (by rfl)).raise.queueReport.completeLaunch
  · exact (h.edit (by rfl)).queueReport.completeLaunch

protected theorem Arrives.trackTravel (h : Arrives s t) : Arrives s (trackTravel t) := by
  have marked : Arrives s (markLimit t) := by
    unfold markLimit
    split
    · exact h.edit (by rfl)
    · exact h
  unfold Machine.trackTravel lostLaunchTest
  split
  · split
    · exact marked.endUntested.gateTest
    · exact marked.gateTest
  · exact marked.gateTest

end

/-! ### The stages of a window end on the governor (R20 to R35) -/

theorem Governor.measure_outputs (g : Governor) : g.measure.outputs = g.outputs := by
  unfold Governor.measure
  simp only []
  split <;> rfl

theorem Governor.supervise_keeps (g : Governor) (rs : RunState) (d : Int) :
    (g.supervise rs d).measurement = g.measurement ∧ (g.supervise rs d).outputs = g.outputs := ⟨rfl, rfl⟩

theorem Governor.aim_keeps (g : Governor) (rs : RunState) :
    (g.aim rs).measurement = g.measurement ∧ (g.aim rs).outputs = g.outputs := by
  cases rs <;> exact ⟨rfl, rfl⟩

theorem Governor.ramp_keeps (g : Governor) (rs : RunState) :
    (g.ramp rs).measurement = g.measurement ∧ (g.ramp rs).outputs = g.outputs := by
  unfold Governor.ramp
  split <;> exact ⟨rfl, rfl⟩

theorem Governor.exchange_keeps (g : Governor) :
    g.exchange.measurement = g.measurement ∧ g.exchange.outputs = g.outputs := by
  unfold Governor.exchange
  simp only []
  split
  · exact ⟨rfl, rfl⟩
  · split <;> exact ⟨rfl, rfl⟩

/-- The governor after stages 1 to 6 of a window end (R19). -/
def windowGov (s : State) : Governor :=
  ((s.gov.measure.supervise s.run.state s.gov.increment).aim s.run.state).ramp s.run.state

theorem windowGov_measurement (s : State) : (windowGov s).measurement = s.gov.measure.measurement :=
  calc (windowGov s).measurement
      = ((s.gov.measure.supervise s.run.state s.gov.increment).aim s.run.state).measurement :=
        (Governor.ramp_keeps _ _).1
    _ = (s.gov.measure.supervise s.run.state s.gov.increment).measurement := (Governor.aim_keeps _ _).1
    _ = s.gov.measure.measurement := (Governor.supervise_keeps _ _ _).1

theorem windowGov_outputs (s : State) : (windowGov s).outputs = s.gov.outputs :=
  calc (windowGov s).outputs
      = ((s.gov.measure.supervise s.run.state s.gov.increment).aim s.run.state).outputs := (Governor.ramp_keeps _ _).2
    _ = (s.gov.measure.supervise s.run.state s.gov.increment).outputs := (Governor.aim_keeps _ _).2
    _ = s.gov.measure.outputs := (Governor.supervise_keeps _ _ _).2
    _ = s.gov.outputs := s.gov.measure_outputs

/-! ### The arrivals of a window end (R7, R10, R19, R36) -/

section
variable {s t : State}

protected theorem Arrives.offerTarget {old : Nat} (h : Arrives s t) : Arrives s (offerTarget old t) := by
  unfold Machine.offerTarget
  split
  · exact h
  · exact h.offerGovernor

protected theorem Arrives.driveExchange (h : Arrives s t) : Arrives s (driveExchange t) := by
  obtain ⟨hmeasure, hout⟩ := t.gov.exchange_keeps
  have exchanged : Arrives s { t with gov := t.gov.exchange } :=
    h.edit (by simp only [hmeasure, hout])
  unfold Machine.driveExchange
  split
  · exact exchanged.offerGovernor
  · exact exchanged

protected theorem Arrives.windowResult (h : Arrives s t) : Arrives s (windowResult t) := by
  unfold Machine.windowResult
  simp only []
  split
  · split
    · exact (h.enterState (by decide)).gateTest
    · exact h
  · split
    · split
      · exact (h.edit (by rfl)).enterState (by decide)
      · exact h.edit (by rfl)
    · exact h.edit (by rfl)
  · exact h

end

/-- A window end up to the demands of its stage 4 (R19). -/
def windowRaised (s : State) : State :=
  raiseAll (s.gov.measure.alarms s.run.state s.gov.increment)
    (driveExchange (offerTarget s.gov.target { s with gov := windowGov s }))

/-- A window end up to its travel update (R19). -/
def windowSettled (s : State) : State :=
  if (windowGov s).lastMiss then raise .driveFault (windowResult (windowRaised s)) else windowResult (windowRaised s)

/-- The travel update of a window end (R36, R37). -/
def windowUpdate (s : State) : TravelUpdate :=
  (windowGov s).travelled s.gov.travel s.gov.increment s.run.state

theorem offerTarget_gov (old : Nat) (s : State) : (offerTarget old s).gov = s.gov := by
  unfold offerTarget
  split <;> simp

theorem windowEnd_eq (s : State) : windowEnd s = travelUpdate (windowUpdate s) (windowSettled s) := by
  have hgov : (offerTarget s.gov.target { s with gov := windowGov s }).gov = windowGov s := offerTarget_gov _ _
  unfold windowUpdate windowSettled
  rw [← hgov]
  rfl

theorem windowRaised_arrives (s : State) : Arrives { s with gov := windowGov s } (windowRaised s) :=
  (Arrives.refl _).offerTarget.driveExchange.raiseAll

/-- After the demands of stage 4 come run control's result and DriveFault (R19). -/
theorem windowSettled_arrives (s : State) : Arrives (windowRaised s) (windowSettled s) := by
  unfold windowSettled
  split
  · exact (Arrives.refl _).windowResult.raise
  · exact (Arrives.refl _).windowResult

theorem travelUpdate_arrives (u : TravelUpdate) (s : State) : Arrives { s with update := u } (travelUpdate u s) :=
  (Arrives.refl _).trackTravel.rosterTravel.countersTravel

/-! ### The hold timer (R41) -/

/-- The governor as the hold timer's event leaves it: the timer runs on where the reading is below the new band's entry
wind less H (R41). -/
def Governor.lowered (g : Governor) (wind : Option Nat) : Governor :=
  { g with
    band := g.band - 1
    holdMs := 0
    hold := if wind.any { g with band := g.band - 1 }.lowWind then g.hold else .stopped }

theorem holdExpired_of_running {s : State} (h : s.gov.hold = .running) :
    holdExpired s = enterBand (s.gov.lowered s.line.contents.wind) s := by
  unfold holdExpired
  rw [if_pos h]
  cases s.line.contents.wind with
  | none => rfl
  | some w =>
    have hlow : { s.gov with band := s.gov.band - 1, holdMs := 0 }.lowWind w =
      { s.gov with band := s.gov.band - 1 }.lowWind w := rfl
    simp only [hlow, Governor.lowered, Option.any_some]
    split <;> rfl

theorem holdExpired_of_not_running {s : State} (h : s.gov.hold ≠ .running) : holdExpired s = s := if_neg h

end Sys2Proof.Machine
end

section
/-! SUPPORT. The statements on pulses and travel, and on the drive status and the hold timer: what of a window end
stands through its later stages, and what a status record and a change of the wind band move. -/

namespace Sys2Proof.Machine

open Config

/-! ### Pulses and travel (R20 to R23, R36, R37) -/

theorem Governor.measurement_eq_iff {g h : Governor} : g.measurement = h.measurement ↔
    g.travel = h.travel ∧ g.residue = h.residue ∧ g.history = h.history ∧ g.v = h.v ∧ g.pf = h.pf ∧ g.pb = h.pb ∧
      g.lastPf = h.lastPf ∧ g.lastPb = h.lastPb := by
  simp [Governor.measurement]

/-- Every stage after the measurement, and every arrival, leaves the measurement (R19). -/
theorem windowEnd_measurement (s : State) : (windowEnd s).gov.measurement = s.gov.measure.measurement :=
  calc (windowEnd s).gov.measurement
      = (windowSettled s).gov.measurement := by rw [windowEnd_eq]; exact (travelUpdate_arrives _ _).measurement
    _ = (windowRaised s).gov.measurement := (windowSettled_arrives s).measurement
    _ = (windowGov s).measurement := (windowRaised_arrives s).measurement
    _ = s.gov.measure.measurement := windowGov_measurement s

theorem windowEnd_update (s : State) : (windowEnd s).update = windowUpdate s := by
  rw [windowEnd_eq]
  exact (travelUpdate_arrives _ _).touches .update (by decide)

theorem windowEnd_deskQuiet (s : State) : DeskQuiet s (windowEnd s) := by
  rw [windowEnd_eq]
  have raised : DeskQuiet s (windowRaised s) := (windowRaised_arrives s).desk
  exact (raised.trans (windowSettled_arrives s).desk).trans (travelUpdate_arrives (windowUpdate s) _).desk

theorem windowEnd_touches (s : State) : Touches windowBlocks s (windowEnd s) := by
  have sub : ∀ b, b ∈ arrivalBlocks → b ∈ windowBlocks := fun b hb => List.mem_cons_of_mem Block.update hb
  have governed : Touches windowBlocks s { s with gov := windowGov s } := by
    intro b hb
    cases b <;> simp [windowBlocks, raiseBlocks] at hb <;> rfl
  have updated : Touches windowBlocks (windowSettled s) { windowSettled s with update := windowUpdate s } := by
    intro b hb
    cases b <;> simp [windowBlocks, raiseBlocks] at hb <;> rfl
  rw [windowEnd_eq]
  refine governed.trans ?_
  refine ((windowRaised_arrives s).touches.mono sub).trans ?_
  refine ((windowSettled_arrives s).touches.mono sub).trans ?_
  exact updated.trans ((travelUpdate_arrives _ _).touches.mono sub)

/-- The demands of stage 4 are in the set after the window end (R19). -/
theorem mem_demands_windowEnd {x : Source} {s : State}
    (h : x ∈ s.gov.measure.alarms s.run.state s.gov.increment) : x ∈ (windowEnd s).run.demands := by
  have raised : x ∈ (windowRaised s).run.demands := (mem_raiseAll x _ _).mpr (Or.inl h)
  rw [windowEnd_eq]
  exact (travelUpdate_arrives (windowUpdate s) _).demands ((windowSettled_arrives s).demands raised)

theorem Governor.plausible_iff (g : Governor) : g.plausible = true ↔ g.pf + g.pb ≤ 4000 := decide_eq_true_iff

theorem Governor.measure_of_plausible {g : Governor} (h : g.pf + g.pb ≤ 4000) : g.measure = { g with
    lastPf := g.pf, lastPb := g.pb, pf := 0, pb := 0, travel := travelAdd g.travel g.increment,
    residue := (g.acc - 4096 * g.increment).toNat, history := g.history.push g.increment,
    v := meanSpeed (g.history.push g.increment).sum } := by
  rw [Governor.measure, if_pos (g.plausible_iff.mpr h)]

theorem Governor.measure_of_implausible {g : Governor} (h : 4000 < g.pf + g.pb) :
    g.measure = { g with lastPf := g.pf, lastPb := g.pb, pf := 0, pb := 0 } := by
  rw [Governor.measure, if_neg (mt g.plausible_iff.mp (Nat.not_le.mpr h))]

theorem Governor.measure_counts (g : Governor) :
    g.measure.pf = 0 ∧ g.measure.pb = 0 ∧ g.measure.lastPf = g.pf ∧ g.measure.lastPb = g.pb := by
  rcases Nat.lt_or_ge 4000 (g.pf + g.pb) with h | h
  · simp [measure_of_implausible h]
  · simp [measure_of_plausible h]

theorem Governor.increment_of_implausible {g : Governor} (h : 4000 < g.pf + g.pb) : g.increment = 0 :=
  if_neg (mt g.plausible_iff.mp (Nat.not_le.mpr h))

/-- The increment divides the accumulated pulses by 4096, and the residue is what is left (R22). -/
theorem Governor.acc_eq {g : Governor} (h : g.pf + g.pb ≤ 4000) :
    g.acc = 4096 * g.increment + ((g.acc - 4096 * g.increment).toNat : Int) ∧
      (g.acc - 4096 * g.increment).toNat < 4096 := by
  have hd : g.increment = g.acc / 4096 := if_pos (g.plausible_iff.mpr h)
  omega

/-- The measured speed is a quarter of the sum, a half rounded away from zero (R23). -/
theorem meanSpeed_spec (m : Int) :
    (0 ≤ m → 4 * meanSpeed m ≤ m + 2 ∧ m < 4 * meanSpeed m + 2) ∧
      (m < 0 → m - 2 ≤ 4 * meanSpeed m ∧ 4 * meanSpeed m - 2 < m) := by
  unfold meanSpeed
  split <;> omega

/-- The alarms hold EncoderLost after an implausible window (R21). -/
theorem encoderLost_mem_alarms {g : Governor} (h : 4000 < g.pf + g.pb) (rs : RunState) (d : Int) :
    Source.encoderLost ∈ g.measure.alarms rs d := by
  obtain ⟨-, -, hpf, hpb⟩ := g.measure_counts
  simp [Governor.alarms, hpf, hpb, pulseLimit, h]

/-- The travel update carries what the governor holds after the window end (R36, R37). -/
theorem windowUpdate_eq (s : State) : windowUpdate s =
    { t := (windowEnd s).gov.travel, before := s.gov.travel, d := s.gov.increment, v := (windowEnd s).gov.v,
      run := s.run.state,
      km := decide (0 < s.gov.increment ∧
        s.gov.travel.toNat / 1000000 ≠ (windowEnd s).gov.travel.toNat / 1000000) } := by
  obtain ⟨htravel, -, -, hv, -⟩ :=
    Governor.measurement_eq_iff.mp ((windowEnd_measurement s).trans (windowGov_measurement s).symm)
  rw [htravel, hv]
  simp [windowUpdate, Governor.travelled, crosses]

/-- Settles O22: the measurement is made by the first stages and stands through the later ones and their arrivals. -/
theorem pulsesBecomeTravel : Obligations.PulsesBecomeTravel := by
  refine ⟨fun s => ⟨rfl, rfl⟩, fun s => ⟨windowEnd s, rfl, ?_⟩⟩
  obtain ⟨htravel, hresidue, hhistory, hv, hpf, hpb, hlastPf, hlastPb⟩ :=
    Governor.measurement_eq_iff.mp (windowEnd_measurement s)
  have hd : (windowEnd s).update.d = s.gov.increment := by rw [windowEnd_update]; rfl
  obtain ⟨mpf, mpb, mlastPf, mlastPb⟩ := s.gov.measure_counts
  refine ⟨hpf.trans mpf, hpb.trans mpb, hlastPf.trans mlastPf, hlastPb.trans mlastPb, ?_, windowEnd_touches s,
    windowEnd_deskQuiet s, fun h => ?_, fun h => ?_⟩
  · rw [hd, windowEnd_update, windowUpdate_eq]
  · obtain ⟨hacc, hlt⟩ := Governor.acc_eq h
    rw [htravel, hresidue, hhistory, hv, Governor.measure_of_plausible h]
    exact ⟨s.gov.increment, hd, hacc, hlt, rfl, rfl, _, rfl, meanSpeed_spec _⟩
  · rw [htravel, hresidue, hhistory, hv, Governor.measure_of_implausible h, hd]
    exact ⟨Governor.increment_of_implausible h, rfl, rfl, rfl, rfl,
      mem_demands_windowEnd (encoderLost_mem_alarms h _ _)⟩

/-! ### The drive status and the hold timer (R34, R41) -/

/-- A demand leaves of the governor what a transition leaves (R31). -/
theorem raise_gov_keeps (src : Source) (s : State) :
    (raise src s).gov.status = s.gov.status ∧ (raise src s).gov.missed = s.gov.missed ∧
      (raise src s).gov.statusSeen = s.gov.statusSeen ∧ (raise src s).gov.band = s.gov.band ∧
      (raise src s).gov.hold = s.gov.hold ∧ (raise src s).gov.holdMs = s.gov.holdMs := by
  rcases raise_gov src s with h | ⟨n, h⟩ <;> simp [h]

/-- The state with a status record taken, before its Governor change and DriveFault (R34). -/
def statusKept (d : DriveStatus) (s : State) : State :=
  { s with gov := { s.gov with status := d, missed := 0, statusSeen := true } }

/-- The state with a status record taken and its Governor change offered (R34, R47). -/
def statusOffered (d : DriveStatus) (s : State) : State :=
  if d = s.gov.status then statusKept d s else offerGovernor (statusKept d s)

theorem takeStatus_eq (d : DriveStatus) (s : State) :
    takeStatus d s = if d.fault then raise .driveFault (statusOffered d s) else statusOffered d s := rfl

theorem offerGovernor_urgentKept (s : State) : UrgentKept s (offerGovernor s) := by
  unfold offerGovernor
  split
  · exact UrgentKept.refl s
  · split
    · exact queueReport_urgentKept (governorReport s) s
    · exact queueReport_urgentKept (governorReport s) s

theorem offerGovernor_touches (s : State) : Touches [.line, .desk] s (offerGovernor s) := by
  intro b hb
  cases b <;> simp at hb <;> simp [Block.kept]

/-- A status record taken moves the governor, and its Governor change the report queue and a Notice given back. -/
theorem statusOffered_frame (d : DriveStatus) (s : State) :
    (statusOffered d s).gov = { s.gov with status := d, missed := 0, statusSeen := true } ∧
      (statusOffered d s).run = s.run ∧ Touches [.gov, .line, .desk] s (statusOffered d s) ∧
      LineQuiet s (statusOffered d s) ∧ DeskQuiet s (statusOffered d s) := by
  have kept : Touches [.gov, .line, .desk] s (statusKept d s) := by
    intro b hb
    cases b <;> simp at hb <;> rfl
  unfold statusOffered
  split
  · exact ⟨rfl, rfl, kept, rfl, DeskQuiet.refl s⟩
  · refine ⟨by simp [statusKept], by simp [statusKept], ?_, (offerGovernor_urgentKept (statusKept d s)).1, ?_⟩
    · exact kept.trans ((offerGovernor_touches _).mono (by simp))
    · simp [DeskQuiet, statusKept]

theorem takeStatus_of_fault {d : DriveStatus} (hf : d.fault = true) (s : State) :
    Raised .driveFault s (takeStatus d s) ∧ Touches raiseBlocks s (takeStatus d s) ∧ DeskQuiet s (takeStatus d s) := by
  obtain ⟨-, hrun, htouches, -, hquiet⟩ := statusOffered_frame d s
  rw [takeStatus_eq, if_pos hf]
  refine ⟨?_, (htouches.mono (by simp [raiseBlocks])).trans (raise_touches _ _), hquiet.trans (raise_deskQuiet _ _)⟩
  have raised := (raise_run .driveFault (statusOffered d s)).1
  unfold Raised at *
  rwa [hrun] at raised

theorem takeStatus_gov (d : DriveStatus) (s : State) : (takeStatus d s).gov.status = d ∧
    (takeStatus d s).gov.missed = 0 ∧ (takeStatus d s).gov.statusSeen = true := by
  obtain ⟨hgov, -⟩ := statusOffered_frame d s
  rw [takeStatus_eq]
  split
  · obtain ⟨hstatus, hmissed, hseen, -⟩ := raise_gov_keeps .driveFault (statusOffered d s)
    rw [hstatus, hmissed, hseen, hgov]
    exact ⟨rfl, rfl, rfl⟩
  · rw [hgov]
    exact ⟨rfl, rfl, rfl⟩

/-- A change of the band is an arrival that moves nothing else of the governor than the update itself and Wind (R42). -/
theorem enterBand_frame (g : Governor) (s : State) :
    (enterBand g s).gov.band = g.band ∧ (enterBand g s).gov.hold = g.hold ∧ (enterBand g s).gov.holdMs = g.holdMs ∧
      s.run.demands ⊆ (enterBand g s).run.demands ∧ DeskQuiet s (enterBand g s) ∧
      Touches raiseBlocks s (enterBand g s) := by
  have replaced : Touches raiseBlocks s { s with gov := g } := by
    intro b hb
    cases b <;> simp [raiseBlocks] at hb <;> rfl
  have touched := replaced.trans ((offerGovernor_touches { s with gov := g }).mono (by simp [raiseBlocks]))
  have quiet : DeskQuiet s (offerGovernor { s with gov := g }) := by simp [DeskQuiet]
  unfold enterBand
  simp only []
  split
  · obtain ⟨-, -, -, hband, hhold, hms⟩ := raise_gov_keeps .wind (offerGovernor { s with gov := g })
    refine ⟨by simp [hband], by simp [hhold], by simp [hms], fun x hx => ?_, quiet.trans (raise_deskQuiet _ _),
      touched.trans (raise_touches _ _)⟩
    exact (mem_raise x _ _).mpr (Or.inr (by simpa using hx))
  · exact ⟨by simp, by simp, by simp, by simp, quiet, touched⟩

/-- The reading lies below the entry wind less H of the configured band that the current one is (R38, R41). -/
theorem Governor.lowWind_iff (g : Governor) (w : Nat) : g.lowWind w = true ↔
    ∃ b, 0 < g.band ∧ g.wind.bands[g.band - 1]? = some b ∧ w < b.entry - g.wind.hysteresis := by
  unfold Governor.lowWind Governor.bandNow
  by_cases h0 : g.band = 0
  · simp [h0]
  · rw [if_neg h0]
    cases g.wind.bands[g.band - 1]? <;> simp [Nat.pos_of_ne_zero h0]

/-- The hold timer runs on exactly for a reading below the new band's entry wind less H (R41). -/
theorem Governor.lowered_running_iff {g : Governor} (h : g.hold = .running) (wind : Option Nat) :
    (g.lowered wind).hold = .running ↔ ∃ w b, wind = some w ∧ 1 < g.band ∧
      g.wind.bands[g.band - 2]? = some b ∧ w < b.entry - g.wind.hysteresis := by
  have hband : 0 < g.band - 1 ↔ 1 < g.band := by omega
  have hindex : g.band - 1 - 1 = g.band - 2 := by omega
  cases wind with
  | none => simp [Governor.lowered]
  | some w => simp [Governor.lowered, h, Governor.lowWind_iff, hband, hindex, Nat.lt_sub_iff_add_lt]

theorem Governor.lowered_hold {g : Governor} (h : g.hold = .running) (wind : Option Nat) :
    (g.lowered wind).hold = .running ∨ (g.lowered wind).hold = .stopped := by
  unfold Governor.lowered
  simp only [h]
  split
  · exact Or.inl rfl
  · exact Or.inr rfl

/-- Settles O24: the status record by what taking it and raising DriveFault do, the hold timer by the band it enters. -/
theorem driveStatusAndHoldTimerAct : Obligations.DriveStatusAndHoldTimerAct := by
  refine ⟨fun record s => ⟨fun hnone => ?_, fun d hd => ?_⟩, fun s hrunning => ?_⟩
  · change Host.Outcome.next (driveRecord record s) = .next s
    simp [driveRecord, hnone]
  · have htaken : exec (.driveStatus record) s = .next (takeStatus d s) := by
      change Host.Outcome.next (driveRecord record s) = _
      simp [driveRecord, hd]
    obtain ⟨hstatus, hmissed, hseen⟩ := takeStatus_gov d s
    refine ⟨_, htaken, hstatus, hmissed, hseen, ?_⟩
    cases hf : d.fault with
    | true =>
      obtain ⟨hraised, htouches, hquiet⟩ := takeStatus_of_fault hf s
      exact ⟨fun _ => ⟨hraised, htouches⟩, nofun, hquiet⟩
    | false =>
      obtain ⟨-, hrun, htouches, hline, hquiet⟩ := statusOffered_frame d s
      have heq : takeStatus d s = statusOffered d s := by simp [takeStatus_eq, hf]
      rw [heq]
      exact ⟨nofun, fun _ => ⟨hrun, htouches, hline⟩, hquiet⟩
  · obtain ⟨hband, hhold, hms, hdemands, hquiet, htouches⟩ := enterBand_frame (s.gov.lowered s.line.contents.wind) s
    refine ⟨enterBand (s.gov.lowered s.line.contents.wind) s, ?_, hband, hms, ?_, ?_, fun x hx => hdemands hx, hquiet,
      htouches⟩
    · exact congrArg Host.Outcome.next (holdExpired_of_running hrunning)
    · rw [hhold]
      exact Governor.lowered_hold hrunning _
    · rw [hhold]
      exact Governor.lowered_running_iff hrunning _

end Sys2Proof.Machine
end

section
/-! SUPPORT. The brake output follows the run state (R32): every operation of every block keeps it, in the order of the
model's files; then the statement. A transition sets the outputs of its new state (`BrakeObeyed.of_enterState`), and
nothing else moves the run state or the outputs. -/

namespace Sys2Proof.Machine

open Config

section
variable {s t : State}

/-! ### The shared operations -/

/-- An edit of the state that leaves the run state and the outputs. -/
theorem BrakeObeyed.edit (h : BrakeObeyed s)
    (e : (t.run.state, t.gov.outputs) = (s.run.state, s.gov.outputs)) : BrakeObeyed t :=
  h.of_outputs (Prod.mk.inj e).1 (Prod.mk.inj e).2

/-- An operation that leaves run control and the governor. -/
theorem BrakeObeyed.of_same (h : BrakeObeyed s) (hrun : t.run = s.run) (hgov : t.gov = s.gov) : BrakeObeyed t :=
  h.of_outputs (by rw [hrun]) (by rw [hgov])

protected theorem BrakeObeyed.queueReport {r : Report} (h : BrakeObeyed s) : BrakeObeyed (queueReport r s) :=
  h.of_same (by simp) (by simp)

protected theorem BrakeObeyed.offerGovernor (h : BrakeObeyed s) : BrakeObeyed (offerGovernor s) :=
  h.of_same (by simp) (by simp)

protected theorem BrakeObeyed.offerTower (h : BrakeObeyed s) : BrakeObeyed (offerTower s) :=
  h.of_same (by simp) (by simp)

protected theorem BrakeObeyed.offerLine (h : BrakeObeyed s) : BrakeObeyed (offerLine s) :=
  h.of_same (by simp) (by simp)

protected theorem BrakeObeyed.offerBerth (h : BrakeObeyed s) : BrakeObeyed (offerBerth s) :=
  h.of_same (by simp) (by simp)

protected theorem BrakeObeyed.offerControl {f : ControlFrame} (h : BrakeObeyed s) : BrakeObeyed (offerControl f s) :=
  h.of_same (by simp) (by simp)

protected theorem BrakeObeyed.offerVoice {f : VoiceFrame} (h : BrakeObeyed s) : BrakeObeyed (offerVoice f s) :=
  h.of_same (by simp) (by simp)

protected theorem BrakeObeyed.giveClass (h : BrakeObeyed s) : BrakeObeyed (giveClass s) := h.of_same (by simp) (by simp)

protected theorem BrakeObeyed.changeBerth {i : Idx4} {b : Berth} (h :
    BrakeObeyed s) : BrakeObeyed (changeBerth i b s) :=
  h.of_same (by simp) (by simp)

protected theorem BrakeObeyed.changeBerths {q : Quad Berth} (h : BrakeObeyed s) : BrakeObeyed (changeBerths q s) :=
  h.of_same (by simp) (by simp)

protected theorem BrakeObeyed.cycleTest {i : Idx4} (h : BrakeObeyed s) : BrakeObeyed (cycleTest i s) :=
  h.of_same (by simp) (by simp)

protected theorem BrakeObeyed.cycleTests (h : BrakeObeyed s) : BrakeObeyed (cycleTests s) :=
  h.of_same (by simp) (by simp)

protected theorem BrakeObeyed.indexTest (h : BrakeObeyed s) : BrakeObeyed (indexTest s) := h.of_same (by simp) (by simp)

/-- A governor update keeps the promise where it leaves the outputs (R28). -/
protected theorem BrakeObeyed.updateCeilings {g : Governor} (h : BrakeObeyed s) (hout : g.outputs = s.gov.outputs) :
    BrakeObeyed (updateCeilings g s) :=
  h.of_outputs (by simp) (by rw [updateCeilings_gov, hout])

protected theorem BrakeObeyed.setCeiling {c : Ceiling} {on : Bool} (h : BrakeObeyed s) :
    BrakeObeyed (setCeiling c on s) := (Arrives.refl s).setCeiling.brake h

protected theorem BrakeObeyed.raise {src : Source} (h : BrakeObeyed s) : BrakeObeyed (raise src s) :=
  (Arrives.refl s).raise.brake h

protected theorem BrakeObeyed.offerEvent {ev : CounterEvent} (h : BrakeObeyed s) : BrakeObeyed (offerEvent ev s) :=
  (Arrives.refl s).offerEvent.brake h

protected theorem BrakeObeyed.occasion {ms : List WatchMatch} (h : BrakeObeyed s) : BrakeObeyed (occasion ms s) :=
  (Arrives.refl s).occasion.brake h

protected theorem BrakeObeyed.gateTest (h : BrakeObeyed s) : BrakeObeyed (gateTest s) :=
  (Arrives.refl s).gateTest.brake h

/-! ### Event counters and position watches (chapter 7) -/

protected theorem BrakeObeyed.done (h : BrakeObeyed s) : BrakeObeyed (done s).1 := h

protected theorem BrakeObeyed.refuse {r : Reason} (h : BrakeObeyed s) : BrakeObeyed (refuse r s).1 := h

protected theorem BrakeObeyed.expiryEvent {i : Idx4} {ev : CounterEvent} (h : BrakeObeyed s) :
    BrakeObeyed (expiryEvent i ev s) := by
  unfold Machine.expiryEvent
  split
  · exact (Arrives.refl s).counterTake.brake h
  · exact h

protected theorem BrakeObeyed.doSetCounter {n : Nat} {r : CounterRequest} (h : BrakeObeyed s) :
    BrakeObeyed (doSetCounter n r s).1 := by
  unfold Machine.doSetCounter
  split
  · split
    · exact (h.edit (by rfl)).setCeiling.done
    · exact h.refuse
  · exact h.refuse

protected theorem BrakeObeyed.doArmCounter {n : Nat} (h : BrakeObeyed s) : BrakeObeyed (doArmCounter n s).1 := by
  unfold Machine.doArmCounter
  split
  · exact (h.edit (by rfl)).setCeiling.done
  · split
    · exact (h.edit (by rfl)).setCeiling.done
    · exact h.refuse

protected theorem BrakeObeyed.placeWatch {i : Idx4} {w : Watch} (h : BrakeObeyed s) :
    BrakeObeyed (placeWatch i w s) := by
  unfold Machine.placeWatch
  simp only []
  split
  · exact (h.edit (by rfl)).setCeiling
  · exact (h.edit (by rfl)).setCeiling

protected theorem BrakeObeyed.doSetWatch {n : Nat} {r : WatchRequest} (h : BrakeObeyed s) :
    BrakeObeyed (doSetWatch n r s).1 := by
  unfold Machine.doSetWatch
  split
  · split
    · exact h.placeWatch.done
    · exact h.refuse
  · exact h.refuse

protected theorem BrakeObeyed.doClearHits {n : Nat} (h : BrakeObeyed s) : BrakeObeyed (doClearHits n s).1 := by
  unfold Machine.doClearHits
  split
  · exact (h.edit (by rfl)).done
  · split
    · exact (h.edit (by rfl)).done
    · exact h.refuse

/-! ### The berth controller (chapter 4) -/

protected theorem BrakeObeyed.setBerth {i : Idx4} {b : Berth} (h : BrakeObeyed s) : BrakeObeyed (s.setBerth i b) :=
  h.edit (by rfl)

protected theorem BrakeObeyed.wakingTest (h : BrakeObeyed s) : BrakeObeyed (wakingTest s) := by
  unfold Machine.wakingTest
  split
  · exact .of_enterState _ _ s
  · exact h

protected theorem BrakeObeyed.cycleNotice {i : Idx4} {ran : Bool} {n : Nat} (h : BrakeObeyed s) :
    BrakeObeyed (cycleNotice i ran n s) := by
  unfold Machine.cycleNotice
  split
  · exact (h.edit (by rfl)).indexTest
  · exact h.indexTest

protected theorem BrakeObeyed.lockedNotice {i : Idx4} {completed : Bool} (h : BrakeObeyed s) :
    BrakeObeyed (lockedNotice i completed s) := by
  unfold Machine.lockedNotice
  split
  · exact h.cycleNotice.wakingTest
  · exact h.indexTest.wakingTest

protected theorem BrakeObeyed.queueRequest {i : Idx4} {m : Motion} (h : BrakeObeyed s) :
    BrakeObeyed (queueRequest i m s) := by
  unfold Machine.queueRequest
  split
  · exact h
  · exact h.edit (by rfl)

protected theorem BrakeObeyed.withdrawRequest {i : Idx4} (h : BrakeObeyed s) : BrakeObeyed (withdrawRequest i s) :=
  h.edit (by rfl)

protected theorem BrakeObeyed.faultBerth {i : Idx4} {r : FaultReason} (h : BrakeObeyed s) :
    BrakeObeyed (faultBerth i r s) := h.withdrawRequest.changeBerth

protected theorem BrakeObeyed.countReversal {i : Idx4} (h : BrakeObeyed s) : BrakeObeyed (countReversal i s) := by
  unfold Machine.countReversal limitTest
  split
  · exact h.setBerth.offerEvent.changeBerth
  · exact h.setBerth.offerEvent

protected theorem BrakeObeyed.reverse {i : Idx4} (h : BrakeObeyed s) : BrakeObeyed (reverse i s) :=
  h.changeBerth.countReversal

protected theorem BrakeObeyed.grantClose {test : State → State} {i : Idx4} (h : BrakeObeyed s)
    (htest : ∀ u, BrakeObeyed u → BrakeObeyed (test u)) : BrakeObeyed (grantClose test i s) := by
  unfold Machine.grantClose
  simp only []
  split
  · split
    · exact (htest s h).countReversal.queueRequest
    · exact (htest s h).countReversal
  · exact h.changeBerth

protected theorem BrakeObeyed.grantHoming {i : Idx4} (h : BrakeObeyed s) : BrakeObeyed (grantHoming i s) := by
  unfold Machine.grantHoming
  split
  · exact h.faultBerth
  · exact h.setBerth

protected theorem BrakeObeyed.grantHead {test : State → State} (h : BrakeObeyed s)
    (htest : ∀ u, BrakeObeyed u → BrakeObeyed (test u)) : BrakeObeyed (grantHead test s) := by
  unfold Machine.grantHead
  split
  · exact h
  · rename_i i m rest _
    have taken : BrakeObeyed { s with supply :=
      { s.supply with wait := rest, sinceGrant := some 0 } } := h.edit (by rfl)
    cases m
    · exact taken.changeBerth
    · exact taken.grantClose htest
    · exact taken.grantHoming

protected theorem BrakeObeyed.supplyLoop (n : Nat) (h : BrakeObeyed s) : BrakeObeyed (supplyLoop n s) := by
  induction n generalizing s with
  | zero => exact h
  | succ n ih =>
    unfold Machine.supplyLoop
    split
    · exact ih (h.grantHead fun _ => ih)
    · exact h

protected theorem BrakeObeyed.supplyTest (h : BrakeObeyed s) : BrakeObeyed (supplyTest s) := h.supplyLoop 32

protected theorem BrakeObeyed.request {i : Idx4} {m : Motion} (h : BrakeObeyed s) : BrakeObeyed (request i m s) :=
  h.queueRequest.supplyTest

protected theorem BrakeObeyed.fault {i : Idx4} {r : FaultReason} (h : BrakeObeyed s) : BrakeObeyed (fault i r s) := by
  unfold Machine.fault
  split
  · exact h.faultBerth.supplyTest
  · exact h.faultBerth

protected theorem BrakeObeyed.lockBerth {i : Idx4} (h : BrakeObeyed s) : BrakeObeyed (lockBerth i s) :=
  h.changeBerth.lockedNotice.cycleTest

protected theorem BrakeObeyed.startLocking {i : Idx4} (h : BrakeObeyed s) : BrakeObeyed (startLocking i s) := by
  unfold Machine.startLocking
  simp only []
  split
  · exact h.changeBerth.lockBerth
  · exact h.changeBerth

protected theorem BrakeObeyed.recoveryExpired {i : Idx4} (h : BrakeObeyed s) : BrakeObeyed (recoveryExpired i s) := by
  unfold Machine.recoveryExpired
  split
  · exact h.setBerth.cycleTest
  · exact h

protected theorem BrakeObeyed.unlockExpired {i : Idx4} (h : BrakeObeyed s) : BrakeObeyed (unlockExpired i s) := by
  unfold Machine.unlockExpired
  simp only []
  split
  · split
    · exact h.fault
    · split
      · exact h.changeBerth.request
      · exact h.changeBerth
  · exact h

protected theorem BrakeObeyed.openEntered {i : Idx4} (h : BrakeObeyed s) : BrakeObeyed (openEntered i s) := by
  unfold Machine.openEntered
  simp only []
  split
  · split
    · exact h.setBerth
    · exact h.request
  · exact h

protected theorem BrakeObeyed.openingExpired {i : Idx4} (h : BrakeObeyed s) : BrakeObeyed (openingExpired i s) := by
  unfold Machine.openingExpired
  split
  · split
    · exact h.changeBerth.supplyTest.openEntered
    · exact h.fault
  · exact h

protected theorem BrakeObeyed.dwellExpired {i : Idx4} (h : BrakeObeyed s) : BrakeObeyed (dwellExpired i s) := by
  unfold Machine.dwellExpired
  split
  · exact h.setBerth.request
  · exact h

protected theorem BrakeObeyed.closingExpired {i : Idx4} (h : BrakeObeyed s) : BrakeObeyed (closingExpired i s) := by
  unfold Machine.closingExpired
  simp only []
  split
  · split
    · split
      · exact h.changeBerth.supplyTest.offerEvent.startLocking
      · exact h.changeBerth.supplyTest.offerEvent
    · exact h.fault
  · exact h

protected theorem BrakeObeyed.lockExpired {i : Idx4} (h : BrakeObeyed s) : BrakeObeyed (lockExpired i s) := by
  unfold Machine.lockExpired
  split
  · exact h.fault
  · exact h

protected theorem BrakeObeyed.homingExpired {i : Idx4} (h : BrakeObeyed s) : BrakeObeyed (homingExpired i s) := by
  unfold Machine.homingExpired
  simp only []
  split
  · split
    · exact h.setBerth
    · split
      · exact h.changeBerth.supplyTest.lockedNotice.cycleTest
      · exact h.fault
  · exact h

protected theorem BrakeObeyed.gapExpired (h : BrakeObeyed s) : BrakeObeyed (gapExpired s) := by
  unfold Machine.gapExpired
  split
  · exact h
  · exact (h.edit (by rfl)).supplyTest

protected theorem BrakeObeyed.motionCompleteSense {i : Idx4} {active : Bool} (h : BrakeObeyed s) :
    BrakeObeyed (motionCompleteSense i active s) := by
  unfold Machine.motionCompleteSense
  simp only []
  split
  · exact h.setBerth
  · exact h.setBerth

protected theorem BrakeObeyed.lockConfirmSense {i : Idx4} {active : Bool} (h : BrakeObeyed s) :
    BrakeObeyed (lockConfirmSense i active s) := by
  unfold Machine.lockConfirmSense
  simp only []
  split
  · exact h.setBerth.lockBerth
  · exact h.setBerth

protected theorem BrakeObeyed.obstructionSense {i : Idx4} {active : Bool} (h : BrakeObeyed s) :
    BrakeObeyed (obstructionSense i active s) := by
  unfold Machine.obstructionSense
  simp only []
  split
  · split
    · exact h.setBerth.reverse
    · split
      · exact h.setBerth.fault
      · exact h.setBerth
  · exact h.setBerth

protected theorem BrakeObeyed.driveFaultChange {i : Idx4} {active : Bool} (h : BrakeObeyed s) :
    BrakeObeyed (driveFaultChange i active s) := by
  unfold Machine.driveFaultChange
  simp only []
  split
  · split
    · split
      · exact h.setBerth
      · exact h.setBerth.changeBerth
    · exact h.setBerth.fault
  · exact h.setBerth

protected theorem BrakeObeyed.pendingFault {i : Idx4} (h : BrakeObeyed s) : BrakeObeyed (pendingFault i s) := by
  unfold Machine.pendingFault
  split
  · exact h.fault
  · exact h

protected theorem BrakeObeyed.pendingFaults (h : BrakeObeyed s) : BrakeObeyed (pendingFaults s) :=
  h.pendingFault.pendingFault.pendingFault.pendingFault

protected theorem BrakeObeyed.parkBerths (h : BrakeObeyed s) : BrakeObeyed (parkBerths s) :=
  (h.edit (by rfl)).changeBerths

protected theorem BrakeObeyed.homeBerths (h : BrakeObeyed s) : BrakeObeyed (homeBerths s) :=
  (h.edit (by rfl)).changeBerths.supplyTest

protected theorem BrakeObeyed.thaw (h : BrakeObeyed s) : BrakeObeyed (thaw s) := h.supplyTest.cycleTests.indexTest

protected theorem BrakeObeyed.doSetBerth {n : Nat} {r : BerthRequest} (h : BrakeObeyed s) :
    BrakeObeyed (doSetBerth n r s).1 := by
  unfold Machine.doSetBerth placeSettings
  split
  · split
    · split
      · simp only []
        split
        · exact h.setBerth.cycleNotice.done
        · exact h.setBerth.done
      · exact h.refuse
    · exact h.refuse
  · exact h.refuse

protected theorem BrakeObeyed.doSetMotion {gap : Nat} (h : BrakeObeyed s) : BrakeObeyed (doSetMotion gap s).1 := by
  unfold Machine.doSetMotion
  split
  · exact (h.edit (by rfl)).supplyTest.done
  · exact h.refuse

protected theorem BrakeObeyed.clearHoldOpen {i : Idx4} (h : BrakeObeyed s) : BrakeObeyed (clearHoldOpen i s) := by
  unfold Machine.clearHoldOpen
  split
  · exact h.changeBerth
  · exact h

protected theorem BrakeObeyed.commandUnlock {i : Idx4} (h : BrakeObeyed s) : BrakeObeyed (commandUnlock i s).1 := by
  unfold Machine.commandUnlock
  simp only []
  split
  · split
    · exact h.refuse
    · exact h.changeBerth.done
  · exact h.refuse

protected theorem BrakeObeyed.commandOpen {i : Idx4} (h : BrakeObeyed s) : BrakeObeyed (commandOpen i s).1 := by
  unfold Machine.commandOpen
  simp only []
  split
  · exact h.request.done
  · exact h.refuse

protected theorem BrakeObeyed.commandClose {i : Idx4} (h : BrakeObeyed s) : BrakeObeyed (commandClose i s).1 := by
  unfold Machine.commandClose
  simp only []
  split
  · exact h.clearHoldOpen.request.done
  · exact h.refuse

protected theorem BrakeObeyed.commandLock {i : Idx4} (h : BrakeObeyed s) : BrakeObeyed (commandLock i s).1 := by
  unfold Machine.commandLock
  simp only []
  split
  · exact h.withdrawRequest.startLocking.done
  · exact h.refuse

protected theorem BrakeObeyed.commandHoldOpen {i : Idx4} (h : BrakeObeyed s) :
    BrakeObeyed (commandHoldOpen i s).1 := by
  unfold Machine.commandHoldOpen
  simp only []
  split
  · split
    · exact h.done
    · split
      · exact h.withdrawRequest.changeBerth.done
      · exact h.changeBerth.done
  · exact h.refuse

protected theorem BrakeObeyed.commandEndDwell {i : Idx4} (h : BrakeObeyed s) :
    BrakeObeyed (commandEndDwell i s).1 := by
  unfold Machine.commandEndDwell
  simp only []
  split
  · split
    · exact h.done
    · exact h.setBerth.clearHoldOpen.request.done
  · exact h.refuse

protected theorem BrakeObeyed.commandReopen {i : Idx4} (h : BrakeObeyed s) : BrakeObeyed (commandReopen i s).1 := by
  unfold Machine.commandReopen
  simp only []
  split
  · exact h.reverse.done
  · split
    · exact h.countReversal.request.done
    · exact h.refuse

protected theorem BrakeObeyed.commandSkipCycle {i : Idx4} (h : BrakeObeyed s) :
    BrakeObeyed (commandSkipCycle i s).1 := by
  unfold Machine.commandSkipCycle
  simp only []
  split
  · exact h.setBerth.cycleNotice.done
  · exact h.refuse

protected theorem BrakeObeyed.commandClearFault {i : Idx4} (h : BrakeObeyed s) :
    BrakeObeyed (commandClearFault i s).1 := by
  unfold Machine.commandClearFault
  simp only []
  split
  · split
    · exact h.refuse
    · split
      · exact h.changeBerth.done
      · exact h.changeBerth.request.done
  · exact h.refuse

protected theorem BrakeObeyed.commandSetMode {i : Idx4} {m : BerthMode} (h : BrakeObeyed s) :
    BrakeObeyed (commandSetMode i m s).1 := by
  unfold Machine.commandSetMode
  simp only []
  split
  · split
    · exact h.done
    · exact h.changeBerth.cycleTest.done
  · exact h.refuse

protected theorem BrakeObeyed.berthCommand {i : Idx4} {c : BerthCommand} {m : Option BerthMode} (h : BrakeObeyed s) :
    BrakeObeyed (berthCommand i c m s).1 := by
  cases c with
  | unlock => exact h.commandUnlock
  | opening => exact h.commandOpen
  | closing => exact h.commandClose
  | lock => exact h.commandLock
  | holdOpen => exact h.commandHoldOpen
  | endDwell => exact h.commandEndDwell
  | reopen => exact h.commandReopen
  | skipCycle => exact h.commandSkipCycle
  | clearFault => exact h.commandClearFault
  | setMode =>
    cases m
    · exact h.refuse
    · exact h.commandSetMode

protected theorem BrakeObeyed.doBerthCommand {n c m : Nat} (h : BrakeObeyed s) :
    BrakeObeyed (doBerthCommand n c m s).1 := by
  unfold Machine.doBerthCommand
  split
  · split
    · exact h.refuse
    · split
      · exact h.refuse
      · exact h.berthCommand
  · exact h.refuse

/-! ### The terminal track (chapter 3) -/

protected theorem BrakeObeyed.bufferChanged {n : Nat} (h : BrakeObeyed s) : BrakeObeyed (bufferChanged n s) := by
  unfold Machine.bufferChanged
  split
  · exact h
  · split
    · exact h.setCeiling.raise
    · exact h.setCeiling

protected theorem BrakeObeyed.completeLaunch {cls : GripClass} {r : CarrierRec} (h : BrakeObeyed s) :
    BrakeObeyed (completeLaunch cls r s) := (Arrives.refl s).completeLaunch.brake h

protected theorem BrakeObeyed.gripEffect {cls : GripClass} {c : Option (Nat × Bool)} (h : BrakeObeyed s) :
    BrakeObeyed (gripEffect cls c s) := by
  cases cls with
  | marginal => exact h.offerEvent
  | fail => exact h.raise
  | good => exact h
  | noTest => exact h
  | unexpected => exact h

protected theorem BrakeObeyed.testRecord {record : List Byte} (h : BrakeObeyed s) :
    BrakeObeyed (testRecord record s) := by
  unfold Machine.testRecord gripResult
  split
  · split
    · exact (h.edit (by rfl)).queueReport
    · exact (h.edit (by rfl)).gripEffect.offerEvent.queueReport.completeLaunch
  · exact h.edit (by rfl)

protected theorem BrakeObeyed.indexLimitExpired (h : BrakeObeyed s) : BrakeObeyed (indexLimitExpired s) := by
  unfold Machine.indexLimitExpired
  split
  · split
    · exact h
    · exact (h.edit (by rfl)).raise
  · exact h

protected theorem BrakeObeyed.indexDone (h : BrakeObeyed s) : BrakeObeyed (indexDone s) := by
  unfold Machine.indexDone occupyBerths
  split
  · exact h.edit (by rfl)
  · exact (h.edit (by rfl)).changeBerths.pendingFaults.cycleTests.bufferChanged.offerEvent.gateTest.indexTest

protected theorem BrakeObeyed.cancelIndex (h : BrakeObeyed s) : BrakeObeyed (cancelIndex s) := by
  unfold Machine.cancelIndex
  split
  · exact h
  · exact (h.edit (by rfl)).queueReport

/-- A request on a named record keeps the promise where its act on the record found does (R68). -/
protected theorem BrakeObeyed.withNamed {n : Nat} {act : Place → CarrierRec → State × ReplyResult}
    (h : BrakeObeyed s) (hact : ∀ p r, BrakeObeyed (act p r).1) : BrakeObeyed (withNamed n s act).1 := by
  unfold Machine.withNamed
  split
  · exact hact _ _
  · exact h.refuse

protected theorem BrakeObeyed.modifyNamed {n : Nat} {f : CarrierRec → CarrierRec} (h : BrakeObeyed s) :
    BrakeObeyed (modifyNamed n f s) := h.edit (by rfl)

protected theorem BrakeObeyed.gateTestAt {p : Place} (h : BrakeObeyed s) : BrakeObeyed (gateTestAt p s) := by
  unfold Machine.gateTestAt
  split
  · exact h.gateTest
  · exact h

protected theorem BrakeObeyed.doHold {n : Nat} (h : BrakeObeyed s) : BrakeObeyed (doHold n s).1 := by
  refine h.withNamed fun p r => ?_
  simp only []
  split
  · exact h.refuse
  · split
    · exact h.done
    · exact h.modifyNamed.queueReport.gateTestAt.done

protected theorem BrakeObeyed.doRelease {n : Nat} (h : BrakeObeyed s) : BrakeObeyed (doRelease n s).1 :=
  h.withNamed fun _ _ => h.modifyNamed.queueReport.gateTestAt.done

protected theorem BrakeObeyed.doRenumber {n new : Nat} (h : BrakeObeyed s) : BrakeObeyed (doRenumber n new s).1 := by
  refine h.withNamed fun p r => ?_
  simp only []
  split
  · exact h.refuse
  · split
    · exact h.done
    · split
      · exact h.refuse
      · exact h.modifyNamed.queueReport.gateTestAt.done

protected theorem BrakeObeyed.doMark {n : Nat} (h : BrakeObeyed s) : BrakeObeyed (doMark n s).1 :=
  h.withNamed fun _ _ => h.modifyNamed.done

protected theorem BrakeObeyed.doUnmark {n : Nat} (h : BrakeObeyed s) : BrakeObeyed (doUnmark n s).1 :=
  h.withNamed fun _ _ => h.modifyNamed.done

protected theorem BrakeObeyed.doGarage (h : BrakeObeyed s) : BrakeObeyed (doGarage s).1 := by
  unfold Machine.doGarage
  split
  · exact h.refuse
  · exact (h.edit (by rfl)).queueReport.indexTest.done

protected theorem BrakeObeyed.doInhibit {on : Bool} (h : BrakeObeyed s) : BrakeObeyed (doInhibit on s).1 := by
  cases on
  · exact (h.edit (by rfl)).gateTest.indexTest.done
  · exact (h.edit (by rfl)).done

protected theorem BrakeObeyed.doAbandon (h : BrakeObeyed s) : BrakeObeyed (doAbandon s).1 := by
  unfold Machine.doAbandon
  split
  · split
    · exact h.refuse
    · split
      · exact (Arrives.refl s).endUntested.brake h
      · exact h.refuse
  · exact h.refuse

protected theorem BrakeObeyed.placeDeclared {p : Place} {n : Nat} (h : BrakeObeyed s) :
    BrakeObeyed (placeDeclared p n s) := by
  unfold Machine.placeDeclared
  exact (h.edit (by rfl)).bufferChanged.gateTest.indexTest

protected theorem BrakeObeyed.doDeclare {p n : Nat} (h : BrakeObeyed s) : BrakeObeyed (doDeclare p n s).1 := by
  unfold Machine.doDeclare
  split
  · exact h.refuse
  split
  · exact h.refuse
  split
  · exact h.refuse
  split
  · exact h.refuse
  split
  · exact h.refuse
  split
  · exact h.refuse
  exact h.placeDeclared.done

protected theorem BrakeObeyed.doSetSpacing {g v : Nat} (h : BrakeObeyed s) : BrakeObeyed (doSetSpacing g v s).1 := by
  unfold Machine.doSetSpacing
  split
  · exact (h.edit (by rfl)).gateTest.done
  · exact h.refuse

protected theorem BrakeObeyed.doSetTrack {slow limit : Nat} {accept : Bool} (h : BrakeObeyed s) :
    BrakeObeyed (doSetTrack slow limit accept s).1 := by
  unfold Machine.doSetTrack
  split
  · exact (h.edit (by rfl)).setCeiling.done
  · exact h.refuse

protected theorem BrakeObeyed.doSetGrip {a b : Nat} (h : BrakeObeyed s) : BrakeObeyed (doSetGrip a b s).1 := by
  unfold Machine.doSetGrip
  split
  · exact (h.edit (by rfl)).done
  · exact h.refuse

/-! ### The roster (chapter 5) -/

protected theorem BrakeObeyed.reportSkipped {rs : List RosterRec} (h : BrakeObeyed s) :
    BrakeObeyed (reportSkipped rs s) := by
  induction rs generalizing s with
  | nil => exact h
  | cons r rs ih => exact ih h.queueReport

protected theorem BrakeObeyed.passedOver {leg : Leg} {rs : List RosterRec} (h : BrakeObeyed s) :
    BrakeObeyed (passedOver leg rs s) := by
  unfold Machine.passedOver
  split
  · exact h.reportSkipped.raise
  · exact h

protected theorem BrakeObeyed.rosterWith {rs : List RosterRec} (h : BrakeObeyed s) : BrakeObeyed (rosterWith rs s) :=
  h.edit (by rfl)

protected theorem BrakeObeyed.setTail {r : CarrierRec} (h : BrakeObeyed s) : BrakeObeyed (setTail r s) :=
  h.edit (by rfl)

protected theorem BrakeObeyed.arrived {n : Nat} (h : BrakeObeyed s) : BrakeObeyed (arrived n s) := by
  unfold Machine.arrived
  split
  · exact h.rosterWith.passedOver
  · exact h.queueReport.offerEvent

protected theorem BrakeObeyed.departed {n m : Nat} (h : BrakeObeyed s) : BrakeObeyed (departed n m s) := by
  unfold Machine.departed
  split
  · simp only []
    split
    · exact h.rosterWith.offerEvent.queueReport
    · exact h.rosterWith
  · exact h.queueReport

protected theorem BrakeObeyed.takeMatch {unread : Bool} {before behind : List RosterRec} {x : RosterRec}
    {r : CarrierRec} (h : BrakeObeyed s) : BrakeObeyed (takeMatch unread before x behind r s) := by
  unfold Machine.takeMatch
  cases unread
  · exact h.setTail.rosterWith.passedOver.gateTest
  · exact h.setTail.rosterWith.gateTest

protected theorem BrakeObeyed.matchEntry {b : Bool} {r : CarrierRec} (h : BrakeObeyed s) :
    BrakeObeyed (matchEntry b r s) := by
  unfold Machine.matchEntry
  split
  · split
    · exact h.takeMatch
    · exact h.setTail
  split
  · exact h.takeMatch
  split
  · exact h.setTail
  split
  · exact h
  exact h.setTail

protected theorem BrakeObeyed.entry {tag : Nat} {stuck : Bool} (h :
    BrakeObeyed s) : BrakeObeyed (entry tag stuck s) := by
  unfold Machine.entry
  simp only []
  split
  · exact h.raise.queueReport
  · split
    · exact (h.edit (by rfl)).matchEntry.setTail.raise.bufferChanged.offerEvent.queueReport.indexTest
    · exact (h.edit (by rfl)).matchEntry.setTail.bufferChanged.offerEvent.queueReport.indexTest

protected theorem BrakeObeyed.doRemoveCarrier {n : Nat} (h : BrakeObeyed s) : BrakeObeyed (doRemoveCarrier n s).1 := by
  unfold Machine.doRemoveCarrier
  split
  · split
    · exact h.refuse
    · split
      · exact h.refuse
      · exact h.rosterWith.queueReport.gateTest.done
  · exact h.refuse

protected theorem BrakeObeyed.doSetGeometry {u d k : Nat} (h : BrakeObeyed s) :
    BrakeObeyed (doSetGeometry u d k s).1 := by
  unfold Machine.doSetGeometry
  split
  · split
    · exact (h.edit (by rfl)).done
    · exact h.refuse
  · exact h.refuse

/-! ### The tower scanner (chapter 6) -/

protected theorem BrakeObeyed.setSlot {n : Nat} {x : Slot} (h : BrakeObeyed s) : BrakeObeyed (setSlot n x s) :=
  h.edit (by rfl)

protected theorem BrakeObeyed.startRound (h : BrakeObeyed s) : BrakeObeyed (startRound s) := by
  unfold Machine.startRound
  simp only []
  split
  · exact h.edit (by rfl)
  · exact h

protected theorem BrakeObeyed.endTransaction (h : BrakeObeyed s) : BrakeObeyed (endTransaction s) := by
  unfold Machine.endTransaction
  simp only []
  split
  · exact h.edit (by rfl)
  · exact h.edit (by rfl)

protected theorem BrakeObeyed.endUnread {n : Nat} (h : BrakeObeyed s) : BrakeObeyed (endUnread n s) := by
  unfold Machine.endUnread
  split
  · exact h.setSlot.endTransaction
  · exact h.endTransaction

protected theorem BrakeObeyed.pollSent (h : BrakeObeyed s) : BrakeObeyed (pollSent s) := by
  unfold Machine.pollSent
  split
  · exact h.edit (by rfl)
  · exact h

protected theorem BrakeObeyed.replyExpired (h : BrakeObeyed s) : BrakeObeyed (replyExpired s) := by
  unfold Machine.replyExpired
  split
  · exact h.edit (by rfl)
  · exact h.endUnread
  · exact h

protected theorem BrakeObeyed.transactionDue (h : BrakeObeyed s) : BrakeObeyed (transactionDue s) := by
  unfold Machine.transactionDue
  split
  · exact h
  · exact h.startRound

protected theorem BrakeObeyed.parkedPoll (h : BrakeObeyed s) : BrakeObeyed (parkedPoll s) := by
  unfold Machine.parkedPoll
  split
  · simp only []
    split
    · exact h.edit (by rfl)
    · exact h.edit (by rfl)
  · exact h

protected theorem BrakeObeyed.offerTowerEvent {k : TowerKind} {n : Nat} {p : Option Nat} {x : Slot}
    (h : BrakeObeyed s) : BrakeObeyed (offerTowerEvent k n p x s) := h.occasion

protected theorem BrakeObeyed.latchPoint {n : Nat} {i : Idx4} {l : Latch} (h : BrakeObeyed s) :
    BrakeObeyed (latchPoint n i l s) := by
  unfold Machine.latchPoint
  split
  · simp only []
    split
    · exact h.setSlot.raise.offerTowerEvent.offerTower
    · split
      · exact h
      · exact h.setSlot.offerTower
  · exact h

protected theorem BrakeObeyed.pointOffset {n : Nat} {x y : Slot} {i : Idx4} (h : BrakeObeyed s) :
    BrakeObeyed (pointOffset n x y s i) := by
  unfold Machine.pointOffset
  split
  · exact h.offerEvent
  · exact h

protected theorem BrakeObeyed.pointEvents {n : Nat} {x y : Slot} {i : Idx4} (h : BrakeObeyed s) :
    BrakeObeyed (pointEvents n x y s i) := by
  unfold Machine.pointEvents
  split
  · exact h.offerTowerEvent
  · split
    · exact h.latchPoint
    · exact h

protected theorem BrakeObeyed.replyEvents {n : Nat} {x y : Slot} (h : BrakeObeyed s) :
    BrakeObeyed (replyEvents n x y s) :=
  h.pointOffset.pointOffset.pointOffset.pointOffset.pointEvents.pointEvents.pointEvents.pointEvents

protected theorem BrakeObeyed.hearTower {n : Nat} (h : BrakeObeyed s) : BrakeObeyed (hearTower n s) := by
  unfold Machine.hearTower
  split
  · split
    · exact h.setSlot.wakingTest
    · exact h
  · exact h

protected theorem BrakeObeyed.replyChange {n : Nat} {x : Slot} (h : BrakeObeyed s) :
    BrakeObeyed (replyChange n x s) := by
  unfold Machine.replyChange
  split
  · split
    · exact h
    · exact h.offerTower
  · exact h

protected theorem BrakeObeyed.acceptReply {n : Nat} {codes : Quad Nat} (h : BrakeObeyed s) :
    BrakeObeyed (acceptReply n codes s) := by
  unfold Machine.acceptReply
  split
  · exact h.setSlot.replyEvents.setCeiling.hearTower.replyChange.endTransaction
  · exact h.endTransaction

protected theorem BrakeObeyed.lateReply {a : Nat} (h : BrakeObeyed s) : BrakeObeyed (lateReply a s) := by
  unfold Machine.lateReply
  exact (h.edit (by rfl)).offerEvent

protected theorem BrakeObeyed.towerBytes {frame : List Byte} (h :
    BrakeObeyed s) : BrakeObeyed (towerBytes frame s) := by
  unfold Machine.towerBytes towerFrame
  split
  · exact h
  · split
    · split
      · exact h.lateReply
      · split
        · exact h.lateReply
        · split
          · exact h.acceptReply
          · exact h
    · exact h

protected theorem BrakeObeyed.towerCeilingTest (h : BrakeObeyed s) : BrakeObeyed (towerCeilingTest s) := h.setCeiling

protected theorem BrakeObeyed.becomeStale {n : Nat} {x : Slot} (h :
    BrakeObeyed s) : BrakeObeyed (becomeStale n x s) := by
  unfold Machine.becomeStale
  exact h.setSlot.offerEvent.offerTowerEvent.towerCeilingTest.offerTower

protected theorem BrakeObeyed.becomeSilent {n : Nat} {x : Slot} (h : BrakeObeyed s) :
    BrakeObeyed (becomeSilent n x s) := by
  unfold Machine.becomeSilent
  exact h.setSlot.raise.setCeiling.offerTower

protected theorem BrakeObeyed.staleEvent {n : Nat} (h : BrakeObeyed s) : BrakeObeyed (staleEvent n s) := by
  unfold Machine.staleEvent
  split
  · split
    · exact h.becomeStale
    · exact h
  · exact h

protected theorem BrakeObeyed.silentEvent {n : Nat} (h : BrakeObeyed s) : BrakeObeyed (silentEvent n s) := by
  unfold Machine.silentEvent
  split
  · split
    · exact h.becomeSilent
    · exact h
  · exact h

protected theorem BrakeObeyed.comparePassed {n : Nat} (h : BrakeObeyed s) : BrakeObeyed (comparePassed n s) := by
  have stale : BrakeObeyed (match slotAt n s with
      | some x => if x.used ∧ x.deadline = .within ∧ s.scanner.deadline < x.age then becomeStale n x s else s
      | none => s) := by
    split
    · split
      · exact h.becomeStale
      · exact h
    · exact h
  unfold Machine.comparePassed
  simp only []
  split
  · split
    · exact stale.becomeSilent
    · exact stale
  · exact stale

protected theorem BrakeObeyed.compareSlot {n k : Nat} (h : BrakeObeyed s) : BrakeObeyed (compareSlot n (s, k)).1 := by
  unfold Machine.compareSlot
  split
  · simp only []
    split
    · exact h.setSlot
    · exact h.comparePassed
  · exact h

theorem compareSlots_fold_brake (l : List Nat) (p : State × Nat) (h : BrakeObeyed p.1) :
    BrakeObeyed (l.foldl (fun p n => compareSlot (n + 1) p) p).1 := by
  induction l generalizing p with
  | nil => exact h
  | cons n l ih => exact ih _ h.compareSlot

protected theorem BrakeObeyed.offerTowers {n : Nat} (h : BrakeObeyed s) : BrakeObeyed (offerTowers n s) := by
  induction n generalizing s with
  | zero => exact h
  | succ n ih => exact ih h.offerTower

protected theorem BrakeObeyed.compareSlots (h : BrakeObeyed s) : BrakeObeyed (compareSlots s) :=
  (compareSlots_fold_brake _ (s, 0) h).setCeiling.offerTowers

protected theorem BrakeObeyed.wakeTowers (h : BrakeObeyed s) : BrakeObeyed (wakeTowers s) := by
  unfold Machine.wakeTowers
  simp only []
  split
  · exact (h.edit (by rfl)).startRound
  · exact h.edit (by rfl)

protected theorem BrakeObeyed.parkTowers (h : BrakeObeyed s) : BrakeObeyed (parkTowers s) := by
  unfold Machine.parkTowers
  simp only []
  split
  · exact (h.edit (by rfl)).setCeiling
  · exact (h.edit (by rfl)).setCeiling.offerTower

protected theorem BrakeObeyed.endIfTo {n : Nat} (h : BrakeObeyed s) : BrakeObeyed (endIfTo n s) := by
  unfold Machine.endIfTo
  split
  · split
    · exact h.endTransaction
    · exact h
  · exact h

protected theorem BrakeObeyed.doSetTower {n a c e : Nat} (h :
    BrakeObeyed s) : BrakeObeyed (doSetTower n a c e s).1 := by
  have placed {x : Slot} : BrakeObeyed (placeSlot n x s) := h.setSlot.endIfTo.setCeiling.offerTower
  unfold Machine.doSetTower
  split
  · exact h.refuse
  split
  · exact h.refuse
  split
  · exact h.refuse
  split
  · exact h.refuse
  split
  · exact h.refuse
  exact placed.done

protected theorem BrakeObeyed.doSetScan {d : Nat} (h : BrakeObeyed s) : BrakeObeyed (doSetScan d s).1 := by
  unfold Machine.doSetScan
  simp only []
  split
  · split
    · exact (h.edit (by rfl)).done
    · exact (h.edit (by rfl)).compareSlots.done
  · exact h.refuse

protected theorem BrakeObeyed.clearLatches {n : Nat} {is : List Idx4} (h : BrakeObeyed s) :
    BrakeObeyed (clearLatches n is s) := by
  induction is generalizing s with
  | nil => exact h
  | cons i is ih =>
    unfold Machine.clearLatches
    split
    · split
      · exact ih h
      · exact ih h.setSlot.offerTower
    · exact h

protected theorem BrakeObeyed.doAckTower {n p : Nat} (h : BrakeObeyed s) : BrakeObeyed (doAckTower n p s).1 := by
  unfold Machine.doAckTower
  split
  · split
    · exact h.refuse
    · split
      · exact h.refuse
      · exact h.clearLatches.done
  · exact h.refuse

/-! ### Run control (chapter 1) -/

protected theorem BrakeObeyed.doWake (h : BrakeObeyed s) : BrakeObeyed (doWake s).1 := by
  unfold Machine.doWake
  split
  · exact (BrakeObeyed.of_enterState .waking .wake s).homeBerths.wakeTowers.done
  · exact h.refuse

theorem enterParked_brake (s : State) : BrakeObeyed (enterParked s) :=
  (BrakeObeyed.of_enterState .parked .park s).cancelIndex.parkBerths.parkTowers

protected theorem BrakeObeyed.doPark (h : BrakeObeyed s) : BrakeObeyed (doPark s).1 := by
  unfold Machine.doPark
  split
  · exact (enterParked_brake s).done
  · exact (enterParked_brake s).done
  · split
    · exact (enterParked_brake s).done
    · exact h.refuse
  · exact h.refuse

protected theorem BrakeObeyed.doRun (h : BrakeObeyed s) : BrakeObeyed (doRun s).1 := by
  unfold Machine.doRun
  split
  · exact h.refuse
  split
  · exact h.refuse
  split
  · exact (BrakeObeyed.of_enterState .starting .run s).done
  exact h.refuse

protected theorem BrakeObeyed.doResetTrip (h : BrakeObeyed s) : BrakeObeyed (doResetTrip s).1 := by
  unfold Machine.doResetTrip
  split
  · exact h.refuse
  split
  · exact h.refuse
  split
  · exact (BrakeObeyed.of_enterState .stopped .resetTrip s).done
  exact h.refuse

protected theorem BrakeObeyed.doClearStop {n : Nat} (h : BrakeObeyed s) : BrakeObeyed (doClearStop n s).1 := by
  have cleared {src : Source} : BrakeObeyed (clearSource src s) := by
    unfold clearSource
    exact (h.edit (by rfl)).giveClass
  unfold Machine.doClearStop
  split
  · exact h.refuse
  split
  · split
    · exact h.refuse
    · exact cleared.done
  exact h.refuse

protected theorem BrakeObeyed.platformInput {b : Bool} (h : BrakeObeyed s) : BrakeObeyed (platformInput b s) := by
  unfold Machine.platformInput
  simp only []
  split
  · exact h
  · split
    · exact (h.edit (by rfl)).raise
    · exact (h.edit (by rfl)).thaw

protected theorem BrakeObeyed.loopInput {b : Bool} (h : BrakeObeyed s) : BrakeObeyed (loopInput b s) := by
  unfold Machine.loopInput
  simp only []
  split
  · exact h
  · split
    · exact (h.edit (by rfl)).raise
    · exact h.edit (by rfl)

/-! ### The speed governor (chapter 2) -/

protected theorem BrakeObeyed.encoderPulse {b : Bool} (h : BrakeObeyed s) : BrakeObeyed (encoderPulse b s) := by
  cases b
  · exact h.edit (by rfl)
  · exact h.edit (by rfl)

protected theorem BrakeObeyed.windowEnd (h : BrakeObeyed s) : BrakeObeyed (windowEnd s) := by
  have governed : BrakeObeyed { s with gov := windowGov s } := h.of_outputs rfl (windowGov_outputs s)
  have settled : BrakeObeyed (windowSettled s) :=
    (windowSettled_arrives s).brake ((windowRaised_arrives s).brake governed)
  rw [windowEnd_eq]
  exact (travelUpdate_arrives _ _).brake (settled.edit (by rfl))

protected theorem BrakeObeyed.overspeedReached (h : BrakeObeyed s) : BrakeObeyed (overspeedReached s) := by
  unfold Machine.overspeedReached
  split
  · exact (h.edit (by rfl)).raise
  · exact h

protected theorem BrakeObeyed.encoderLossReached (h : BrakeObeyed s) : BrakeObeyed (encoderLossReached s) := by
  unfold Machine.encoderLossReached
  split
  · exact (h.edit (by rfl)).raise
  · exact h

protected theorem BrakeObeyed.quietReached (h : BrakeObeyed s) : BrakeObeyed (quietReached s) := by
  unfold Machine.quietReached
  split
  · exact .of_enterState _ _ s
  · exact h

protected theorem BrakeObeyed.missedReached (h : BrakeObeyed s) : BrakeObeyed (missedReached s) := by
  unfold Machine.missedReached
  split
  · exact (h.edit (by rfl)).offerGovernor.raise
  · exact h

protected theorem BrakeObeyed.takeStatus {d : DriveStatus} (h : BrakeObeyed s) : BrakeObeyed (takeStatus d s) := by
  unfold Machine.takeStatus
  simp only []
  split
  · split
    · exact (h.edit (by rfl)).raise
    · exact (h.edit (by rfl)).offerGovernor.raise
  · split
    · exact h.edit (by rfl)
    · exact (h.edit (by rfl)).offerGovernor

protected theorem BrakeObeyed.driveRecord {record : List Byte} (h : BrakeObeyed s) :
    BrakeObeyed (driveRecord record s) := by
  unfold Machine.driveRecord
  split
  · exact h.takeStatus
  · exact h

protected theorem BrakeObeyed.enterBand {g : Governor} (h : BrakeObeyed s)
    (hout : g.outputs = s.gov.outputs) :
    BrakeObeyed (enterBand g s) := by
  have entered : BrakeObeyed { s with gov := g } := h.of_outputs rfl hout
  unfold Machine.enterBand
  simp only []
  split
  · exact entered.offerGovernor.raise
  · exact entered.offerGovernor

theorem Governor.runHold_outputs (g : Governor) : g.runHold.outputs = g.outputs := by
  unfold Governor.runHold
  split <;> rfl

theorem Governor.pauseHold_outputs (g : Governor) : g.pauseHold.outputs = g.outputs := by
  unfold Governor.pauseHold
  split <;> rfl

protected theorem BrakeObeyed.pauseWind (h : BrakeObeyed s) : BrakeObeyed (pauseWind s) :=
  h.of_outputs rfl s.gov.pauseHold_outputs

protected theorem BrakeObeyed.takeWind {w : Option Nat} (h : BrakeObeyed s) : BrakeObeyed (takeWind w s) := by
  unfold Machine.takeWind takeReading
  split
  · simp only []
    split
    · exact h.enterBand (by rfl)
    · split
      · exact h.of_outputs rfl s.gov.runHold_outputs
      · exact h.edit (by rfl)
  · exact h.pauseWind

protected theorem BrakeObeyed.holdExpired (h : BrakeObeyed s) : BrakeObeyed (holdExpired s) := by
  by_cases hrun : s.gov.hold = .running
  · rw [holdExpired_of_running hrun]
    exact h.enterBand (by rfl)
  · rw [holdExpired_of_not_running hrun]
    exact h

protected theorem BrakeObeyed.doSetGovernor {g : GovernorSettings} (h : BrakeObeyed s) :
    BrakeObeyed (doSetGovernor g s).1 := by
  unfold Machine.doSetGovernor
  split
  · split
    · exact h.updateCeilings (by rfl)
    · exact h.refuse
  · exact h.refuse

protected theorem BrakeObeyed.doSetSpeed {v : Nat} (h : BrakeObeyed s) : BrakeObeyed (doSetSpeed v s).1 :=
  h.updateCeilings (by rfl)

protected theorem BrakeObeyed.doSetWind {bands : List (Nat × Nat)} {k hold : Nat} (h : BrakeObeyed s) :
    BrakeObeyed (doSetWind bands k hold s).1 := by
  unfold Machine.doSetWind
  split
  · split
    · simp only []
      split
      · exact (h.edit (by rfl)).done
      · exact (h.edit (by rfl)).offerGovernor.done
    · exact h.refuse
  · exact h.refuse

/-! ### The summit line (chapter 8) -/

protected theorem BrakeObeyed.startNext (h : BrakeObeyed s) : BrakeObeyed (startNext s) := by
  unfold Machine.startNext startControlFrame
  split
  · exact h.edit (by rfl)
  · exact h.edit (by rfl)
  · simp only []
    split
    · exact (h.edit (by rfl)).offerLine
    · exact h.edit (by rfl)
  · exact h.edit (by rfl)
  · exact h

protected theorem BrakeObeyed.flagSent (h : BrakeObeyed s) : BrakeObeyed (flagSent s) := by
  unfold Machine.flagSent
  split
  · exact h.startNext
  · exact (h.edit (by rfl)).startNext
  · exact h

protected theorem BrakeObeyed.frameSent (h : BrakeObeyed s) : BrakeObeyed (frameSent s) := by
  unfold Machine.frameSent
  split
  · exact (h.edit (by rfl)).startNext
  · exact (h.edit (by rfl)).startNext
  · exact h

protected theorem BrakeObeyed.abortSent (h : BrakeObeyed s) : BrakeObeyed (abortSent s) := by
  unfold Machine.abortSent
  split
  · exact (h.edit (by rfl)).startNext
  · exact (h.edit (by rfl)).startNext
  · exact h

protected theorem BrakeObeyed.beatExpired (h : BrakeObeyed s) : BrakeObeyed (beatExpired s) := h.edit (by rfl)

protected theorem BrakeObeyed.countLine {f : LineCounts → LineCounts} (h : BrakeObeyed s) :
    BrakeObeyed (countLine f s) := h.edit (by rfl)

protected theorem BrakeObeyed.offerLineIf {l : LineSnapshot} (h : BrakeObeyed s) : BrakeObeyed (offerLineIf l s) := by
  unfold Machine.offerLineIf
  split
  · exact h
  · exact h.offerLine

protected theorem BrakeObeyed.offerMissed {n : Nat} (h : BrakeObeyed s) : BrakeObeyed (offerMissed n s) := by
  induction n generalizing s with
  | zero => exact h
  | succ n ih => exact ih h.offerEvent

protected theorem BrakeObeyed.gapTest {n : Nat} (h : BrakeObeyed s) : BrakeObeyed (gapTest n s) := by
  unfold Machine.gapTest
  split
  · exact h.offerMissed.countLine
  · exact h

protected theorem BrakeObeyed.heardBeat {n : Nat} (h : BrakeObeyed s) : BrakeObeyed (heardBeat n s) := by
  unfold Machine.heardBeat
  simp only []
  split
  · exact (h.edit (by rfl)).setCeiling.offerLineIf
  · have noted : BrakeObeyed (offerLine { s with line := { s.line with lastBeat := some n, heard := true } }) :=
      (h.edit (by rfl)).offerLine
    exact (noted.edit (by rfl)).setCeiling.offerLineIf

protected theorem BrakeObeyed.beatDemands {b : BeatFields} (h : BrakeObeyed s) : BrakeObeyed (beatDemands b s) := by
  unfold Machine.beatDemands
  split
  · exact h.raise
  · split
    · exact h.raise
    · exact h

protected theorem BrakeObeyed.takeFields {b : BeatFields} (h : BrakeObeyed s) : BrakeObeyed (takeFields b s) := by
  have taken : BrakeObeyed (takeWind (beatWind b) (updateCeilings { s.gov with summitCeiling := beatCeiling b } s)) :=
    (h.updateCeilings (by rfl)).takeWind
  exact (taken.edit (by rfl)).offerLineIf

protected theorem BrakeObeyed.summitBeat {b : BeatFields} (h : BrakeObeyed s) : BrakeObeyed (summitBeat b s) :=
  h.countLine.gapTest.heardBeat.beatDemands.takeFields

protected theorem BrakeObeyed.missAction {n : Nat} (h : BrakeObeyed s) : BrakeObeyed (missAction n s) := by
  unfold Machine.missAction
  split
  · exact h.pauseWind
  · split
    · exact h.setCeiling
    · split
      · exact h.raise
      · exact h

protected theorem BrakeObeyed.supervisionExpired (h : BrakeObeyed s) : BrakeObeyed (supervisionExpired s) := by
  unfold Machine.supervisionExpired
  simp only []
  split
  · exact h
  · have counted : BrakeObeyed { s with line := { s.line with
        miss := min (s.line.miss + 1) 255, supervision := some supervisionNextMs } } := h.edit (by rfl)
    split
    · split
      · exact counted
      · exact counted.missAction
    · split
      · exact counted.offerLine
      · exact counted.missAction.offerLine

protected theorem BrakeObeyed.passage {departing : Bool} {n m : Nat} (h : BrakeObeyed s) :
    BrakeObeyed (passage departing n m s) := by
  cases departing
  · exact h.countLine.arrived
  · exact h.countLine.departed

protected theorem BrakeObeyed.frameError {e : FrameFault} (h : BrakeObeyed s) : BrakeObeyed (frameError e s) := by
  cases e with
  | length => exact h.countLine
  | fcs => exact h.countLine.offerEvent
  | format => exact h.countLine

protected theorem BrakeObeyed.offerNotice (h : BrakeObeyed s) : BrakeObeyed (offerNotice s) := by
  unfold Machine.offerNotice
  split
  · exact h
  · exact (h.edit (by rfl)).queueReport

protected theorem BrakeObeyed.takeNotice {text : List Byte} (h : BrakeObeyed s) : BrakeObeyed (takeNotice text s) := by
  unfold Machine.takeNotice
  simp only []
  split
  · exact h.edit (by rfl)
  · exact (h.edit (by rfl)).offerNotice

protected theorem BrakeObeyed.reportSent {b : Bool} (h : BrakeObeyed s) : BrakeObeyed (reportSent b s) := by
  unfold Machine.reportSent
  split
  · exact (h.edit (by rfl)).offerNotice
  · split
    · exact h.offerNotice
    · exact h

protected theorem BrakeObeyed.doSendNotice {text : List Byte} (h : BrakeObeyed s) :
    BrakeObeyed (doSendNotice text s).1 := by
  unfold Machine.doSendNotice
  split
  · exact h.refuse
  · split
    · exact h.refuse
    · exact (h.edit (by rfl)).done

/-! ### Calls and voice (chapter 9) -/

protected theorem BrakeObeyed.sendSignal {sig : Signal} {id : Nat} (h : BrakeObeyed s) :
    BrakeObeyed (sendSignal sig id s) := h.offerControl

protected theorem BrakeObeyed.enterTalking {id : Nat} {how : CallEvent} (h : BrakeObeyed s) :
    BrakeObeyed (enterTalking id how s) := by
  unfold Machine.enterTalking
  exact (h.edit (by rfl)).queueReport

protected theorem BrakeObeyed.enterIdle {cause : CallEvent} (h : BrakeObeyed s) : BrakeObeyed (enterIdle cause s) := by
  unfold Machine.enterIdle
  exact (h.edit (by rfl)).queueReport

protected theorem BrakeObeyed.ringIn {id : Nat} (h : BrakeObeyed s) : BrakeObeyed (ringIn id s) := by
  unfold Machine.ringIn
  exact (h.edit (by rfl)).queueReport

protected theorem BrakeObeyed.doCall (h : BrakeObeyed s) : BrakeObeyed (doCall s).1 := by
  unfold Machine.doCall
  split
  · exact (h.edit (by rfl)).sendSignal
  · exact h.refuse

protected theorem BrakeObeyed.doAnswer (h : BrakeObeyed s) : BrakeObeyed (doAnswer s).1 := by
  unfold Machine.doAnswer
  split
  · exact h.sendSignal.enterTalking.done
  · exact h.refuse

protected theorem BrakeObeyed.doHangUp (h : BrakeObeyed s) : BrakeObeyed (doHangUp s).1 := by
  unfold Machine.doHangUp
  split
  · exact h.refuse
  · exact h.sendSignal.enterIdle.done

protected theorem BrakeObeyed.ringSignal {id : Nat} (h : BrakeObeyed s) : BrakeObeyed (ringSignal id s) := by
  unfold Machine.ringSignal
  split
  · exact h.ringIn
  · exact h.sendSignal.enterTalking
  · split
    · exact h.edit (by rfl)
    · exact h.ringIn
  · split
    · exact h.sendSignal
    · exact h.sendSignal

protected theorem BrakeObeyed.answerSignal {id : Nat} (h : BrakeObeyed s) : BrakeObeyed (answerSignal id s) := by
  unfold Machine.answerSignal
  split
  · split
    · exact h.enterTalking
    · exact h
    · exact h.sendSignal
  · exact h.sendSignal

protected theorem BrakeObeyed.clearSignal {id : Nat} (h : BrakeObeyed s) : BrakeObeyed (clearSignal id s) := by
  unfold Machine.clearSignal
  split
  · exact h.enterIdle
  · exact h

protected theorem BrakeObeyed.callSignal {sig : Signal} {id : Nat} (h : BrakeObeyed s) :
    BrakeObeyed (callSignal sig id s) := by
  cases sig with
  | ring => exact h.countLine.ringSignal
  | answer => exact h.countLine.answerSignal
  | clear => exact h.countLine.clearSignal

protected theorem BrakeObeyed.ringAgain (h : BrakeObeyed s) : BrakeObeyed (ringAgain s) := by
  unfold Machine.ringAgain
  split
  · exact (h.edit (by rfl)).sendSignal
  · exact h

protected theorem BrakeObeyed.ringExpired (h : BrakeObeyed s) : BrakeObeyed (ringExpired s) := by
  unfold Machine.ringExpired
  split
  · exact h.sendSignal.enterIdle
  · exact h

protected theorem BrakeObeyed.ringStopped (h : BrakeObeyed s) : BrakeObeyed (ringStopped s) := by
  unfold Machine.ringStopped
  split
  · exact h.enterIdle
  · exact h

protected theorem BrakeObeyed.callLost (h : BrakeObeyed s) : BrakeObeyed (callLost s) := by
  unfold Machine.callLost
  split
  · exact h.sendSignal.enterIdle
  · exact h

protected theorem BrakeObeyed.voice {id n : Nat} {block : List Byte} (h : BrakeObeyed s) :
    BrakeObeyed (voice id n block s) := h.edit (by rfl)

protected theorem BrakeObeyed.conceal {n : Nat} (h : BrakeObeyed s) : BrakeObeyed (conceal n s) := by
  unfold Machine.conceal
  exact (h.edit (by rfl)).offerEvent

protected theorem BrakeObeyed.playing (h : BrakeObeyed s) : BrakeObeyed (playing s) := by
  unfold Machine.playing
  simp only []
  split
  · split
    · exact h.edit (by rfl)
    · exact h.conceal
  · exact h.conceal

protected theorem BrakeObeyed.playout (h : BrakeObeyed s) : BrakeObeyed (playout s) := by
  unfold Machine.playout
  split
  · exact h.playing
  · split
    · exact (h.edit (by rfl)).playing
    · exact h.edit (by rfl)

protected theorem BrakeObeyed.sendBlock {b : List Byte} (h : BrakeObeyed s) : BrakeObeyed (sendBlock b s) :=
  h.offerVoice.edit (by rfl)

protected theorem BrakeObeyed.blockPeriod {b : List Byte} (h : BrakeObeyed s) : BrakeObeyed (blockPeriod b s) := by
  unfold Machine.blockPeriod
  simp only []
  split
  · exact (h.edit (by rfl)).sendBlock.playout
  · exact h.edit (by rfl)

/-! ### The receiver of the summit line (R158 to R161) -/

protected theorem BrakeObeyed.takeReceived {r : Received} (h : BrakeObeyed s) : BrakeObeyed (takeReceived r s) := by
  cases r with
  | bad e => exact h.frameError
  | elsewhere => exact h
  | beat b => exact h.summitBeat
  | passage departing number metres => exact h.passage
  | callSignal sig id => exact h.callSignal
  | voice id sequence block => exact h.voice
  | notice text => exact h.takeNotice

protected theorem BrakeObeyed.receiverTo {r : Receiver} (h : BrakeObeyed s) : BrakeObeyed (receiverTo r s) :=
  h.edit (by rfl)

protected theorem BrakeObeyed.flagReceived (h : BrakeObeyed s) : BrakeObeyed (flagReceived s) := by
  unfold Machine.flagReceived
  simp only []
  split
  · exact (h.edit (by rfl)).receiverTo.offerLine
  · exact (h.edit (by rfl)).receiverTo.takeReceived
  · exact (h.edit (by rfl)).receiverTo

protected theorem BrakeObeyed.flagExpired (h : BrakeObeyed s) : BrakeObeyed (flagExpired s) := by
  unfold Machine.flagExpired
  simp only []
  split
  · exact (h.edit (by rfl)).receiverTo
  · exact (h.edit (by rfl)).receiverTo.offerLine

protected theorem BrakeObeyed.abortReceived (h : BrakeObeyed s) : BrakeObeyed (abortReceived s) := by
  unfold Machine.abortReceived
  split
  · simp only []
    split
    · exact h.receiverTo.countLine
    · exact h.receiverTo
  · exact h.receiverTo
  · exact h

protected theorem BrakeObeyed.receiveBits {bits : List Bool} (h :
    BrakeObeyed s) : BrakeObeyed (receiveBits bits s) := by
  unfold Machine.receiveBits
  split
  · exact h.edit (by rfl)
  · exact h.receiverTo.frameError

protected theorem BrakeObeyed.bodyBits {bits : List Bool} (h : BrakeObeyed s) : BrakeObeyed (bodyBits bits s) := by
  unfold Machine.bodyBits
  split
  · split
    · exact h
    · exact h.receiveBits
  · exact h.receiveBits
  · exact h

/-! ### The desk link (chapter 10) -/

protected theorem BrakeObeyed.withDesk {f : Desk → Desk} (h : BrakeObeyed s) : BrakeObeyed (s.withDesk f) :=
  h.edit (by rfl)

protected theorem BrakeObeyed.doReleaseReports {n : Nat} (h :
    BrakeObeyed s) : BrakeObeyed (doReleaseReports n s).1 := by
  unfold Machine.doReleaseReports unlatchGovernor unlatchTower unlatchLine unlatchBerth
  simp only []
  split
  · split
    · exact h.withDesk.offerGovernor.done
    · exact h.withDesk.done
  · split
    · exact h.withDesk.offerTower.done
    · exact h.withDesk.done
  · split
    · exact h.withDesk.offerLine.done
    · exact h.withDesk.done
  · split
    · exact h.withDesk.offerBerth.done
    · exact h.withDesk.done
  · exact h.refuse

/-- Every request at its owner keeps the promise (R189, Table 10-2). -/
protected theorem BrakeObeyed.perform {r : Request} (h : BrakeObeyed s) : BrakeObeyed (perform r s).1 := by
  cases r with
  | setGeometry u d k => exact h.doSetGeometry
  | setGovernor g => exact h.doSetGovernor
  | setSpacing g v => exact h.doSetSpacing
  | setWind bands k hold => exact h.doSetWind
  | setBerth n r => exact h.doSetBerth
  | setMotion g => exact h.doSetMotion
  | setTrack a b c => exact h.doSetTrack
  | setTower n a c e => exact h.doSetTower
  | setScan d => exact h.doSetScan
  | setGrip a b => exact h.doSetGrip
  | setCounter n r => exact h.doSetCounter
  | setWatch n r => exact h.doSetWatch
  | wake => exact h.doWake
  | park => exact h.doPark
  | run => exact h.doRun
  | stop => exact h.raise.done
  | setSpeed v => exact h.doSetSpeed
  | clearStop n => exact h.doClearStop
  | resetTrip => exact h.doResetTrip
  | restart =>
    unfold Machine.perform
    simp only []
    split
    · exact h.refuse
    · exact h.withDesk.done
  | declare p n => exact h.doDeclare
  | release n => exact h.doRelease
  | hold n => exact h.doHold
  | renumber n m => exact h.doRenumber
  | garage => exact h.doGarage
  | inhibitLaunch b => exact h.doInhibit
  | abandon => exact h.doAbandon
  | mark n => exact h.doMark
  | unmark n => exact h.doUnmark
  | berthCommand n c m => exact h.doBerthCommand
  | removeCarrier n => exact h.doRemoveCarrier
  | ackTower n p => exact h.doAckTower
  | armCounter n => exact h.doArmCounter
  | clearHits n => exact h.doClearHits
  | call => exact h.doCall
  | answer => exact h.doAnswer
  | hangUp => exact h.doHangUp
  | sendNotice t => exact h.doSendNotice
  | releaseReports c => exact h.doReleaseReports
  | readStatus | readTrack | readRoster | readBerths | readTowers | readCounters | readWatches | readLine
  | readGovernor => exact h

protected theorem BrakeObeyed.takeRequest {tag : Byte} {r : Request} (h : BrakeObeyed s) :
    BrakeObeyed (takeRequest tag r s) := h.perform.edit (by rfl)

protected theorem BrakeObeyed.dispatch (n : Nat) (h : BrakeObeyed s) : BrakeObeyed (dispatch n s) := by
  induction n generalizing s with
  | zero => exact h
  | succ n ih =>
    unfold Machine.dispatch
    split
    · split
      · exact h
      · exact ih h.withDesk.takeRequest
    · exact h

protected theorem BrakeObeyed.giveRequests (h : BrakeObeyed s) : BrakeObeyed (giveRequests s) := h.dispatch inboxMax

protected theorem BrakeObeyed.garbled {c : GarbledCause} (h : BrakeObeyed s) : BrakeObeyed (garbled c s) := by
  unfold Machine.garbled
  exact (h.edit (by rfl)).queueReport

protected theorem BrakeObeyed.submit {tag : Byte} {r : Request} (h : BrakeObeyed s) : BrakeObeyed (submit tag r s) := by
  unfold Machine.submit
  split
  · exact h.garbled
  · split
    · exact h.edit (by rfl)
    · exact h.withDesk.giveRequests

protected theorem BrakeObeyed.takeMessage {kind tag : Byte} {payload : List Byte} (h : BrakeObeyed s) :
    BrakeObeyed (takeMessage kind tag payload s) := by
  unfold Machine.takeMessage
  split
  · exact h.garbled
  · split
    · exact h.edit (by rfl)
    · exact h.submit

protected theorem BrakeObeyed.takeComplete {bytes : List Byte} (h : BrakeObeyed s) :
    BrakeObeyed (takeComplete bytes s) := by
  unfold Machine.takeComplete
  simp only []
  split
  · split
    · exact h.takeMessage
    · exact h
  · exact h.garbled

protected theorem BrakeObeyed.deskByte {b : Byte} (h : BrakeObeyed s) : BrakeObeyed (deskByte b s) := by
  unfold Machine.deskByte assemble
  split
  · split
    · exact h.withDesk
    · exact h
  · simp only []
    split
    · exact h
    · split
      · exact h.withDesk.garbled
      · split
        · exact h.withDesk.takeComplete
        · exact h.withDesk

protected theorem BrakeObeyed.gapTimerExpired (h : BrakeObeyed s) : BrakeObeyed (gapTimerExpired s) := by
  unfold Machine.gapTimerExpired
  split
  · exact h
  · exact h.withDesk.garbled

protected theorem BrakeObeyed.messageDue (h : BrakeObeyed s) : BrakeObeyed (messageDue s) := by
  unfold Machine.messageDue startRestartReply startMessage
  split
  · exact h
  · split
    · split
      · exact h.withDesk
      · exact h
    · split
      · exact h.edit (by rfl)
      · exact h.withDesk.giveRequests
      · exact h.edit (by rfl)
      · exact h

theorem restartState_brake (s : State) : BrakeObeyed (restartState s) := ⟨rfl, rfl⟩

protected theorem BrakeObeyed.restartDue (h : BrakeObeyed s) : BrakeObeyed (restartDue s) := by
  unfold Machine.restartDue
  split
  · exact restartState_brake s
  · exact h

protected theorem BrakeObeyed.messageSent (h : BrakeObeyed s) : BrakeObeyed (messageSent s) := by
  unfold Machine.messageSent
  split
  · exact h
  · exact h.withDesk.restartDue
  · exact h.withDesk.reportSent

/-! ### The step -/

/-- Time without a command leaves the run state and the outputs. -/
protected theorem BrakeObeyed.tick (h : BrakeObeyed s) : BrakeObeyed (tick s) := by
  refine h.of_outputs rfl ?_
  unfold Machine.tick Governor.tick
  simp only []
  split <;> rfl

theorem powerOn_brake (s : State) : BrakeObeyed (powerOn s) := ⟨rfl, rfl⟩

/-- Every command ends in a next state, and keeps the promise there. -/
theorem BrakeObeyed.exec_next (c : Instr) (h : BrakeObeyed s) : ∃ t, exec c s = .next t ∧ BrakeObeyed t := by
  cases c with
  | powerOn => exact ⟨_, rfl, powerOn_brake s⟩
  | platformStopInput active => exact ⟨_, rfl, h.platformInput⟩
  | emergencyLoopInput opened => exact ⟨_, rfl, h.loopInput⟩
  | encoderPulse backward => exact ⟨_, rfl, h.encoderPulse⟩
  | windowEnd => exact ⟨_, rfl, h.windowEnd⟩
  | overspeed => exact ⟨_, rfl, h.overspeedReached⟩
  | encoderLoss => exact ⟨_, rfl, h.encoderLossReached⟩
  | quietWindows => exact ⟨_, rfl, h.quietReached⟩
  | missedExchange => exact ⟨_, rfl, h.missedReached⟩
  | driveStatus record => exact ⟨_, rfl, h.driveRecord⟩
  | holdTimer => exact ⟨_, rfl, h.holdExpired⟩
  | entry carrierTag stuck => exact ⟨_, rfl, h.entry⟩
  | indexTimeLimit => exact ⟨_, rfl, h.indexLimitExpired⟩
  | indexDone => exact ⟨_, rfl, h.indexDone⟩
  | gripTestResult record => exact ⟨_, rfl, h.testRecord⟩
  | recoveryTimer b => exact ⟨_, rfl, h.recoveryExpired⟩
  | unlockTimer b => exact ⟨_, rfl, h.unlockExpired⟩
  | motionComplete b active => exact ⟨_, rfl, h.motionCompleteSense⟩
  | openingEnd b => exact ⟨_, rfl, h.openingExpired⟩
  | dwellExpiry b => exact ⟨_, rfl, h.dwellExpired⟩
  | closingEnd b => exact ⟨_, rfl, h.closingExpired⟩
  | lockConfirm b active => exact ⟨_, rfl, h.lockConfirmSense⟩
  | lockTimer b => exact ⟨_, rfl, h.lockExpired⟩
  | obstruction b active => exact ⟨_, rfl, h.obstructionSense⟩
  | driveFaultSense b active => exact ⟨_, rfl, h.driveFaultChange⟩
  | startGapEnd => exact ⟨_, rfl, h.gapExpired⟩
  | homingRunEnd b => exact ⟨_, rfl, h.homingExpired⟩
  | pollSent => exact ⟨_, rfl, h.pollSent⟩
  | towerReply frame => exact ⟨_, rfl, h.towerBytes⟩
  | replyTimer => exact ⟨_, rfl, h.replyExpired⟩
  | transactionStart => exact ⟨_, rfl, h.transactionDue⟩
  | parkedPollTimer => exact ⟨_, rfl, h.parkedPoll⟩
  | towerStale slot => exact ⟨_, rfl, h.staleEvent⟩
  | towerSilent slot => exact ⟨_, rfl, h.silentEvent⟩
  | counterExpiry c ev => exact ⟨_, rfl, h.expiryEvent⟩
  | flagReceived => exact ⟨_, rfl, h.flagReceived⟩
  | flagTimer => exact ⟨_, rfl, h.flagExpired⟩
  | abortReceived => exact ⟨_, rfl, h.abortReceived⟩
  | frameError e => exact ⟨_, rfl, h.frameError⟩
  | summitBeat b => exact ⟨_, rfl, h.summitBeat⟩
  | supervisionTimer => exact ⟨_, rfl, h.supervisionExpired⟩
  | passageFrame departed number metres => exact ⟨_, rfl, h.passage⟩
  | callSignal signal id => exact ⟨_, rfl, h.callSignal⟩
  | voiceFrame id sequence block => exact ⟨_, rfl, h.voice⟩
  | noticeFrame text => exact ⟨_, rfl, h.takeNotice⟩
  | beatTimer => exact ⟨_, rfl, h.beatExpired⟩
  | frameStart => exact ⟨_, rfl, h.flagSent⟩
  | frameEnd => exact ⟨_, rfl, h.frameSent⟩
  | abortEnd => exact ⟨_, rfl, h.abortSent⟩
  | ringRepeat => exact ⟨_, rfl, h.ringAgain⟩
  | ringTimeout => exact ⟨_, rfl, h.ringExpired⟩
  | ringingGap => exact ⟨_, rfl, h.ringStopped⟩
  | voiceLoss => exact ⟨_, rfl, h.callLost⟩
  | blockPeriod captured => exact ⟨_, rfl, h.blockPeriod⟩
  | deskMessage kind tag payload => exact ⟨_, rfl, h.takeMessage⟩
  | gapTimer => exact ⟨_, rfl, h.gapTimerExpired⟩
  | messageStart => exact ⟨_, rfl, h.messageDue⟩
  | messageSent => exact ⟨_, rfl, h.messageSent⟩
  | restartStart => exact ⟨_, rfl, h.restartDue⟩
  | deskByteReceived byte => exact ⟨_, rfl, h.deskByte⟩
  | bodyBitsReceived bits => exact ⟨_, rfl, h.bodyBits⟩
  | wake | park | run | stop | resetTrip | clearStop | setGovernor | setSpeed | setWind | readGovernor | hold | release
  | renumber | mark | unmark | garage | inhibitLaunch | abandon | declare | setSpacing | setTrack | setGrip | readTrack
  | setBerth | setMotion | unlock | openDoors | closeDoors | lock | holdOpen | endDwell | reopen | skipCycle
  | clearFault | setMode | readBerths | removeCarrier | setGeometry | readRoster | setTower | setScan | ackTower
  | readTowers | setCounter | armCounter | readCounters | setWatch | clearHits | readWatches | sendNotice | readLine
  | call | answer | hangUp | releaseReports | restart | readStatus => exact ⟨_, rfl, h.submit⟩

theorem step_keeps_brake (hstep : step s = .next t) (h : BrakeObeyed s) : BrakeObeyed t := by
  unfold step at hstep
  split at hstep
  · obtain rfl := Host.Outcome.next.inj hstep
    exact h.tick
  · rename_i c rest _
    have waiting : BrakeObeyed { s with pending := rest } := h.edit (by rfl)
    obtain ⟨u, hu, hbrake⟩ := waiting.exec_next c
    obtain rfl := Host.Outcome.next.inj (hu.symm.trans hstep)
    exact hbrake

theorem BrakeObeyed.released_iff (h : BrakeObeyed s) : s.gov.brakeReleased = true ↔
    s.run.state = .starting ∨ s.run.state = .running ∨ s.run.state = .stopping := by
  obtain ⟨hbrake, -⟩ := h
  rw [hbrake]
  cases s.run.state <;> simp [runMoves]

end

/-- Settles O7: every command keeps the outputs on the run state, since only a transition moves either, and both starts
apply the brake. -/
theorem brakeFollowsTheRunState : Obligations.BrakeFollowsTheRunState :=
  ⟨fun _ _ hstep h => step_keeps_brake hstep h, fun _ h => h.released_iff, rfl, fun _ => rfl⟩

end Sys2Proof.Machine
end

section
/-! SUPPORT. The roster and the call unit after either start (R123, R186), and the arrival that the roster expects
(R111). -/

namespace Sys2Proof.Machine

/-! ### The starts (R123, R176, R186, R194) -/

/-- The roster, the call unit, the line and the desk link hold their start values, as either start gives them: which
geometry, which transmission is cut off and which report is queued is left open. -/
structure Started (t : State) : Prop where
  roster : ∃ lUp lDown slack, t.roster = .start lUp lDown slack
  phone : t.phone = .start
  line : ∃ transmit, t.line = .start transmit
  desk : ∃ prev cause, t.desk = .start prev cause

theorem powerOn_started (s : State) : Started (powerOn s) :=
  ⟨⟨_, _, _, rfl⟩, rfl, ⟨_, rfl⟩, _, _, rfl⟩

theorem restartState_started (s : State) : Started (restartState s) :=
  ⟨⟨_, _, _, rfl⟩, rfl, ⟨_, rfl⟩, _, _, rfl⟩

theorem exec_powerOn_next_iff {s t : State} : exec .powerOn s = .next t ↔ powerOn s = t :=
  ⟨Host.Outcome.next.inj, congrArg _⟩

theorem restartDue_of_sending {s : State} (h : s.desk.restart = .sending) : restartDue s = restartState s := if_pos h

/-- The end of the Restart reply's transmission is the Restart (R193). -/
theorem exec_restartStart_next_iff {s t : State} (h : s.desk.restart = .sending) :
    exec .restartStart s = .next t ↔ restartState s = t := by
  rw [← restartDue_of_sending h]
  exact ⟨Host.Outcome.next.inj, congrArg _⟩

theorem started_of_exec {s t : State}
    (h : exec .powerOn s = .next t ∨ (s.desk.restart = .sending ∧ exec .restartStart s = .next t)) : Started t := by
  rcases h with hpower | ⟨hsending, hrestart⟩
  · obtain rfl := exec_powerOn_next_iff.mp hpower
    exact powerOn_started s
  · obtain rfl := (exec_restartStart_next_iff hsending).mp hrestart
    exact restartState_started s

theorem rosterMarked_of_empty {s : State} (h : s.roster.records = []) (m : Mark) : rosterMarked m s = false := by
  simp [rosterMarked, h]

theorem missing_of_empty {k : Roster} (h : k.records = []) : missing k = false := by simp [missing, h]

theorem Started.records {t : State} (h : Started t) : t.roster.records = [] := by
  obtain ⟨_, _, _, hroster⟩ := h.roster
  rw [hroster]
  rfl

/-- Order and Missing persist through roster records alone, and a start leaves none (R123). -/
theorem Started.causes {t : State} (h : Started t) :
    causePersists t .order = false ∧ causePersists t .missing = false :=
  ⟨rosterMarked_of_empty h.records .skipped, missing_of_empty h.records⟩

theorem Started.queues {t : State} (h : Started t) : t.line.control = [] ∧ t.desk.others = [] := by
  obtain ⟨_, hline⟩ := h.line
  obtain ⟨_, _, hdesk⟩ := h.desk
  rw [hline, hdesk]
  exact ⟨rfl, rfl⟩

/-- Settles O5: what the starts share is `Started`; the geometry is read off each start. -/
theorem startsEmptyTheRosterAndTheCallUnit : Obligations.StartsEmptyTheRosterAndTheCallUnit := by
  refine ⟨⟨fun s t h => ?_, fun s t h => ?_, fun s t hsending h => ?_⟩, fun s t h => ?_⟩
  · exact ⟨(started_of_exec h).records, (started_of_exec h).causes⟩
  · obtain rfl := exec_powerOn_next_iff.mp h
    exact ⟨rfl, rfl, rfl⟩
  · obtain rfl := (exec_restartStart_next_iff hsending).mp h
    exact ⟨rfl, rfl, rfl, rfl⟩
  · obtain ⟨hcontrol, hothers⟩ := (started_of_exec h).queues
    rw [(started_of_exec h).phone]
    exact ⟨rfl, rfl, rfl, rfl, rfl, rfl, rfl, rfl, rfl, rfl, rfl, rfl, rfl, rfl, rfl, hcontrol, hothers⟩

/-! ### Records of a leg (R104, R112) -/

/-- The search stops at the first record that satisfies the test. -/
theorem splitFirst_append_cons {p : RosterRec → Bool} {before : List RosterRec} {r : RosterRec}
    (behind : List RosterRec) (hbefore : ∀ x ∈ before, p x = false) (hr : p r = true) :
    splitFirst p (before ++ r :: behind) = some (before, r, behind) := by
  induction before with
  | nil => simp [splitFirst, hr]
  | cons x xs ih =>
    obtain ⟨hx, hxs⟩ := List.forall_mem_cons.mp hbefore
    simp [splitFirst, hx, ih hxs]

theorem onLeg_eq_false_iff {leg : Leg} {r : RosterRec} : onLeg leg r = false ↔ r.leg ≠ leg := decide_eq_false_iff_not

theorem skipLeg_of_ne {leg : Leg} {r : RosterRec} (h : r.leg ≠ leg) : skipLeg leg r = r := if_neg h

/-- Records of other legs are not marked Skipped. -/
theorem map_skipLeg_of_ne {leg : Leg} {rs : List RosterRec} (h : ∀ x ∈ rs, x.leg ≠ leg) : rs.map (skipLeg leg) = rs :=
  (List.map_congr_left fun x hx => skipLeg_of_ne (h x hx)).trans (List.map_id rs)

/-- With no record of the leg before the one that passes, none is passed over: no report, no Order. -/
theorem passedOver_of_ne {leg : Leg} {before : List RosterRec} (h : ∀ x ∈ before, x.leg ≠ leg) (s : State) :
    passedOver leg before s = s := by
  have hnone : before.any (onLeg leg) = false :=
    List.any_eq_false.mpr fun x hx => Bool.eq_false_iff.mp (onLeg_eq_false_iff.mpr (h x hx))
  simp [passedOver, hnone]

/-! ### Passages (R111, R172) -/

/-- An Arrived passage of a number in range is counted and given to the roster (R172). -/
theorem passage_arrived {n : Nat} (h : n ≤ 250) (metres : Nat) (s : State) :
    passage false n metres s = arrived n (countLine (fun c => { c with passages := satInc c.passages }) s) := by
  simp [passage, Nat.not_lt.mpr h]

/-- The first Outbound record under the number arrives; those before it on the leg are passed over (R111, R112). -/
theorem arrived_of_split {n : Nat} {before behind : List RosterRec} {r : RosterRec} {s : State} (hn : 1 ≤ n)
    (h : splitFirst (fun x => onLeg .outbound x && bears n x) s.roster.records = some (before, r, behind)) :
    arrived n s = passedOver .outbound before
      (rosterWith (before.map (skipLeg .outbound) ++ r.arrive s.roster.lUp :: behind) s) := by
  simp [arrived, Nat.ne_of_gt hn, h]

/-- The oldest Outbound record, of the number that arrives, moves to the summit and nothing else happens (R111). -/
theorem arrived_oldest {n : Nat} {before behind : List RosterRec} {r : RosterRec} {s : State} (hn : 1 ≤ n)
    (hrecords : s.roster.records = before ++ r :: behind) (hleg : r.leg = .outbound) (hnumber : r.carrier.number = n)
    (hbefore : ∀ x ∈ before, x.leg ≠ .outbound) :
    arrived n s = rosterWith (before ++ r.arrive s.roster.lUp :: behind) s := by
  have hfound : splitFirst (fun x => onLeg .outbound x && bears n x) s.roster.records = some (before, r, behind) := by
    rw [hrecords]
    refine splitFirst_append_cons behind (fun x hx => ?_) ?_
    · simp [onLeg_eq_false_iff.mpr (hbefore x hx)]
    · simp [onLeg, bears, hleg, hnumber]
  rw [arrived_of_split hn hfound, map_skipLeg_of_ne hbefore, passedOver_of_ne hbefore]

/-- Settles O38: the passage is counted, and the arrival of the oldest Outbound record moves that record alone. -/
theorem expectedArrivalReachesTheSummit : Obligations.ExpectedArrivalReachesTheSummit := by
  intro n metres before behind r s hn hmax hrecords hleg hnumber hbefore
  have harrival : passage false n metres s = rosterWith (before ++ r.arrive s.roster.lUp :: behind)
      (countLine (fun c => { c with passages := satInc c.passages }) s) := by
    rw [passage_arrived hmax]
    exact arrived_oldest hn hrecords hleg hnumber hbefore
  exact congrArg Host.Outcome.next harrival

end Sys2Proof.Machine
end

section
/-! SUPPORT. The family of the event counters: when an offered event counts and what it leaves in its counter (R142,
R143), and ArmCounter (R146). -/

namespace Sys2Proof.Machine

/-! ### Counting an offered event (R142) -/

/-- Marked and Unmarked hold against a carrier alone: an event that is not carrier-bound passes (R142). -/
theorem Qualifier.passes_eq_true_iff {q : Qualifier} {carrier : Option (Nat × Bool)} :
    q.passes carrier = true ↔ ∀ n isMarked, carrier = some (n, isMarked) →
      (q = .marked → isMarked = true) ∧ (q = .unmarked → isMarked = false) := by
  cases carrier with
  | none => simp [Qualifier.passes]
  | some c =>
    obtain ⟨number, marked⟩ := c
    cases q <;> simp [Qualifier.passes]

/-- Event 4 has to fall below the threshold and event 6 to exceed it (R142). -/
theorem Counter.measures_eq_true_iff {c : Counter} {ev : CounterEvent} :
    c.measures ev = true ↔ (ev.code = 4 → ev.value < c.threshold) ∧ (ev.code = 6 → c.threshold < ev.value) := by
  unfold Counter.measures
  by_cases h4 : ev.code = 4
  · simp [h4]
  · by_cases h6 : ev.code = 6 <;> simp [h4, h6]

/-- The six conditions (R142). -/
theorem counts_eq_true_iff {s : State} {i : Idx4} {ev : CounterEvent} :
    counts s i ev = true ↔
      (s.counter i).event = ev.code ∧ (s.counter i).event ≠ 0 ∧ s.run.state ∈ (s.counter i).mask ∧
        (∀ n isMarked, ev.carrier = some (n, isMarked) →
          ((s.counter i).qualifier = .marked → isMarked = true) ∧
          ((s.counter i).qualifier = .unmarked → isMarked = false)) ∧
        (ev.code = 4 → ev.value < (s.counter i).threshold) ∧ (ev.code = 6 → (s.counter i).threshold < ev.value) ∧
        (s.counter i).frozen = false ∧ ((s.counter i).chained = true → (s.counter .i1).alarm = true) := by
  simp only [counts, Bool.and_eq_true, Bool.or_eq_true, Bool.not_eq_true', decide_eq_true_eq,
    Qualifier.passes_eq_true_iff, Counter.measures_eq_true_iff, and_assoc, ← Bool.not_eq_true, ← imp_iff_not_or, ne_eq]

theorem counterTake_of_not_counts {s : State} {i : Idx4} {ev : CounterEvent} (h : ¬ counts s i ev = true) :
    counterTake i ev s = s := if_neg h

theorem counterTake_of_one_lt {s : State} {i : Idx4} {ev : CounterEvent} (h : counts s i ev = true)
    (hvalue : 1 < (s.counter i).value) :
    counterTake i ev s = s.setCounter i { s.counter i with value := (s.counter i).value - 1 } := by
  rw [counterTake, if_pos h, if_neg (Nat.not_le.mpr hvalue)]

theorem counterTake_of_le_one {s : State} {i : Idx4} {ev : CounterEvent} (h : counts s i ev = true)
    (hvalue : (s.counter i).value ≤ 1) : counterTake i ev s = expire i ev s := by
  rw [counterTake, if_pos h, if_pos hvalue]

/-! ### What an expiry leaves in its counter (R143) -/

/-- The action of an expiry, be it a ceiling or a demand, leaves the counters (R143). -/
theorem fireAction_counters (a : CounterAction) (s : State) : (fireAction a s).counters = s.counters := by
  cases a with
  | report => rfl
  | slow => simp [fireAction, counterCeilingTest]
  | stop => exact raise_touches .counter s .counters (by decide)

theorem expire_counter (i : Idx4) (ev : CounterEvent) (s : State) :
    (expire i ev s).counter i = (s.counter i).expired (sampleOf s ev) := by
  simp [expire, State.counter, fireAction_counters]

/-- Settles O45: the six conditions are those of `counts`, by whose value `counterTake` steps, expires or keeps. -/
theorem countingConditions : Obligations.CountingConditions := by
  intro i ev s
  rw [← counts_eq_true_iff]
  refine ⟨fun h => ⟨counterTake_of_one_lt h, fun hvalue => ?_⟩, counterTake_of_not_counts⟩
  rw [counterTake_of_le_one h hvalue.le, expire_counter]
  exact ⟨rfl, rfl⟩

/-! ### The number of a counter -/

@[simp] theorem idxOf?_idxNumber (i : Idx4) : idxOf? (idxNumber i) = some i := by cases i <;> rfl

theorem idxNumber_ne_zero (i : Idx4) : idxNumber i ≠ 0 := by cases i <;> decide

theorem idxNumber_inj {i j : Idx4} : idxNumber i = idxNumber j ↔ i = j := by
  refine ⟨fun h => ?_, congrArg idxNumber⟩
  have hsome : some i = some j := by rw [← idxOf?_idxNumber i, h, idxOf?_idxNumber]
  exact Option.some.inj hsome

theorem exists_idxNumber_eq {n : Nat} (hpos : n ≠ 0) (hle : n ≤ 4) : ∃ i, idxNumber i = n := by
  obtain rfl | rfl | rfl | rfl : n = 1 ∨ n = 2 ∨ n = 3 ∨ n = 4 := by omega
  exacts [⟨.i1, rfl⟩, ⟨.i2, rfl⟩, ⟨.i3, rfl⟩, ⟨.i4, rfl⟩]

theorem idxOf?_of_four_lt {n : Nat} (h : 4 < n) : idxOf? n = none := by
  obtain ⟨k, rfl⟩ := Nat.exists_eq_add_of_le' h
  rfl

theorem Idx4.mem_all (i : Idx4) : i ∈ Idx4.all := by cases i <;> decide

/-! ### The Counter ceiling (R145) -/

theorem Counters.slow_eq_true_iff {k : Counters} :
    k.slow = true ↔ ∃ i, (k.units.get i).action = .slow ∧ (k.units.get i).alarm = true := by
  simp [Counters.slow, Idx4.mem_all]

theorem counterCeilingTest_counters (s : State) : (counterCeilingTest s).counters = s.counters := by
  simp [counterCeilingTest]

theorem counterCeilingTest_counter (s : State) (i : Idx4) : (counterCeilingTest s).counter i = s.counter i := by
  rw [State.counter_eq, counterCeilingTest_counters, State.counter_eq]

theorem counterCeilingTest_gov (s : State) :
    (counterCeilingTest s).gov = { s.gov with counterCeiling := s.counters.slow } := setCeiling_gov .counter _ s

/-- After its test the ceiling stands exactly while an alarmed counter has the action Slow (R145). -/
theorem counterCeiling_counterCeilingTest_iff (s : State) :
    (counterCeilingTest s).gov.counterCeiling = true ↔
      ∃ i, ((counterCeilingTest s).counter i).action = .slow ∧ ((counterCeilingTest s).counter i).alarm = true := by
  simp only [counterCeilingTest_gov, counterCeilingTest_counter]
  exact Counters.slow_eq_true_iff

theorem counterCeilingTest_touches (s : State) : Touches [.gov, .line, .desk] s (counterCeilingTest s) := by
  intro b hb
  cases b <;> simp at hb <;> simp [Block.kept, counterCeilingTest]

theorem counterCeilingTest_deskQuiet (s : State) : DeskQuiet s (counterCeilingTest s) := setCeiling_deskQuiet _ _ s

theorem setCeiling_lineQuiet (c : Ceiling) (on : Bool) (s : State) : LineQuiet s (setCeiling c on s) := by
  unfold setCeiling updateCeilings
  split
  · rfl
  · exact (offerGovernor_urgentKept { s with gov := s.gov.withCeiling c on }).1

/-! ### ArmCounter (R146) -/

/-- The state in which the four counters are replaced. -/
def withCounterUnits (q : Quad Counter) (s : State) : State :=
  { s with counters := { s.counters with units := q } }

@[simp] theorem counter_withCounterUnits (q : Quad Counter) (s : State) (i : Idx4) :
    (withCounterUnits q s).counter i = q.get i := rfl

theorem withCounterUnits_touches (q : Quad Counter) (s : State) : Touches [.counters] s (withCounterUnits q s) := by
  intro b hb
  cases b <;> simp at hb <;> rfl

/-- The counters the number names are armed and the others stand; the Counter ceiling is tested after it. -/
theorem doArmCounter_of_le {n : Nat} (h : n ≤ 4) (s : State) :
    ∃ q : Quad Counter, doArmCounter n s = done (counterCeilingTest (withCounterUnits q s)) ∧
      ∀ i, q.get i = if n = 0 ∨ idxNumber i = n then (s.counter i).arm else s.counter i := by
  by_cases hzero : n = 0
  · exact ⟨s.counters.units.map Counter.arm, if_pos hzero, fun i => by simp [hzero, State.counter_eq]⟩
  · obtain ⟨j, rfl⟩ := exists_idxNumber_eq hzero h
    refine ⟨s.counters.units.set j (s.counter j).arm, ?_, fun i => ?_⟩
    · simp [doArmCounter, hzero, State.setCounter, withCounterUnits]
    · by_cases hij : i = j
      · simp [hij]
      · simp [hzero, idxNumber_inj, hij, Quad.get_set_ne, State.counter_eq]

theorem doArmCounter_of_four_lt {n : Nat} (h : 4 < n) (s : State) : doArmCounter n s = refuse .range s := by
  simp [doArmCounter, Nat.ne_zero_of_lt h, idxOf?_of_four_lt h]

theorem exec_armCounter (tag : Byte) (n : Nat) (s : State) :
    exec (.armCounter tag n) s = .next (submit tag (.armCounter n) s) := rfl

theorem armCounter_refused (tag : Byte) {n : Nat} {s : State} (free : DeskFree s) (h : 4 < n) :
    Refused (.armCounter tag n) tag (.armCounter n) .range s := by
  rw [Refused, exec_armCounter, submit_of_refuse tag (r := .armCounter n) free (by simp) (doArmCounter_of_four_lt h s)]

theorem armCounter_completes (tag : Byte) {n : Nat} {q : Quad Counter} {s : State} (free : DeskFree s)
    (h : doArmCounter n s = done (counterCeilingTest (withCounterUnits q s))) : exec (.armCounter tag n) s =
      .next (withReply tag (.armCounter n) (.done []) (counterCeilingTest (withCounterUnits q s))) := by
  rw [exec_armCounter, submit_of_done tag (r := .armCounter n) free (by simp) h (counterCeilingTest_deskQuiet _)]

/-- Settles O47: a number is refused or names its counters, which are armed before the ceiling is tested. -/
theorem armCounterReloads : Obligations.ArmCounterReloads := by
  intro tag n s free
  refine ⟨armCounter_refused tag free, fun hle => ?_⟩
  obtain ⟨q, hdone, hq⟩ := doArmCounter_of_le hle s
  have htouches : Touches [.gov, .counters, .line, .desk] s (counterCeilingTest (withCounterUnits q s)) :=
    ((withCounterUnits_touches q s).mono (by simp)).trans ((counterCeilingTest_touches _).mono (by simp))
  refine ⟨_, armCounter_completes tag free hdone, answered_withReply _ _ _ (counterCeilingTest_deskQuiet _), fun i => ?_,
    ?_, counterCeiling_counterCeilingTest_iff (withCounterUnits q s), touches_withReply _ _ _ htouches (by decide),
    setCeiling_lineQuiet .counter _ (withCounterUnits q s)⟩
  · exact (counterCeilingTest_counter (withCounterUnits q s) i).trans (hq i)
  · simp [counterCeilingTest_gov, withCounterUnits]

end Sys2Proof.Machine
end

section
/-! SUPPORT. The family of the summit line: first what a Line change touches, and the notices of both directions (R173,
R174). -/

namespace Sys2Proof.Machine

open Config

/-! ### The blocks of a Line change and of a line of its own (R191) -/

theorem withLine_touches (l : Line) (s : State) : Touches [.line] s { s with line := l } := by
  intro b hb
  cases b <;> simp at hb <;> simp [Block.kept]

theorem queueReport_lineDesk (r : Report) (s : State) :
    DeskQuiet s (queueReport r s) ∧ Touches [.line, .desk] s (queueReport r s) := by
  refine ⟨by simp [DeskQuiet], fun b hb => ?_⟩
  cases b <;> simp at hb <;> simp [Block.kept]

theorem offerLine_lineDesk (s : State) : DeskQuiet s (offerLine s) ∧ Touches [.line, .desk] s (offerLine s) := by
  refine ⟨by simp [DeskQuiet], fun b hb => ?_⟩
  cases b <;> simp at hb <;> simp [Block.kept]

/-- What follows a change of the line alone touches the blocks that it touches from the state before the change. -/
theorem lineDesk_of_withLine {l : Line} {s t : State}
    (h : DeskQuiet { s with line := l } t ∧ Touches [.line, .desk] { s with line := l } t) :
    DeskQuiet s t ∧ Touches [.line, .desk] s t := by
  obtain ⟨quiet, touched⟩ := h
  exact ⟨quiet, ((withLine_touches l s).mono (by simp)).trans touched⟩

/-! ### Notices from the summit (R174) -/

/-- The line controller after a notice has been counted and has joined the inbox, before it is offered (R174). -/
def Line.noticed (text : List Byte) (l : Line) : Line :=
  (l.count fun c => { c with notices := satInc c.notices }).receive text

theorem Line.noticed_of_room (text : List Byte) {l : Line} (h : l.inbox.length < noticeInbox) :
    l.noticed text = { l with
      inbox := l.inbox ++ [⟨text, false⟩]
      counts := { l.counts with notices := satInc l.counts.notices } } := by
  simp [Line.noticed, Line.receive, Line.count, h]

theorem Line.noticed_of_full (text : List Byte) {l : Line} (h : l.inbox.length = noticeInbox) :
    l.noticed text = { l with
      inbox := l.inbox.dropLast ++ [⟨text, true⟩]
      counts := { l.counts with
        notices := satInc l.counts.notices, noticesLost := satInc l.counts.noticesLost } } := by
  simp [Line.noticed, Line.receive, Line.count, h]

theorem Line.noticed_inbox_ne_nil (text : List Byte) (l : Line) : (l.noticed text).inbox ≠ [] := by
  unfold Line.noticed Line.receive
  split <;> simp

theorem takeNotice_eq (text : List Byte) (s : State) :
    takeNotice text s =
      if (s.line.noticed text).noticeOffered then { s with line := s.line.noticed text }
      else offerNotice { s with line := s.line.noticed text } := rfl

/-- A head notice offered stays in the inbox, as offered; only the report queue has moved beside it (R174, R190). -/
theorem offerNotice_keeps {s : State} (h : s.line.inbox ≠ []) :
    (offerNotice s).line.inbox = s.line.inbox ∧ (offerNotice s).line.counts = s.line.counts ∧
      (offerNotice s).line.noticeOffered = true ∧ DeskQuiet s (offerNotice s) ∧
      Touches [.line, .desk] s (offerNotice s) := by
  obtain ⟨n, rest, hinbox⟩ := List.exists_cons_of_ne_nil h
  have offered : offerNotice s = queueReport (.notice n.text n.overrun)
      { s with line := { s.line with noticeOffered := true, noticeTaken := true } } := by
    simp [offerNotice, hinbox]
  obtain ⟨quiet, touched⟩ := lineDesk_of_withLine (queueReport_lineDesk (.notice n.text n.overrun)
    { s with line := { s.line with noticeOffered := true, noticeTaken := true } })
  rw [offered]
  exact ⟨by simp, by simp, by simp, quiet, touched⟩

/-- A notice taken is counted and in the inbox, and a notice of the inbox is at the desk link (R174). -/
theorem takeNotice_keeps (text : List Byte) (s : State) :
    (takeNotice text s).line.inbox = (s.line.noticed text).inbox ∧
      (takeNotice text s).line.counts = (s.line.noticed text).counts ∧
      (takeNotice text s).line.noticeOffered = true ∧ DeskQuiet s (takeNotice text s) ∧
      Touches [.line, .desk] s (takeNotice text s) := by
  rw [takeNotice_eq]
  split
  · rename_i hoffered
    exact ⟨rfl, rfl, hoffered, DeskQuiet.refl s, (withLine_touches _ s).mono (by simp)⟩
  · obtain ⟨hinbox, hcounts, hoffered, frame⟩ :=
      offerNotice_keeps (s := { s with line := s.line.noticed text }) (s.line.noticed_inbox_ne_nil text)
    exact ⟨hinbox, hcounts, hoffered, lineDesk_of_withLine frame⟩

theorem exec_noticeFrame (text : List Byte) (s : State) : exec (.noticeFrame text) s = .next (takeNotice text s) := rfl

/-! ### SendNotice (R173) -/

theorem exec_sendNotice (tag : Byte) (text : List Byte) (s : State) :
    exec (.sendNotice tag text) s = .next (submit tag (.sendNotice text) s) := rfl

theorem doSendNotice_of_range {text : List Byte} (h : text = [] ∨ 64 < text.length) (s : State) :
    doSendNotice text s = refuse .range s := by
  simp [doSendNotice, h]

theorem doSendNotice_of_full {text : List Byte} {s : State} (hne : text ≠ []) (hlen : text.length ≤ 64)
    (hfull : 4 ≤ s.line.bulk.length) : doSendNotice text s = refuse .full s := by
  simp [doSendNotice, hne, Nat.not_lt.mpr hlen, bulkQueue, hfull]

theorem doSendNotice_of_room {text : List Byte} {s : State} (hne : text ≠ []) (hlen : text.length ≤ 64)
    (hroom : s.line.bulk.length < 4) :
    doSendNotice text s = done { s with line := { s.line with bulk := s.line.bulk ++ [text] } } := by
  simp [doSendNotice, hne, Nat.not_lt.mpr hlen, bulkQueue, Nat.not_le.mpr hroom]

theorem sendNotice_refused (tag : Byte) {text : List Byte} {reason : Reason} {s : State} (free : DeskFree s)
    (h : doSendNotice text s = refuse reason s) :
    Refused (.sendNotice tag text) tag (.sendNotice text) reason s := by
  rw [Refused, exec_sendNotice, submit_of_refuse tag (r := .sendNotice text) free (by simp) h]

theorem sendNotice_completes (tag : Byte) {text : List Byte} {s : State} (free : DeskFree s) (hne : text ≠ [])
    (hlen : text.length ≤ 64) (hroom : s.line.bulk.length < 4) : exec (.sendNotice tag text) s =
      .next (withReply tag (.sendNotice text) (.done [])
        { s with line := { s.line with bulk := s.line.bulk ++ [text] } }) := by
  rw [exec_sendNotice, submit_of_done tag (r := .sendNotice text) free (by simp)
    (doSendNotice_of_room hne hlen hroom) (DeskQuiet.refl s)]

/-- Settles O52: a notice received by the room in the inbox, SendNotice by its two tests. -/
theorem noticesAreKept : Obligations.NoticesAreKept := by
  refine ⟨fun text s => ?_, fun tag text s free => ⟨fun h => ?_, fun hne hlen hfull => ?_, fun hne hlen hroom => ?_,
    _, _, rfl⟩⟩
  · obtain ⟨hinbox, hcounts, hoffered, quiet, touched⟩ := takeNotice_keeps text s
    refine ⟨fun hroom => ?_, fun hfull => ?_⟩
    · rw [Line.noticed_of_room text hroom] at hinbox hcounts
      exact ⟨_, exec_noticeFrame text s, hinbox, quiet, touched, (congrArg LineCounts.notices hcounts :),
        (congrArg LineCounts.noticesLost hcounts :), hoffered⟩
    · rw [Line.noticed_of_full text hfull] at hinbox hcounts
      exact ⟨_, exec_noticeFrame text s, hinbox, quiet, touched,
        (congrArg LineCounts.noticesLost hcounts :)⟩
  · exact sendNotice_refused tag free (doSendNotice_of_range h s)
  · exact sendNotice_refused tag free (doSendNotice_of_full hne hlen hfull)
  · exact ⟨_, sendNotice_completes tag free hne hlen hroom, answered_withReply _ _ _ (DeskQuiet.refl s), rfl,
      touches_withReply _ _ _ ((withLine_touches _ s).mono (by simp)) (by decide)⟩

end Sys2Proof.Machine
end

section
/-! SUPPORT. The receiver of the summit line (R157 to R160): what the events given to other blocks leave of it, the bits
of a body as they go out and come in, and what flags, aborts, bits and the flag timer do. -/

namespace Sys2Proof.Machine

open Config

/-! ### What the events of other blocks leave of the receiver -/

/-- Raising a demand leaves the receiver and the counts of the line (R9, R11, R18). -/
@[simp] theorem raise_reception (src : Source) (s : State) :
    (raise src s).line.receiver = s.line.receiver ∧ (raise src s).line.rxBits = s.line.rxBits ∧
      (raise src s).line.flagTimer = s.line.flagTimer ∧ (raise src s).line.counts = s.line.counts := by
  unfold raise
  split
  · simp
  · rcases demandTransition_cases src (queueReport (.stopDemand src src.cls)
      { s with run := { s.run with demands := addSource src s.run.demands } }) with h | ⟨n, -, h⟩ <;> simp [h]

@[simp] theorem counterTake_reception (i : Idx4) (ev : CounterEvent) (s : State) :
    (counterTake i ev s).line.receiver = s.line.receiver ∧ (counterTake i ev s).line.rxBits = s.line.rxBits ∧
      (counterTake i ev s).line.flagTimer = s.line.flagTimer ∧ (counterTake i ev s).line.counts = s.line.counts := by
  have fired (a : CounterAction) (t : State) : (fireAction a t).line.receiver = t.line.receiver ∧
      (fireAction a t).line.rxBits = t.line.rxBits ∧ (fireAction a t).line.flagTimer = t.line.flagTimer ∧
      (fireAction a t).line.counts = t.line.counts := by
    cases a <;> simp [fireAction, counterCeilingTest]
  unfold counterTake
  split
  · split
    · simp [expire, fired]
    · simp
  · simp

@[simp] theorem offerEvent_reception (ev : CounterEvent) (s : State) :
    (offerEvent ev s).line.receiver = s.line.receiver ∧ (offerEvent ev s).line.rxBits = s.line.rxBits ∧
      (offerEvent ev s).line.flagTimer = s.line.flagTimer ∧ (offerEvent ev s).line.counts = s.line.counts := by
  simp [offerEvent]

/-- The receiver's state, the bits of the frame in reception and the flag timer stand. -/
def ReceptionKept (s t : State) : Prop :=
  t.line.receiver = s.line.receiver ∧ t.line.rxBits = s.line.rxBits ∧ t.line.flagTimer = s.line.flagTimer

section
variable {s t : State}

theorem ReceptionKept.refl (s : State) : ReceptionKept s s := ⟨rfl, rfl, rfl⟩

theorem ReceptionKept.trans {u : State} (h : ReceptionKept s t) (k : ReceptionKept t u) : ReceptionKept s u := by
  obtain ⟨hreceiver, hbits, htimer⟩ := h
  obtain ⟨kreceiver, kbits, ktimer⟩ := k
  exact ⟨kreceiver.trans hreceiver, kbits.trans hbits, ktimer.trans htimer⟩

protected theorem ReceptionKept.queueReport {r : Report} (h : ReceptionKept s t) : ReceptionKept s (queueReport r t) :=
  h.trans (by simp [ReceptionKept])

protected theorem ReceptionKept.offerLine (h : ReceptionKept s t) : ReceptionKept s (offerLine t) :=
  h.trans (by simp [ReceptionKept])

protected theorem ReceptionKept.offerGovernor (h : ReceptionKept s t) : ReceptionKept s (offerGovernor t) :=
  h.trans (by simp [ReceptionKept])

protected theorem ReceptionKept.updateCeilings {g : Governor} (h : ReceptionKept s t) :
    ReceptionKept s (updateCeilings g t) :=
  h.trans (by simp [ReceptionKept])

protected theorem ReceptionKept.setCeiling {c : Ceiling} {on : Bool} (h : ReceptionKept s t) :
    ReceptionKept s (setCeiling c on t) :=
  h.trans (by simp [ReceptionKept])

protected theorem ReceptionKept.raise {src : Source} (h : ReceptionKept s t) : ReceptionKept s (raise src t) :=
  h.trans (by simp [ReceptionKept])

protected theorem ReceptionKept.offerEvent {ev : CounterEvent} (h : ReceptionKept s t) :
    ReceptionKept s (offerEvent ev t) :=
  h.trans (by simp [ReceptionKept])

protected theorem ReceptionKept.sendSignal {sig : Signal} {id : Nat} (h : ReceptionKept s t) :
    ReceptionKept s (sendSignal sig id t) :=
  h.trans (by simp [ReceptionKept, Machine.sendSignal])

/-! A valid summit beat (R167 to R170) -/

protected theorem ReceptionKept.offerLineIf {l : LineSnapshot} (h : ReceptionKept s t) :
    ReceptionKept s (offerLineIf l t) := by
  unfold Machine.offerLineIf
  split
  · exact h
  · exact h.offerLine

protected theorem ReceptionKept.offerMissed {n : Nat} (h : ReceptionKept s t) :
    ReceptionKept s (offerMissed n t) := by
  induction n generalizing t with
  | zero => exact h
  | succ n ih => exact ih h.offerEvent

protected theorem ReceptionKept.gapTest {n : Nat} (h : ReceptionKept s t) : ReceptionKept s (gapTest n t) := by
  unfold Machine.gapTest
  split
  · exact h.offerMissed
  · exact h

protected theorem ReceptionKept.heardBeat {n : Nat} (h : ReceptionKept s t) : ReceptionKept s (heardBeat n t) := by
  have noted : ReceptionKept s { t with line := { t.line with lastBeat := some n, heard := true } } := h
  unfold Machine.heardBeat
  simp only []
  split
  · exact ReceptionKept.offerLineIf (ReceptionKept.setCeiling noted)
  · exact ReceptionKept.offerLineIf (ReceptionKept.setCeiling noted.offerLine)

protected theorem ReceptionKept.beatDemands {b : BeatFields} (h : ReceptionKept s t) :
    ReceptionKept s (beatDemands b t) := by
  unfold Machine.beatDemands
  split
  · exact h.raise
  · split
    · exact h.raise
    · exact h

protected theorem ReceptionKept.takeWind {w : Option Nat} (h : ReceptionKept s t) :
    ReceptionKept s (takeWind w t) := by
  have entered (g : Governor) : ReceptionKept s (enterBand g t) := by
    have changed : ReceptionKept s { t with gov := g } := h
    unfold enterBand
    simp only []
    split
    · exact changed.offerGovernor.raise
    · exact changed.offerGovernor
  unfold Machine.takeWind takeReading
  split
  · simp only []
    split
    · exact entered _
    · split
      · exact h
      · exact h
  · exact h

protected theorem ReceptionKept.takeFields {b : BeatFields} (h : ReceptionKept s t) :
    ReceptionKept s (takeFields b t) :=
  ReceptionKept.offerLineIf h.updateCeilings.takeWind

protected theorem ReceptionKept.summitBeat {b : BeatFields} (h : ReceptionKept s t) :
    ReceptionKept s (summitBeat b t) := by
  have counted : ReceptionKept s (countLine (fun c => { c with beats := satInc c.beats }) t) := h
  exact counted.gapTest.heardBeat.beatDemands.takeFields

/-! Passages (R111 to R114, R172) -/

protected theorem ReceptionKept.passedOver {leg : Leg} {rs : List RosterRec} (h : ReceptionKept s t) :
    ReceptionKept s (passedOver leg rs t) := by
  have reported (l : List RosterRec) : ReceptionKept s (reportSkipped l t) := by
    induction l generalizing t with
    | nil => exact h
    | cons r rs ih => exact ih h.queueReport
  unfold Machine.passedOver
  split
  · exact (reported _).raise
  · exact h

protected theorem ReceptionKept.arrived {n : Nat} (h : ReceptionKept s t) : ReceptionKept s (arrived n t) := by
  unfold Machine.arrived
  split
  · exact ReceptionKept.passedOver h
  · exact h.queueReport.offerEvent

protected theorem ReceptionKept.departed {n metres : Nat} (h : ReceptionKept s t) :
    ReceptionKept s (departed n metres t) := by
  unfold Machine.departed
  split
  · simp only []
    split
    · exact ReceptionKept.queueReport (ReceptionKept.offerEvent h)
    · exact h
  · exact h.queueReport

protected theorem ReceptionKept.passage {departing : Bool} {n metres : Nat} (h : ReceptionKept s t) :
    ReceptionKept s (passage departing n metres t) := by
  have counted : ReceptionKept s (countLine (fun c => { c with passages := satInc c.passages }) t) := h
  cases departing
  · exact counted.arrived
  · exact counted.departed

/-! Signals (R179) and notices (R174) -/

protected theorem ReceptionKept.enterTalking {id : Nat} {how : CallEvent} (h : ReceptionKept s t) :
    ReceptionKept s (enterTalking id how t) := ReceptionKept.queueReport h

protected theorem ReceptionKept.enterIdle {cause : CallEvent} (h : ReceptionKept s t) :
    ReceptionKept s (enterIdle cause t) := ReceptionKept.queueReport h

protected theorem ReceptionKept.ringIn {id : Nat} (h : ReceptionKept s t) : ReceptionKept s (ringIn id t) :=
  ReceptionKept.queueReport h

protected theorem ReceptionKept.ringSignal {id : Nat} (h : ReceptionKept s t) :
    ReceptionKept s (ringSignal id t) := by
  unfold Machine.ringSignal
  split
  · exact h.ringIn
  · exact h.sendSignal.enterTalking
  · split
    · exact h
    · exact h.ringIn
  · split
    · exact h.sendSignal
    · exact h.sendSignal

protected theorem ReceptionKept.answerSignal {id : Nat} (h : ReceptionKept s t) :
    ReceptionKept s (answerSignal id t) := by
  unfold Machine.answerSignal
  split
  · split
    · exact h.enterTalking
    · exact h
    · exact h.sendSignal
  · exact h.sendSignal

protected theorem ReceptionKept.clearSignal {id : Nat} (h : ReceptionKept s t) :
    ReceptionKept s (clearSignal id t) := by
  unfold Machine.clearSignal
  split
  · exact h.enterIdle
  · exact h

protected theorem ReceptionKept.callSignal {sig : Signal} {id : Nat} (h : ReceptionKept s t) :
    ReceptionKept s (callSignal sig id t) := by
  have counted : ReceptionKept s (countLine (fun c => { c with callSignals := satInc c.callSignals }) t) := h
  cases sig with
  | ring => exact counted.ringSignal
  | answer => exact counted.answerSignal
  | clear => exact counted.clearSignal

protected theorem ReceptionKept.takeNotice {text : List Byte} (h : ReceptionKept s t) :
    ReceptionKept s (takeNotice text t) := by
  have noticed : ReceptionKept s { t with line := t.line.noticed text } := by
    refine h.trans ?_
    unfold ReceptionKept Line.noticed Line.receive
    split <;> exact ⟨rfl, rfl, rfl⟩
  rw [takeNotice_eq]
  split
  · exact noticed
  · unfold offerNotice
    split
    · exact noticed
    · exact ReceptionKept.queueReport noticed

protected theorem ReceptionKept.frameError {e : FrameFault} (h : ReceptionKept s t) :
    ReceptionKept s (frameError e t) := by
  cases e with
  | length => exact h
  | fcs => exact ReceptionKept.offerEvent h
  | format => exact h

/-- A frame handed on to its block leaves the receiver (R161). -/
protected theorem ReceptionKept.takeReceived {r : Received} (h : ReceptionKept s t) :
    ReceptionKept s (takeReceived r t) := by
  cases r with
  | bad e => exact h.frameError
  | elsewhere => exact h
  | beat b => exact h.summitBeat
  | passage departing number metres => exact h.passage
  | callSignal sig id => exact h.callSignal
  | voice id sequence block => exact h
  | notice text => exact h.takeNotice

end

/-! ### The bits of a body, sent and received (R157, R158) -/

theorem bitsByte_byteBits (b : Byte) : bitsByte (byteBits b) = b := by
  revert b
  decide

theorem length_byteBits (b : Byte) : (byteBits b).length = 8 := rfl

theorem length_bodyBits (body : List Byte) : (body.flatMap byteBits).length = 8 * body.length := by
  simp [List.length_flatMap, length_byteBits, Nat.mul_comm]

theorem bitsBytes_bodyBits (body : List Byte) : bitsBytes body.length (body.flatMap byteBits) = body := by
  induction body with
  | nil => rfl
  | cons b body ih => simp [bitsBytes, ← length_byteBits b, bitsByte_byteBits, ih]

/-- The bits of a whole body are tested as that body (R159). -/
theorem parseBits_bodyBits (body : List Byte) : parseBits (body.flatMap byteBits) = parseBody body := by
  have whole : ¬ 8 * body.length % 8 ≠ 0 := by omega
  have count : 8 * body.length / 8 = body.length := by omega
  rw [parseBits, length_bodyBits, if_neg whole, count, bitsBytes_bodyBits]

theorem parseBits_of_odd {bits : List Bool} (h : bits.length % 8 ≠ 0) : parseBits bits = .bad .length := if_pos h

/-- Bits accumulate piece by piece as they do in one piece. -/
theorem accumulate_append (front back acc : List Bool) (ones : Nat) :
    accumulate (front ++ back) acc ones = (accumulate front acc ones).bind fun p => accumulate back p.1 p.2 := by
  induction front generalizing acc ones with
  | nil => rfl
  | cons b front ih =>
    simp only [List.cons_append, accumulate]
    split
    · exact ih acc 0
    · split
      · rfl
      · exact ih _ _

/-- A bit that is no inserted zero joins the bits of a frame, where the frame stays below its 73rd byte. -/
theorem accumulate_cons {b : Bool} {bits acc : List Bool} {ones : Nat} (kept : ones < 5 ∨ b = true)
    (room : acc.length < 583) :
    accumulate (b :: bits) acc ones = accumulate bits (acc ++ [b]) (if b then ones + 1 else 0) := by
  have notInserted : ¬ (ones = 5 ∧ b = false) := by
    rcases kept with h | h
    · omega
    · simp [h]
  have notOverlong : overlong (acc ++ [b]) = false := by
    refine decide_eq_false ?_
    rw [List.length_append, List.length_singleton, bodyMax]
    omega
  simp [accumulate, notInserted, notOverlong]

/-- Zero removal undoes zero insertion, from any number of ones that insertion can stand at. -/
theorem accumulate_stuff (bits acc : List Bool) {ones : Nat} (hones : ones ≤ 4)
    (room : acc.length + bits.length < 584) :
    ∃ last, accumulate (stuff ones bits) acc ones = some (acc ++ bits, last) := by
  induction bits generalizing acc ones with
  | nil => exact ⟨ones, by simp [stuff, accumulate]⟩
  | cons b bits ih =>
    simp only [List.length_cons] at room
    have below : (acc ++ [b]).length + bits.length < 584 := by
      simp only [List.length_append, List.length_singleton]
      omega
    have joined : acc ++ b :: bits = (acc ++ [b]) ++ bits := by simp
    rw [joined]
    cases b with
    | false =>
      simp only [stuff, Bool.false_eq_true, if_false]
      rw [accumulate_cons (.inl (by omega)) (by omega)]
      exact ih _ (by omega) below
    | true =>
      simp only [stuff, if_true]
      split
      · rename_i hfour
        rw [accumulate_cons (.inr rfl) (by omega), hfour]
        exact ih _ (by omega) below
      · rw [accumulate_cons (.inr rfl) (by omega)]
        exact ih _ (by omega) below

/-- Zero insertion leaves no six ones in a row. -/
theorem noSixOnes_stuff (bits : List Bool) {ones : Nat} (hones : ones ≤ 4) :
    noSixOnes ones (stuff ones bits) = true := by
  induction bits generalizing ones with
  | nil => rfl
  | cons b bits ih =>
    cases b with
    | false => simpa [stuff, noSixOnes] using ih (by omega)
    | true =>
      simp only [stuff, if_true]
      split
      · rename_i hfour
        simpa [noSixOnes, hfour] using ih (by omega)
      · have hlt : ones < 5 := by omega
        simpa [noSixOnes, hlt] using ih (by omega)

theorem accumulate_wireBits {body : List Byte} (h : body.length ≤ 72) :
    ∃ last, accumulate (wireBits body) [] 0 = some (body.flatMap byteBits, last) := by
  refine accumulate_stuff (body.flatMap byteBits) [] (Nat.zero_le 4) ?_
  rw [length_bodyBits, List.length_nil]
  omega

/-! ### Flags (R158) -/

/-- The state after a flag, before what it ends is handed on. -/
def withFlag (s : State) : State :=
  { s with line := { s.line with receiver := .idle, rxBits := [], rxOnes := 0, flagTimer := 20 } }

theorem flagReceived_of_hunting {s : State} (h : s.line.receiver = .hunting) :
    flagReceived s = offerLine (withFlag s) := by
  simp only [flagReceived, h]
  rfl

theorem flagReceived_of_receiving {s : State} (h : s.line.receiver = .receiving) :
    flagReceived s = takeReceived (parseBits s.line.rxBits) (withFlag s) := by
  simp only [flagReceived, h]
  rfl

theorem flagReceived_of_no_frame {s : State} (h : s.line.receiver = .idle ∨ s.line.receiver = .discarding) :
    flagReceived s = withFlag s := by
  rcases h with h | h
  all_goals
    simp only [flagReceived, h]
    rfl

theorem flagReceived_reception (s : State) : ReceptionKept (withFlag s) (flagReceived s) := by
  cases h : s.line.receiver with
  | hunting => rw [flagReceived_of_hunting h]; exact (ReceptionKept.refl _).offerLine
  | idle => rw [flagReceived_of_no_frame (.inl h)]; exact ReceptionKept.refl _
  | receiving => rw [flagReceived_of_receiving h]; exact (ReceptionKept.refl _).takeReceived
  | discarding => rw [flagReceived_of_no_frame (.inr h)]; exact ReceptionKept.refl _

theorem exec_flagReceived (s : State) : exec .flagReceived s = .next (flagReceived s) := rfl

/-- A flag after the bits of a whole body hands on what the body is (R159, R161). -/
theorem exec_flagReceived_of_body {body : List Byte} {r : Received} {s : State} (h : s.line.receiver = .receiving)
    (hbits : s.line.rxBits = body.flatMap byteBits) (hbody : parseBody body = r) :
    exec .flagReceived s = .next (takeReceived r (withFlag s)) := by
  rw [exec_flagReceived, flagReceived_of_receiving h, hbits, parseBits_bodyBits, hbody]

/-- A flag by the state that the receiver was in (R158). -/
theorem flagReceived_acts (s : State) :
    (s.line.receiver = .idle ∨ s.line.receiver = .discarding → exec .flagReceived s = .next (withFlag s)) ∧
    (s.line.receiver = .hunting → ∃ t, exec .flagReceived s = .next t ∧ DeskQuiet s t ∧ Touches [.line, .desk] s t) ∧
    (s.line.receiver = .receiving → s.line.rxBits.length % 8 ≠ 0 →
      exec .flagReceived s = exec (.frameError .length) (withFlag s)) := by
  refine ⟨fun h => ?_, fun h => ?_, fun h hodd => ?_⟩
  · rw [exec_flagReceived, flagReceived_of_no_frame h]
  · refine ⟨_, exec_flagReceived s, ?_⟩
    rw [flagReceived_of_hunting h]
    exact lineDesk_of_withLine (offerLine_lineDesk (withFlag s))
  · rw [exec_flagReceived, flagReceived_of_receiving h, parseBits_of_odd hodd]
    rfl

theorem flagTimer_acts (s : State) : ∃ t, exec .flagTimer s = .next t ∧ t.line.receiver = .hunting ∧
    t.line.rxBits = [] ∧ DeskQuiet s t ∧ Touches [.line, .desk] s t := by
  refine ⟨flagExpired s, rfl, ?_⟩
  unfold flagExpired
  simp only []
  split
  · exact ⟨rfl, rfl, DeskQuiet.refl s, (withLine_touches _ s).mono (by simp)⟩
  · exact ⟨by simp, by simp, lineDesk_of_withLine (offerLine_lineDesk _)⟩

/-! ### Aborts (R160) -/

theorem exec_abortReceived (s : State) : exec .abortReceived s = .next (abortReceived s) := rfl

/-- An abort in Receiving discards the frame, and counts from the first whole byte on (R160). -/
theorem abortReceived_of_receiving {s : State} (h : s.line.receiver = .receiving) :
    abortReceived s =
      if 8 ≤ s.line.rxBits.length then
        countLine (fun c => { c with aborts := satInc c.aborts }) (receiverTo .discarding s)
      else receiverTo .discarding s := by
  simp [abortReceived, h]

/-- An abort outside Idle and Receiving has no effect, and neither have bits (R158). -/
theorem deaf_acts {s : State} (h : s.line.receiver = .hunting ∨ s.line.receiver = .discarding) :
    exec .abortReceived s = .next s ∧ ∀ bits, exec (.bodyBitsReceived bits) s = .next s := by
  have deaf : abortReceived s = s ∧ ∀ bits, bodyBits bits s = s := by
    rcases h with h | h <;> simp [abortReceived, bodyBits, h]
  obtain ⟨habort, hbits⟩ := deaf
  exact ⟨congrArg Host.Outcome.next habort, fun bits => congrArg Host.Outcome.next (hbits bits)⟩

/-! ### Bits of a frame (R158, R159) -/

theorem exec_bodyBitsReceived (bits : List Bool) (s : State) :
    exec (.bodyBitsReceived bits) s = .next (bodyBits bits s) := rfl

theorem bodyBits_of_listening {bits : List Bool} {s : State}
    (h : s.line.receiver = .idle ∨ s.line.receiver = .receiving) (hbits : bits ≠ []) :
    bodyBits bits s = receiveBits bits s := by
  rcases h with h | h <;> simp [bodyBits, h, hbits]

theorem receiveBits_of_some {bits acc : List Bool} {ones : Nat} {s : State}
    (h : accumulate bits s.line.rxBits s.line.rxOnes = some (acc, ones)) :
    receiveBits bits s =
      { s with line := { s.line with receiver := .receiving, rxBits := acc, rxOnes := ones } } := by
  simp [receiveBits, h]

theorem receiveBits_of_none {bits : List Bool} {s : State}
    (h : accumulate bits s.line.rxBits s.line.rxOnes = none) :
    receiveBits bits s = frameError .length (receiverTo .discarding s) := by
  simp [receiveBits, h]

/-! ### Frame errors (R159) -/

/-- A frame that fails the FCS test is counted, and is the counters' event 10 (R159). -/
theorem frameError_fcs_acts (s : State) : ∃ t, exec (.frameError .fcs) s = .next t ∧
    t.line.counts.fcsErrors = min (s.line.counts.fcsErrors + 1) 65535 ∧ DeskQuiet s t ∧
    Touches [.run, .gov, .track, .berths, .counters, .line, .desk] s t := by
  have counted := (withLine_touches (s.line.count fun c => { c with fcsErrors := satInc c.fcsErrors }) s).mono
    (cs := [.run, .gov, .track, .berths, .counters, .line, .desk]) (by simp)
  refine ⟨frameError .fcs s, rfl, ?_, ?_, ?_⟩
  · simp [frameError, satInc, countMax]
  · exact offerEvent_deskQuiet _ (countLine _ s)
  · exact counted.trans ((offerEvent_touches _ _).mono (by simp [eventBlocks, raiseBlocks]))

/-! ### The statement -/

/-- Settles O49: a flag by the receiver's state, a body's bits by zero removal, an abort and bits by what is in
reception. -/
theorem framesComeThroughTheReceiver : Obligations.FramesComeThroughTheReceiver := by
  refine ⟨fun s => ⟨?_, ?_, ?_, flagTimer_acts s, fun h hlong => ?_, fun h hshort => ?_, deaf_acts,
    fun bits acc ones h hne hacc => ?_, fun bits h hne hacc => ?_⟩, fun body hbody => ?_,
    fun s => ⟨rfl, rfl, frameError_fcs_acts s⟩⟩
  · obtain ⟨hreceiver, hbits, htimer⟩ := flagReceived_reception s
    exact ⟨_, exec_flagReceived s, hreceiver, htimer, hbits⟩
  · rintro idle rfl
    exact flagReceived_acts s
  · rintro body h hbits idle rfl
    exact ⟨fun e => exec_flagReceived_of_body h hbits, exec_flagReceived_of_body h hbits,
      fun b => exec_flagReceived_of_body h hbits, fun dep n m => exec_flagReceived_of_body h hbits,
      fun sig id => exec_flagReceived_of_body h hbits, fun id sq block => exec_flagReceived_of_body h hbits,
      fun text => exec_flagReceived_of_body h hbits⟩
  · refine ⟨_, exec_abortReceived s, ?_⟩
    rw [abortReceived_of_receiving h, if_pos hlong]
    exact ⟨rfl, withLine_touches _ s⟩
  · refine ⟨_, exec_abortReceived s, ?_⟩
    rw [abortReceived_of_receiving h, if_neg (Nat.not_le.mpr hshort)]
    exact ⟨rfl, withLine_touches _ s⟩
  · refine ⟨_, exec_bodyBitsReceived bits s, ?_⟩
    rw [bodyBits_of_listening h hne, receiveBits_of_some hacc]
    exact ⟨rfl, withLine_touches _ s⟩
  · refine ⟨_, exec_bodyBitsReceived bits s, ?_⟩
    rw [bodyBits_of_listening h hne, receiveBits_of_none hacc]
    exact ⟨rfl, withLine_touches _ s⟩
  · refine ⟨accumulate_wireBits hbody, noSixOnes_stuff _ (Nat.zero_le 4), fun front back acc ones hwire hfront => ?_⟩
    rw [hwire, accumulate_append, hfront]
    rfl

end Sys2Proof.Machine
end

section
/-! SUPPORT. The family of calls: what a signal sent, an entry to a call state and its report can do, said once; then
the statements on the host's call requests, and on the summit's signals and the call timers (R177 to R181). -/

namespace Sys2Proof.Machine

open Config

/-! ### The blocks that a call can touch -/

/-- Of the desk link only the report queue has moved, and beside it the call unit and the line at most. -/
structure CallFrame (s t : State) : Prop where
  desk : DeskQuiet s t
  touches : Touches [.phone, .line, .desk] s t

section
variable {s t u : State}

theorem CallFrame.refl (s : State) : CallFrame s s := ⟨DeskQuiet.refl s, Touches.refl _ s⟩

theorem CallFrame.trans (h : CallFrame s t) (k : CallFrame t u) : CallFrame s u :=
  ⟨h.desk.trans k.desk, h.touches.trans k.touches⟩

/-- An edit of the call unit and the line alone. -/
theorem CallFrame.edit (h : CallFrame s t) (c : CallUnit) (l : Line) :
    CallFrame s { t with phone := c, line := l } := by
  refine h.trans ⟨DeskQuiet.refl t, fun b hb => ?_⟩
  cases b <;> simp at hb <;> simp [Block.kept]

protected theorem CallFrame.queueReport {r : Report} (h : CallFrame s t) : CallFrame s (queueReport r t) := by
  obtain ⟨quiet, touched⟩ := queueReport_lineDesk r t
  exact h.trans ⟨quiet, touched.mono (by simp)⟩

protected theorem CallFrame.sendSignal {sig : Signal} {id : Nat} (h : CallFrame s t) :
    CallFrame s (sendSignal sig id t) := by
  refine h.trans ⟨by simp [DeskQuiet, Machine.sendSignal], fun b hb => ?_⟩
  cases b <;> simp at hb <;> simp [Block.kept, Machine.sendSignal]

protected theorem CallFrame.enterTalking {id : Nat} {how : CallEvent} (h : CallFrame s t) :
    CallFrame s (enterTalking id how t) := (h.edit _ t.line).queueReport

protected theorem CallFrame.enterIdle {cause : CallEvent} (h : CallFrame s t) : CallFrame s (enterIdle cause t) :=
  (h.edit _ t.line).queueReport

protected theorem CallFrame.ringIn {id : Nat} (h : CallFrame s t) : CallFrame s (ringIn id t) :=
  (h.edit _ t.line).queueReport

/-- Where the call unit stands as it stood, only the line and the report queue have moved. -/
theorem CallFrame.touches_of_phone (h : CallFrame s t) (hphone : t.phone = s.phone) : Touches [.line, .desk] s t := by
  intro b hb
  by_cases hcall : b = .phone
  · subst hcall
    exact hphone
  · exact h.touches b (by simpa [hcall] using hb)

end

theorem withPhone_touches (c : CallUnit) (l : Line) (s : State) :
    Touches [.phone, .line] s { s with phone := c, line := l } := by
  intro b hb
  cases b <;> simp at hb <;> simp [Block.kept]

/-! ### Signals sent (R162, R177) -/

theorem sendSignal_of_room {s : State} (room : s.line.control.length < 16) (sig : Signal) (id : Nat) :
    sendSignal sig id s = { s with line := { s.line with control := s.line.control ++ [.callSignal sig id] } } := by
  simp [sendSignal, offerControl, controlQueue, room]

@[simp] theorem sendSignal_phone (sig : Signal) (id : Nat) (s : State) : (sendSignal sig id s).phone = s.phone := by
  simp [sendSignal]

/-! ### Entries to a call state (R181, R185) -/

/-- A report of the other group is queued where the queue has room (R190). -/
theorem mem_others_queueReport {r : Report} {s : State} (hr : r.isUrgent = false)
    (room : s.desk.urgent.length + s.desk.others.length < reportMax) : r ∈ (queueReport r s).desk.others := by
  simp [queueReport, reportRoom, room, hr]

theorem queueReport_lineQuiet (r : Report) (s : State) : LineQuiet s (queueReport r s) := (queueReport_urgentKept r s).1

section
variable (id : Nat) (how : CallEvent) (s : State)

@[simp] theorem enterTalking_phone : (enterTalking id how s).phone = { s.phone.emptied with
    state := .talking, id := some id, ringRepeat := none, ringOut := none, ringingGap := none,
    voiceLoss := some voiceLossMs, sequence := 0 } := by
  simp [enterTalking]

@[simp] theorem enterIdle_phone : (enterIdle how s).phone = { s.phone.emptied with
    state := .idle, id := none, ringRepeat := none, ringOut := none, ringingGap := none, voiceLoss := none } := by
  simp [enterIdle]

@[simp] theorem ringIn_phone : (ringIn id s).phone =
    { s.phone with state := .ringing, id := some id, ringingGap := some ringingGapMs } := by
  simp [ringIn]

/-- Beside the call unit an entry brings its report alone: the line controller may have a Notice given back (R190). -/
theorem enterTalking_lineQuiet : LineQuiet s (enterTalking id how s) := queueReport_lineQuiet _ _

theorem enterIdle_lineQuiet : LineQuiet s (enterIdle how s) := queueReport_lineQuiet _ _

@[simp] theorem enterTalking_control : (enterTalking id how s).line.control = s.line.control := by simp [enterTalking]

@[simp] theorem enterIdle_control : (enterIdle how s).line.control = s.line.control := by simp [enterIdle]

@[simp] theorem ringIn_control : (ringIn id s).line.control = s.line.control := by simp [ringIn]

variable {s} (room : s.desk.urgent.length + s.desk.others.length < 32)
include room

theorem enterTalking_report : .call how id .talking ∈ (enterTalking id how s).desk.others :=
  mem_others_queueReport rfl room

theorem enterIdle_report {own : Nat} (hid : s.phone.id = some own) :
    .call how own .idle ∈ (enterIdle how s).desk.others := by
  have report : Report.call how (callId s) .idle ∈ (enterIdle how s).desk.others := mem_others_queueReport rfl room
  simpa [callId, hid] using report

theorem ringIn_report : .call .incoming id .ringing ∈ (ringIn id s).desk.others := mem_others_queueReport rfl room

end

/-- A call ended with Clear: the signal waits on the line, and the report gives the id of the call (R178, R180). -/
theorem enterIdle_sendSignal (cause : CallEvent) {id : Nat} {s : State} (hid : s.phone.id = some id)
    (room : s.line.control.length < 16) :
    LineQuiet { s with line := { s.line with control := s.line.control ++ [.callSignal .clear id] } }
        (enterIdle cause (sendSignal .clear id s)) ∧
      (s.desk.urgent.length + s.desk.others.length < 32 →
        .call cause id .idle ∈ (enterIdle cause (sendSignal .clear id s)).desk.others) := by
  rw [sendSignal_of_room room]
  exact ⟨enterIdle_lineQuiet cause _, fun reports => enterIdle_report cause (by exact reports) (by exact hid)⟩

theorem callId_of_some {id : Nat} {s : State} (h : s.phone.id = some id) : callId s = id := by simp [callId, h]

/-! ### The call requests (R178) -/

theorem exec_call (tag : Byte) (s : State) : exec (.call tag) s = .next (submit tag .call s) := rfl

theorem exec_answer (tag : Byte) (s : State) : exec (.answer tag) s = .next (submit tag .answer s) := rfl

theorem exec_hangUp (tag : Byte) (s : State) : exec (.hangUp tag) s = .next (submit tag .hangUp s) := rfl

/-- The call unit after an accepted Call (R178). -/
def CallUnit.called (c : CallUnit) : CallUnit :=
  { c with
    state := .calling, id := some c.nextId, nextId := nextOwnId c.nextId, ringRepeat := some ringRepeatMs,
    ringOut := some ringTimeoutMs }

theorem doCall_of_idle {s : State} (h : s.phone.state = .idle) :
    doCall s = (sendSignal .ring s.phone.nextId { s with phone := s.phone.called }, .done [byte s.phone.nextId]) := by
  simp [doCall, h, CallUnit.called, byte1]

theorem doCall_of_busy {s : State} (h : s.phone.state ≠ .idle) : doCall s = refuse .busy s := by
  cases hstate : s.phone.state <;> simp_all [doCall]

theorem doAnswer_of_ringing {id : Nat} {s : State} (h : s.phone.state = .ringing) (hid : s.phone.id = some id) :
    doAnswer s = done (enterTalking id .connectedAccepted (sendSignal .answer id s)) := by
  simp [doAnswer, h, callId_of_some hid]

theorem doAnswer_of_ne_ringing {s : State} (h : s.phone.state ≠ .ringing) : doAnswer s = refuse .state s := by
  cases hstate : s.phone.state <;> simp_all [doAnswer]

theorem doHangUp_of_call {id : Nat} {s : State} (h : s.phone.state ≠ .idle) (hid : s.phone.id = some id) :
    doHangUp s = done (enterIdle .endedHungUp (sendSignal .clear id s)) := by
  cases hstate : s.phone.state <;> simp_all [doHangUp, callId_of_some hid]

theorem doHangUp_of_idle {s : State} (h : s.phone.state = .idle) : doHangUp s = refuse .state s := by
  simp [doHangUp, h]

section
variable (tag : Byte) {s : State} (free : DeskFree s)
include free

theorem call_completes (hidle : s.phone.state = .idle) : exec (.call tag) s =
    .next (withReply tag .call (.done [byte s.phone.nextId])
      (sendSignal .ring s.phone.nextId { s with phone := s.phone.called })) := by
  have performed : perform .call s = _ := doCall_of_idle hidle
  have frame : CallFrame s (perform .call s).1 := by
    rw [performed]
    exact ((CallFrame.refl s).edit s.phone.called s.line).sendSignal
  rw [exec_call, submit_of_deskFree tag free (by decide) frame.desk, performed]

theorem answer_completes {id : Nat} (hringing : s.phone.state = .ringing) (hid : s.phone.id = some id) :
    exec (.answer tag) s = .next (withReply tag .answer (.done [])
      (enterTalking id .connectedAccepted (sendSignal .answer id s))) := by
  rw [exec_answer, submit_of_done tag (r := .answer) free (by decide) (doAnswer_of_ringing hringing hid)
    (CallFrame.refl s).sendSignal.enterTalking.desk]

theorem hangUp_completes {id : Nat} (hcall : s.phone.state ≠ .idle) (hid : s.phone.id = some id) :
    exec (.hangUp tag) s = .next (withReply tag .hangUp (.done [])
      (enterIdle .endedHungUp (sendSignal .clear id s))) := by
  rw [exec_hangUp, submit_of_done tag (r := .hangUp) free (by decide) (doHangUp_of_call hcall hid)
    (CallFrame.refl s).sendSignal.enterIdle.desk]

end

/-- Settles O53: each request by the call state that it finds, its signal by the room in the Control queue. -/
theorem callRequestsAct : Obligations.CallRequestsAct := by
  intro tag s free room
  refine ⟨fun hidle => ?_, fun hbusy => ?_, fun id hringing hid => ?_, fun hother => ?_, fun id hcall hid => ?_,
    fun hidle => ?_⟩
  · have frame := ((CallFrame.refl s).edit s.phone.called s.line).sendSignal (sig := .ring) (id := s.phone.nextId)
    refine ⟨_, call_completes tag free hidle, answered_withReply _ _ _ frame.desk, ?_, ?_,
      touches_withReply _ _ _ frame.touches (by decide)⟩
    · simp [CallUnit.called, nextOwnId, ringRepeatMs, ringTimeoutMs]
    · rw [sendSignal_of_room (by exact room)]
      rfl
  · rw [Refused, exec_call, submit_of_refuse tag (r := .call) free (by decide) (doCall_of_busy hbusy)]
  · have frame := (CallFrame.refl s).sendSignal (sig := .answer) (id := id)
      |>.enterTalking (id := id) (how := .connectedAccepted)
    refine ⟨_, answer_completes tag free hringing hid, answered_withReply _ _ _ frame.desk, ?_, ?_, ?_, ?_, ?_, ?_,
      fun reports => ?_, touches_withReply _ _ _ frame.touches (by decide)⟩
    iterate 5 simp [voiceLossMs]
    all_goals rw [sendSignal_of_room room]
    · simpa [LineQuiet] using enterTalking_lineQuiet id .connectedAccepted
        { s with line := { s.line with control := s.line.control ++ [.callSignal .answer id] } }
    · simpa using enterTalking_report id .connectedAccepted (by exact reports)
  · rw [Refused, exec_answer, submit_of_refuse tag (r := .answer) free (by decide) (doAnswer_of_ne_ringing hother)]
  · have frame := (CallFrame.refl s).sendSignal (sig := .clear) (id := id) |>.enterIdle (cause := .endedHungUp)
    obtain ⟨line, report⟩ := enterIdle_sendSignal .endedHungUp hid room
    refine ⟨_, hangUp_completes tag free hcall hid, answered_withReply _ _ _ frame.desk, ?_, ?_, ?_, ?_, ?_, ?_, ?_, ?_,
      fun reports => ?_, touches_withReply _ _ _ frame.touches (by decide)⟩
    iterate 7 simp [CallUnit.emptied]
    · simpa [LineQuiet] using line
    · simpa using report reports
  · rw [Refused, exec_hangUp, submit_of_refuse tag (r := .hangUp) free (by decide) (doHangUp_of_idle hidle)]

/-! ### Signals from the summit (Table 9-2) -/

/-- A good CallSignal counted, before it is taken (R172). -/
def signalCounted (s : State) : State := countLine (fun c => { c with callSignals := satInc c.callSignals }) s

@[simp] theorem signalCounted_fields (s : State) :
    (signalCounted s).phone = s.phone ∧ (signalCounted s).desk = s.desk ∧
      (signalCounted s).line.control = s.line.control := by
  simp [signalCounted]

theorem signalCounted_touches (s : State) : Touches [.line] s (signalCounted s) := withLine_touches _ s

theorem exec_ring (id : Nat) (s : State) :
    exec (.callSignal .ring id) s = .next (ringSignal id (signalCounted s)) := rfl

theorem exec_answerSignal (id : Nat) (s : State) :
    exec (.callSignal .answer id) s = .next (answerSignal id (signalCounted s)) := rfl

theorem exec_clearSignal (id : Nat) (s : State) :
    exec (.callSignal .clear id) s = .next (clearSignal id (signalCounted s)) := rfl

theorem CallFrame.counted (s : State) : CallFrame s (signalCounted s) := (CallFrame.refl s).edit _ _

/-- A signal sent in answer to the summit's leaves the call as it is (R179). -/
theorem sendSignal_counted (sig : Signal) (id : Nat) (s : State) :
    (sendSignal sig id (signalCounted s)).phone = s.phone ∧
      DeskQuiet s (sendSignal sig id (signalCounted s)) ∧
      Touches [.line, .desk] s (sendSignal sig id (signalCounted s)) ∧
      (s.line.control.length < 16 →
        (sendSignal sig id (signalCounted s)).line.control = s.line.control ++ [.callSignal sig id]) := by
  have frame := (CallFrame.counted s).sendSignal (sig := sig) (id := id)
  refine ⟨by simp, frame.desk, frame.touches_of_phone (by simp), fun room => ?_⟩
  rw [sendSignal_of_room (by simpa using room)]
  simp

section
variable {id : Nat} {s : State}

theorem ringSignal_of_idle (h : s.phone.state = .idle) : ringSignal id s = ringIn id s := by simp [ringSignal, h]

theorem ringSignal_of_calling {own : Nat} (h : s.phone.state = .calling) (hid : s.phone.id = some own) :
    ringSignal id s = enterTalking (min own id) .connectedGlare (sendSignal .answer (min own id) s) := by
  simp [ringSignal, h, callId_of_some hid, Nat.min_def, Min.min]

theorem ringSignal_of_ringing (h : s.phone.state = .ringing) : ringSignal id s =
    if s.phone.id = some id then { s with phone := { s.phone with ringingGap := some ringingGapMs } }
    else ringIn id s := by
  simp [ringSignal, h]

theorem ringSignal_of_talking (h : s.phone.state = .talking) :
    ringSignal id s = sendSignal (if s.phone.id = some id then .answer else .clear) id s := by
  simp only [ringSignal, h]
  split <;> rfl

theorem answerSignal_of_calling (h : s.phone.state = .calling) (hid : s.phone.id = some id) :
    answerSignal id s = enterTalking id .connectedAnswered s := by
  simp [answerSignal, h, hid]

theorem answerSignal_of_talking (h : s.phone.state = .talking) (hid : s.phone.id = some id) :
    answerSignal id s = s := by
  simp [answerSignal, h, hid]

theorem answerSignal_of_ringing (h : s.phone.state = .ringing) : answerSignal id s = sendSignal .clear id s := by
  simp [answerSignal, h]

theorem answerSignal_of_other (h : s.phone.id ≠ some id) : answerSignal id s = sendSignal .clear id s := by
  simp [answerSignal, h]

theorem clearSignal_of_current (h : s.phone.id = some id) : clearSignal id s = enterIdle .endedCleared s := by
  simp [clearSignal, h]

theorem clearSignal_of_other (h : s.phone.id ≠ some id) : clearSignal id s = s := by simp [clearSignal, h]

/-! ### Timers (R180) -/

theorem ringAgain_of_calling {ms : Nat} (hid : s.phone.id = some id) (h : s.phone.state = .calling)
    (htimer : s.phone.ringRepeat = some ms) : ringAgain s =
      sendSignal .ring id { s with phone := { s.phone with ringRepeat := some ringRepeatMs } } := by
  simp [ringAgain, h, htimer, callId_of_some hid]

theorem ringExpired_of_calling {ms : Nat} (hid : s.phone.id = some id) (h : s.phone.state = .calling)
    (htimer : s.phone.ringOut = some ms) :
    ringExpired s = enterIdle .endedNoAnswer (sendSignal .clear id s) := by
  simp [ringExpired, h, htimer, callId_of_some hid]

theorem ringStopped_of_ringing {ms : Nat} (h : s.phone.state = .ringing) (htimer : s.phone.ringingGap = some ms) :
    ringStopped s = enterIdle .endedRingStopped s := by
  simp [ringStopped, h, htimer]

theorem callLost_of_talking {ms : Nat} (hid : s.phone.id = some id) (h : s.phone.state = .talking)
    (htimer : s.phone.voiceLoss = some ms) : callLost s = enterIdle .endedLost (sendSignal .clear id s) := by
  simp [callLost, h, htimer, callId_of_some hid]

end

theorem exec_ringRepeat (s : State) : exec .ringRepeat s = .next (ringAgain s) := rfl

theorem exec_ringTimeout (s : State) : exec .ringTimeout s = .next (ringExpired s) := rfl

theorem exec_ringingGap (s : State) : exec .ringingGap s = .next (ringStopped s) := rfl

theorem exec_voiceLoss (s : State) : exec .voiceLoss s = .next (callLost s) := rfl

/-- Settles O54: each signal by the call state and the id it finds (Table 9-2), each timer by what its expiry sends. -/
theorem callSignalsAndTimersAct : Obligations.CallSignalsAndTimersAct := by
  refine ⟨fun id s => ⟨fun hidle => ?_, fun own hcalling hid => ?_, fun hcalling hid => ?_, fun own hid hne => ?_,
    fun hid => ?_, fun hother => ?_, fun hringing hid => ?_, fun own hringing hid hne => ?_, fun htalking => ?_,
    fun hringing hid => ?_, fun htalking hid => ?_, fun hnone => ?_⟩, fun id ms s hid room => ⟨fun h htimer => ?_,
    fun h htimer => ?_, fun h htimer => ?_, fun h htimer => ?_⟩⟩
  · have frame := (CallFrame.counted s).ringIn (id := id)
    rw [exec_ring, ringSignal_of_idle (by simpa using hidle)]
    exact ⟨_, rfl, by simp, by simp, by simp [ringingGapMs], frame.desk, frame.touches⟩
  · have frame := (CallFrame.counted s).sendSignal (sig := .answer) (id := min own id)
      |>.enterTalking (id := min own id) (how := .connectedGlare)
    rw [exec_ring, ringSignal_of_calling (by simpa using hcalling) (by simpa using hid)]
    obtain ⟨-, -, -, sent⟩ := sendSignal_counted .answer (min own id) s
    exact ⟨_, rfl, by simp, by simp, frame.desk, frame.touches, fun room => by rw [enterTalking_control, sent room]⟩
  · have frame := (CallFrame.counted s).enterTalking (id := id) (how := .connectedAnswered)
    rw [exec_answerSignal, answerSignal_of_calling (by simpa using hcalling) (by simpa using hid)]
    exact ⟨_, rfl, by simp, by simp, by simp [voiceLossMs], by simp, frame.desk, frame.touches⟩
  · rw [exec_answerSignal, answerSignal_of_other (by simpa [hid] using hne)]
    exact ⟨_, rfl, sendSignal_counted .clear id s⟩
  · have frame := (CallFrame.counted s).enterIdle (cause := .endedCleared)
    rw [exec_clearSignal, clearSignal_of_current (by simpa using hid)]
    exact ⟨_, rfl, by simp, by simp, by simp, frame.desk, frame.touches⟩
  · rw [exec_clearSignal, clearSignal_of_other (by simpa using hother)]
    exact ⟨_, rfl, by simp, by simp, rfl, signalCounted_touches s⟩
  · rw [exec_ring, ringSignal_of_ringing (by simpa using hringing), if_pos (by simpa using hid)]
    exact ⟨_, rfl, by simp [ringingGapMs], by simp, withPhone_touches _ _ s⟩
  · have frame := (CallFrame.counted s).ringIn (id := id)
    rw [exec_ring, ringSignal_of_ringing (by simpa using hringing), if_neg (by simpa [hid] using hne)]
    exact ⟨_, rfl, by simp [hringing, ringingGapMs], by simp,
      fun reports => ringIn_report id (by simpa using reports), frame.desk, frame.touches⟩
  · obtain ⟨phone, quiet, touched, sent⟩ :=
      sendSignal_counted (if s.phone.id = some id then .answer else .clear) id s
    rw [exec_ring, ringSignal_of_talking (by simpa using htalking)]
    exact ⟨_, rfl, phone, sent, quiet, touched⟩
  · obtain ⟨phone, quiet, touched, sent⟩ := sendSignal_counted .clear id s
    rw [exec_answerSignal, answerSignal_of_ringing (by simpa using hringing)]
    exact ⟨_, rfl, phone, sent, quiet, touched⟩
  · rw [exec_answerSignal, answerSignal_of_talking (by simpa using htalking) (by simpa using hid)]
    exact ⟨_, rfl, by simp, by simp, signalCounted_touches s⟩
  · obtain ⟨phone, quiet, touched, sent⟩ := sendSignal_counted .clear id s
    rw [exec_answerSignal, answerSignal_of_other (by simp [hnone])]
    exact ⟨_, rfl, phone, sent, quiet, touched⟩
  · rw [exec_ringRepeat, ringAgain_of_calling hid h htimer, sendSignal_of_room (by exact room)]
    exact ⟨_, rfl, rfl, rfl, withPhone_touches _ _ s⟩
  · have frame := (CallFrame.refl s).sendSignal (sig := .clear) (id := id) |>.enterIdle (cause := .endedNoAnswer)
    obtain ⟨-, report⟩ := enterIdle_sendSignal .endedNoAnswer hid room
    rw [exec_ringTimeout, ringExpired_of_calling hid h htimer]
    exact ⟨_, rfl, by simp, by simp, by simp, report, by simp [sendSignal_of_room room], frame.desk, frame.touches⟩
  · have frame := (CallFrame.refl s).enterIdle (cause := .endedRingStopped)
    rw [exec_ringingGap, ringStopped_of_ringing h htimer]
    exact ⟨_, rfl, by simp, by simp, by simp, frame.desk, fun reports => enterIdle_report _ reports hid, frame.touches⟩
  · have frame := (CallFrame.refl s).sendSignal (sig := .clear) (id := id) |>.enterIdle (cause := .endedLost)
    obtain ⟨-, report⟩ := enterIdle_sendSignal .endedLost hid room
    rw [exec_voiceLoss, callLost_of_talking hid h htimer]
    exact ⟨_, rfl, by simp, by simp, by simp [CallUnit.emptied], report, by simp [sendSignal_of_room room], frame.desk,
      frame.touches⟩

end Sys2Proof.Machine
end

section
/-! SUPPORT. The operations of every block but the call unit leave the call unit as it stands, said once for each, in
the order of the model's files; a conjunction holds the operations of one kind (Figure 1-1, R177, R185). -/

namespace Sys2Proof.Machine

open Config

@[simp] theorem done_fst (s : State) : (done s).1 = s := rfl

@[simp] theorem refuse_fst (r : Reason) (s : State) : (refuse r s).1 = s := rfl

section
variable (s : State)

/-! ### Demands, counter events and arrivals -/

theorem Arrives.phone {s t : State} (h : Arrives s t) : t.phone = s.phone := h.touches .phone (by decide)

@[simp] theorem raise_phone (src : Source) : (raise src s).phone = s.phone := raise_touches src s .phone (by decide)

@[simp] theorem offerEvent_phone (ev : CounterEvent) : (offerEvent ev s).phone = s.phone :=
  offerEvent_touches ev s .phone (by decide)

@[simp] theorem raiseAll_phone (l : List Source) : (raiseAll l s).phone = s.phone :=
  raiseAll_touches l s .phone (by decide)

@[simp] theorem occasion_phone (ms : List WatchMatch) : (occasion ms s).phone = s.phone :=
  (Arrives.refl s).occasion.phone

@[simp] theorem gateTest_phone : (gateTest s).phone = s.phone := (Arrives.refl s).gateTest.phone

/-- The blocks that take a travel update (R36). -/
@[simp] theorem travel_phone : (trackTravel s).phone = s.phone ∧ (rosterTravel s).phone = s.phone ∧
    (countersTravel s).phone = s.phone :=
  ⟨(Arrives.refl s).trackTravel.phone, (Arrives.refl s).rosterTravel.phone, (Arrives.refl s).countersTravel.phone⟩

@[simp] theorem endUntested_phone (raises : Bool) (r : CarrierRec) : (endUntested raises r s).phone = s.phone :=
  (Arrives.refl s).endUntested.phone

@[simp] theorem completeLaunch_phone (cls : GripClass) (r : CarrierRec) : (completeLaunch cls r s).phone = s.phone :=
  (Arrives.refl s).completeLaunch.phone

/-! ### Event counters and position watches (chapter 7) -/

@[simp] theorem expiryEvent_phone (i : Idx4) (ev : CounterEvent) : (expiryEvent i ev s).phone = s.phone := by
  unfold expiryEvent
  split
  · exact counterTake_touches i ev s .phone (by decide)
  · rfl

@[simp] theorem doSetCounter_phone (n : Nat) (r : CounterRequest) : (doSetCounter n r s).1.phone = s.phone := by
  unfold doSetCounter counterCeilingTest
  (repeat' split) <;> simp

@[simp] theorem doArmCounter_phone (n : Nat) : (doArmCounter n s).1.phone = s.phone := by
  unfold doArmCounter counterCeilingTest
  (repeat' split) <;> simp

@[simp] theorem placeWatch_phone (i : Idx4) (w : Watch) : (placeWatch i w s).phone = s.phone := by
  unfold placeWatch removeExemption
  simp only []
  split <;> simp

@[simp] theorem doSetWatch_phone (n : Nat) (r : WatchRequest) : (doSetWatch n r s).1.phone = s.phone := by
  unfold doSetWatch
  (repeat' split) <;> simp

@[simp] theorem doClearHits_phone (n : Nat) : (doClearHits n s).1.phone = s.phone := by
  unfold doClearHits
  (repeat' split) <;> simp

/-! ### The berth controller (chapter 4) -/

@[simp] theorem wakingTest_phone : (wakingTest s).phone = s.phone := by
  unfold wakingTest
  split <;> simp

@[simp] theorem cycleNotice_phone (i : Idx4) (ran : Bool) (n : Nat) : (cycleNotice i ran n s).phone = s.phone := by
  unfold cycleNotice
  split <;> simp

@[simp] theorem lockedNotice_phone (i : Idx4) (completed : Bool) : (lockedNotice i completed s).phone = s.phone := by
  unfold lockedNotice
  split <;> simp

@[simp] theorem queueRequest_phone (i : Idx4) (m : Motion) : (queueRequest i m s).phone = s.phone := by
  unfold queueRequest
  split <;> simp

@[simp] theorem faultBerth_phone (i : Idx4) (r : FaultReason) : (faultBerth i r s).phone = s.phone := by
  simp [faultBerth]

/-- Reversals (R88, R89). -/
@[simp] theorem reversal_phone (i : Idx4) :
    (countReversal i s).phone = s.phone ∧ (reverse i s).phone = s.phone := by
  have counted (t : State) : (countReversal i t).phone = t.phone := by
    unfold countReversal limitTest
    split <;> simp
  simp [reverse, counted]

/-- A grant leaves the call unit where the test in between does (R94, R95). -/
theorem grantHead_phone {test : State → State} (htest : ∀ u, (test u).phone = u.phone) :
    (grantHead test s).phone = s.phone := by
  unfold grantHead
  split
  · rfl
  · rename_i i m rest _
    cases m with
    | opening => simp [grantOpen]
    | closing =>
      simp only [grantClose]
      (repeat' split) <;> simp [htest]
    | homing =>
      simp only [grantHoming]
      split <;> simp

/-- Each grant, and each test that a release in between makes, leaves the call unit (R94). -/
@[simp] theorem supplyLoop_phone (n : Nat) : (supplyLoop n s).phone = s.phone := by
  induction n generalizing s with
  | zero => rfl
  | succ n ih =>
    unfold supplyLoop
    split
    · rw [ih, grantHead_phone _ ih]
    · rfl

@[simp] theorem supplyTest_phone : (supplyTest s).phone = s.phone := supplyLoop_phone s 32

@[simp] theorem request_phone (i : Idx4) (m : Motion) : (request i m s).phone = s.phone := by simp [request]

@[simp] theorem fault_phone (i : Idx4) (r : FaultReason) : (fault i r s).phone = s.phone := by
  unfold fault
  split <;> simp

@[simp] theorem lockBerth_phone (i : Idx4) : (lockBerth i s).phone = s.phone := by simp [lockBerth]

@[simp] theorem startLocking_phone (i : Idx4) : (startLocking i s).phone = s.phone := by
  unfold startLocking
  simp only []
  split <;> simp

@[simp] theorem openEntered_phone (i : Idx4) : (openEntered i s).phone = s.phone := by
  unfold openEntered
  simp only []
  (repeat' split) <;> simp

/-- The timers of a berth (R82 to R87, R98). -/
@[simp] theorem berthTimers_phone (i : Idx4) :
    (recoveryExpired i s).phone = s.phone ∧ (unlockExpired i s).phone = s.phone ∧
    (openingExpired i s).phone = s.phone ∧ (dwellExpired i s).phone = s.phone ∧
    (closingExpired i s).phone = s.phone ∧ (lockExpired i s).phone = s.phone ∧
    (homingExpired i s).phone = s.phone := by
  simp only [recoveryExpired, unlockExpired, openingExpired, dwellExpired, closingExpired, lockExpired, homingExpired]
  refine ⟨?_, ?_, ?_, ?_, ?_, ?_, ?_⟩ <;> (repeat' split) <;> simp

@[simp] theorem gapExpired_phone : (gapExpired s).phone = s.phone := by
  unfold gapExpired
  split <;> simp

/-- The senses of a berth (R79). -/
@[simp] theorem berthSenses_phone (i : Idx4) (active : Bool) :
    (motionCompleteSense i active s).phone = s.phone ∧ (lockConfirmSense i active s).phone = s.phone ∧
    (obstructionSense i active s).phone = s.phone ∧ (driveFaultChange i active s).phone = s.phone := by
  simp only [motionCompleteSense, lockConfirmSense, obstructionSense, driveFaultChange]
  refine ⟨?_, ?_, ?_, ?_⟩ <;> (repeat' split) <;> simp

@[simp] theorem pendingFaults_phone : (pendingFaults s).phone = s.phone := by
  have taken (i : Idx4) (t : State) : (pendingFault i t).phone = t.phone := by
    unfold pendingFault
    split <;> simp
  simp [pendingFaults, taken]

/-- What moves all the berths at once (R81, R96, R97). -/
@[simp] theorem allBerths_phone : (occupyBerths s).phone = s.phone ∧ (parkBerths s).phone = s.phone ∧
    (homeBerths s).phone = s.phone ∧ (thaw s).phone = s.phone := by
  simp [occupyBerths, parkBerths, homeBerths, thaw]

@[simp] theorem doSetBerth_phone (n : Nat) (r : BerthRequest) : (doSetBerth n r s).1.phone = s.phone := by
  simp only [doSetBerth, placeSettings]
  (repeat' split) <;> simp

@[simp] theorem doSetMotion_phone (gap : Nat) : (doSetMotion gap s).1.phone = s.phone := by
  unfold doSetMotion
  split <;> simp

@[simp] theorem clearHoldOpen_phone (i : Idx4) : (clearHoldOpen i s).phone = s.phone := by
  unfold clearHoldOpen
  split <;> simp

/-- The berth commands that move the doors or the lock (R100, R101). -/
@[simp] theorem commandMotion_phone (i : Idx4) :
    (commandUnlock i s).1.phone = s.phone ∧ (commandOpen i s).1.phone = s.phone ∧
    (commandClose i s).1.phone = s.phone ∧ (commandLock i s).1.phone = s.phone ∧
    (commandReopen i s).1.phone = s.phone := by
  simp only [commandUnlock, commandOpen, commandClose, commandLock, commandReopen]
  refine ⟨?_, ?_, ?_, ?_, ?_⟩ <;> (repeat' split) <;> simp

/-- The berth commands on the dwell, the cycle and the fault (R92, R101, R102). -/
@[simp] theorem commandCycle_phone (i : Idx4) :
    (commandHoldOpen i s).1.phone = s.phone ∧ (commandEndDwell i s).1.phone = s.phone ∧
    (commandSkipCycle i s).1.phone = s.phone ∧ (commandClearFault i s).1.phone = s.phone := by
  simp only [commandHoldOpen, commandEndDwell, commandSkipCycle, commandClearFault]
  refine ⟨?_, ?_, ?_, ?_⟩ <;> (repeat' split) <;> simp

@[simp] theorem commandSetMode_phone (i : Idx4) (m : BerthMode) : (commandSetMode i m s).1.phone = s.phone := by
  simp only [commandSetMode]
  (repeat' split) <;> simp

@[simp] theorem doBerthCommand_phone (n c m : Nat) : (doBerthCommand n c m s).1.phone = s.phone := by
  unfold doBerthCommand berthCommand
  (repeat' split) <;> simp

/-! ### The terminal track (chapter 3) -/

@[simp] theorem bufferChanged_phone (n : Nat) : (bufferChanged n s).phone = s.phone := by
  unfold bufferChanged trackCeilingTest
  (repeat' split) <;> simp

@[simp] theorem testRecord_phone (record : List Byte) : (testRecord record s).phone = s.phone := by
  unfold testRecord gripResult gripEffect
  simp only []
  (repeat' split) <;> simp

/-- The ends of an index step (R57, R58). -/
@[simp] theorem indexStep_phone :
    (indexLimitExpired s).phone = s.phone ∧ (indexDone s).phone = s.phone ∧ (cancelIndex s).phone = s.phone := by
  simp only [indexLimitExpired, indexDone, cancelIndex]
  refine ⟨?_, ?_, ?_⟩ <;> (repeat' split) <;> simp

theorem withNamed_phone {n : Nat} {act : Place → CarrierRec → State × ReplyResult}
    (hact : ∀ p r, (act p r).1.phone = s.phone) : (withNamed n s act).1.phone = s.phone := by
  unfold withNamed
  split
  · exact hact _ _
  · rfl

@[simp] theorem modifyNamed_phone (n : Nat) (f : CarrierRec → CarrierRec) : (modifyNamed n f s).phone = s.phone := rfl

@[simp] theorem gateTestAt_phone (p : Place) : (gateTestAt p s).phone = s.phone := by
  unfold gateTestAt
  split <;> simp

/-- The requests that name a carrier (R69 to R71); Renumber names two numbers. -/
@[simp] theorem namedRequests_phone (n : Nat) :
    (doHold n s).1.phone = s.phone ∧ (doRelease n s).1.phone = s.phone ∧ (doMark n s).1.phone = s.phone ∧
    (doUnmark n s).1.phone = s.phone := by
  refine ⟨withNamed_phone s fun p r => ?_, withNamed_phone s fun p r => ?_, withNamed_phone s fun p r => ?_,
    withNamed_phone s fun p r => ?_⟩
  iterate 4 (repeat' split) <;> simp

@[simp] theorem doRenumber_phone (n new : Nat) : (doRenumber n new s).1.phone = s.phone := by
  refine withNamed_phone s fun p r => ?_
  (repeat' split) <;> simp

/-- Garage and Abandon (R72, R73). -/
@[simp] theorem launchRequests_phone : (doGarage s).1.phone = s.phone ∧ (doAbandon s).1.phone = s.phone := by
  simp only [doGarage, doAbandon]
  refine ⟨?_, ?_⟩ <;> (repeat' split) <;> simp

@[simp] theorem doInhibit_phone (on : Bool) : (doInhibit on s).1.phone = s.phone := by
  cases on <;> simp [doInhibit]

@[simp] theorem doDeclare_phone (p n : Nat) : (doDeclare p n s).1.phone = s.phone := by
  unfold doDeclare placeDeclared
  (repeat' split) <;> simp

@[simp] theorem launchSettings_phone (a b : Nat) :
    (doSetSpacing a b s).1.phone = s.phone ∧ (doSetGrip a b s).1.phone = s.phone := by
  simp only [doSetSpacing, doSetGrip]
  refine ⟨?_, ?_⟩ <;> split <;> simp

@[simp] theorem doSetTrack_phone (slow limit : Nat) (accept : Bool) :
    (doSetTrack slow limit accept s).1.phone = s.phone := by
  unfold doSetTrack trackCeilingTest
  split <;> simp

/-! ### The roster (chapter 5) -/

@[simp] theorem passedOver_phone (leg : Leg) (rs : List RosterRec) : (passedOver leg rs s).phone = s.phone := by
  have reported (l : List RosterRec) (t : State) : (reportSkipped l t).phone = t.phone := by
    induction l generalizing t with
    | nil => rfl
    | cons r rs ih => simp [reportSkipped, ih]
  unfold passedOver
  split <;> simp [reported]

@[simp] theorem arrived_phone (n : Nat) : (arrived n s).phone = s.phone := by
  unfold arrived
  split <;> simp

@[simp] theorem departed_phone (n metres : Nat) : (departed n metres s).phone = s.phone := by
  simp only [departed]
  (repeat' split) <;> simp

@[simp] theorem takeMatch_phone (unread : Bool) (before : List RosterRec) (x : RosterRec) (behind : List RosterRec)
    (r : CarrierRec) : (takeMatch unread before x behind r s).phone = s.phone := by
  cases unread <;> simp [takeMatch]

@[simp] theorem matchEntry_phone (wasBorne : Bool) (r : CarrierRec) : (matchEntry wasBorne r s).phone = s.phone := by
  unfold matchEntry
  (repeat' split) <;> simp

@[simp] theorem entry_phone (tag : Nat) (stuck : Bool) : (entry tag stuck s).phone = s.phone := by
  unfold entry
  simp only []
  (repeat' split) <;> simp

@[simp] theorem doRemoveCarrier_phone (n : Nat) : (doRemoveCarrier n s).1.phone = s.phone := by
  unfold doRemoveCarrier
  (repeat' split) <;> simp

@[simp] theorem doSetGeometry_phone (u d k : Nat) : (doSetGeometry u d k s).1.phone = s.phone := by
  unfold doSetGeometry
  (repeat' split) <;> simp

/-! ### The tower scanner (chapter 6) -/

@[simp] theorem towerCeilingTest_phone : (towerCeilingTest s).phone = s.phone := by simp [towerCeilingTest]

@[simp] theorem startRound_phone : (startRound s).phone = s.phone := by
  simp only [startRound]
  split <;> simp

@[simp] theorem endTransaction_phone : (endTransaction s).phone = s.phone := by
  simp only [endTransaction]
  split <;> simp

@[simp] theorem endUnread_phone (n : Nat) : (endUnread n s).phone = s.phone := by
  unfold endUnread
  split <;> simp

/-- The poll frame's end and the timers of the schedule (R126, R128, R130). -/
@[simp] theorem pollTimers_phone : (pollSent s).phone = s.phone ∧ (replyExpired s).phone = s.phone ∧
    (transactionDue s).phone = s.phone ∧ (parkedPoll s).phone = s.phone := by
  simp only [pollSent, replyExpired, transactionDue, parkedPoll]
  refine ⟨?_, ?_, ?_, ?_⟩ <;> (repeat' split) <;> simp

@[simp] theorem offerTowerEvent_phone (k : TowerKind) (n : Nat) (p : Option Nat) (x : Slot) :
    (offerTowerEvent k n p x s).phone = s.phone := occasion_phone s _

@[simp] theorem latchPoint_phone (n : Nat) (i : Idx4) (l : Latch) : (latchPoint n i l s).phone = s.phone := by
  simp only [latchPoint]
  (repeat' split) <;> simp

@[simp] theorem replyPoints_phone (n : Nat) (x y : Slot) (i : Idx4) :
    (pointOffset n x y s i).phone = s.phone ∧ (pointEvents n x y s i).phone = s.phone := by
  simp only [pointOffset, pointEvents]
  refine ⟨?_, ?_⟩ <;> (repeat' split) <;> simp

@[simp] theorem replyEvents_phone (n : Nat) (x y : Slot) : (replyEvents n x y s).phone = s.phone := by
  simp [replyEvents, Idx4.all]

@[simp] theorem hearTower_phone (n : Nat) : (hearTower n s).phone = s.phone := by
  unfold hearTower
  (repeat' split) <;> simp

@[simp] theorem replyChange_phone (n : Nat) (x : Slot) : (replyChange n x s).phone = s.phone := by
  unfold replyChange
  (repeat' split) <;> simp

@[simp] theorem acceptReply_phone (n : Nat) (codes : Quad Nat) : (acceptReply n codes s).phone = s.phone := by
  simp only [acceptReply]
  split <;> simp

@[simp] theorem towerBytes_phone (frame : List Byte) : (towerBytes frame s).phone = s.phone := by
  unfold towerBytes towerFrame lateReply
  (repeat' split) <;> simp

@[simp] theorem passedDeadlines_phone (n : Nat) (x : Slot) :
    (becomeStale n x s).phone = s.phone ∧ (becomeSilent n x s).phone = s.phone := by
  simp [becomeStale, becomeSilent]

@[simp] theorem deadlineEvents_phone (n : Nat) :
    (staleEvent n s).phone = s.phone ∧ (silentEvent n s).phone = s.phone := by
  simp only [staleEvent, silentEvent]
  refine ⟨?_, ?_⟩ <;> (repeat' split) <;> simp

@[simp] theorem comparePassed_phone (n : Nat) : (comparePassed n s).phone = s.phone := by
  simp only [comparePassed]
  (repeat' split) <;> simp

theorem compareSlot_phone (n : Nat) (p : State × Nat) : (compareSlot n p).1.phone = p.1.phone := by
  simp only [compareSlot]
  (repeat' split) <;> simp

@[simp] theorem offerTowers_phone (n : Nat) : (offerTowers n s).phone = s.phone := by
  induction n generalizing s with
  | zero => rfl
  | succ n ih => simp [offerTowers, ih]

@[simp] theorem compareSlots_phone : (compareSlots s).phone = s.phone := by
  have compared (l : List Nat) (p : State × Nat) :
      (l.foldl (fun p n => compareSlot (n + 1) p) p).1.phone = p.1.phone := by
    induction l generalizing p with
    | nil => rfl
    | cons n l ih => rw [List.foldl_cons, ih, compareSlot_phone]
  simp [compareSlots, compared]

@[simp] theorem entryTowers_phone : (wakeTowers s).phone = s.phone ∧ (parkTowers s).phone = s.phone := by
  simp only [wakeTowers, parkTowers]
  refine ⟨?_, ?_⟩ <;> split <;> simp

@[simp] theorem endIfTo_phone (n : Nat) : (endIfTo n s).phone = s.phone := by
  unfold endIfTo
  (repeat' split) <;> simp

@[simp] theorem doSetTower_phone (n a c e : Nat) : (doSetTower n a c e s).1.phone = s.phone := by
  unfold doSetTower placeSlot
  (repeat' split) <;> simp

@[simp] theorem doSetScan_phone (d : Nat) : (doSetScan d s).1.phone = s.phone := by
  simp only [doSetScan]
  (repeat' split) <;> simp

@[simp] theorem clearLatches_phone (n : Nat) (l : List Idx4) : (clearLatches n l s).phone = s.phone := by
  induction l generalizing s with
  | nil => rfl
  | cons i l ih =>
    unfold clearLatches
    (repeat' split) <;> simp [ih]

@[simp] theorem doAckTower_phone (n p : Nat) : (doAckTower n p s).1.phone = s.phone := by
  unfold doAckTower
  (repeat' split) <;> simp

/-! ### Run control (chapter 1) -/

/-- The transitions with what the berths, the towers and the track add (R3, R5, R7). -/
@[simp] theorem runEntries_phone :
    (enterParked s).phone = s.phone ∧ (enterWaking s).phone = s.phone ∧ (enterRunning s).phone = s.phone := by
  simp [enterParked, enterWaking, enterRunning]

@[simp] theorem runRequests_phone :
    (doWake s).1.phone = s.phone ∧ (doPark s).1.phone = s.phone ∧ (doRun s).1.phone = s.phone ∧
    (doStop s).1.phone = s.phone ∧ (doResetTrip s).1.phone = s.phone := by
  simp only [doWake, doPark, doRun, doStop, doResetTrip]
  refine ⟨?_, ?_, ?_, ?_, ?_⟩ <;> (repeat' split) <;> simp

@[simp] theorem doClearStop_phone (n : Nat) : (doClearStop n s).1.phone = s.phone := by
  unfold doClearStop clearSource
  (repeat' split) <;> simp

@[simp] theorem stopInputs_phone (b : Bool) :
    (platformInput b s).phone = s.phone ∧ (loopInput b s).phone = s.phone := by
  simp only [platformInput, loopInput]
  refine ⟨?_, ?_⟩ <;> (repeat' split) <;> simp

/-! ### The speed governor (chapter 2) -/

@[simp] theorem encoderPulse_phone (b : Bool) : (encoderPulse b s).phone = s.phone := by
  cases b <;> rfl

@[simp] theorem windowResult_phone : (windowResult s).phone = s.phone := by
  simp only [windowResult, ropeAtRest]
  (repeat' split) <;> simp

@[simp] theorem offerTarget_phone (old : Nat) : (offerTarget old s).phone = s.phone := by
  unfold offerTarget
  split <;> simp

@[simp] theorem driveExchange_phone : (driveExchange s).phone = s.phone := by
  unfold driveExchange
  split <;> simp

@[simp] theorem windowEnd_phone : (windowEnd s).phone = s.phone := by
  simp only [windowEnd, travelUpdate]
  split <;> simp

/-- The last counts of the thresholds, as events of their own (R10, R25, R27, R35). -/
@[simp] theorem lastCounts_phone :
    (overspeedReached s).phone = s.phone ∧ (encoderLossReached s).phone = s.phone ∧
    (quietReached s).phone = s.phone ∧ (missedReached s).phone = s.phone := by
  simp only [overspeedReached, encoderLossReached, quietReached, missedReached, ropeAtRest]
  refine ⟨?_, ?_, ?_, ?_⟩ <;> split <;> simp

@[simp] theorem driveRecord_phone (record : List Byte) : (driveRecord record s).phone = s.phone := by
  simp only [driveRecord, takeStatus]
  (repeat' split) <;> simp

@[simp] theorem enterBand_phone (g : Governor) : (enterBand g s).phone = s.phone := by
  simp only [enterBand]
  split <;> simp

@[simp] theorem takeWind_phone (w : Option Nat) : (takeWind w s).phone = s.phone := by
  simp only [takeWind, takeReading]
  (repeat' split) <;> simp

@[simp] theorem holdExpired_phone : (holdExpired s).phone = s.phone := by
  simp only [holdExpired]
  split <;> simp

@[simp] theorem doSetGovernor_phone (g : GovernorSettings) : (doSetGovernor g s).1.phone = s.phone := by
  simp only [doSetGovernor]
  (repeat' split) <;> simp

@[simp] theorem doSetSpeed_phone (v : Nat) : (doSetSpeed v s).1.phone = s.phone := by simp [doSetSpeed]

@[simp] theorem doSetWind_phone (bands : List (Nat × Nat)) (k hold : Nat) :
    (doSetWind bands k hold s).1.phone = s.phone := by
  simp only [doSetWind]
  (repeat' split) <;> simp

/-! ### The summit line (chapter 8) -/

@[simp] theorem startNext_phone : (startNext s).phone = s.phone := by
  simp only [startNext, startBeatFrame, startVoiceFrame, startControlFrame]
  (repeat' split) <;> simp

/-- The transmitter of the summit line (R162 to R165). -/
@[simp] theorem transmitter_phone :
    (flagSent s).phone = s.phone ∧ (frameSent s).phone = s.phone ∧ (abortSent s).phone = s.phone ∧
    (beatExpired s).phone = s.phone := by
  simp only [flagSent, frameSent, abortSent, beatExpired]
  refine ⟨?_, ?_, ?_, ?_⟩ <;> (repeat' split) <;> simp

@[simp] theorem offerLineIf_phone (l : LineSnapshot) : (offerLineIf l s).phone = s.phone := by
  unfold offerLineIf
  split <;> simp

@[simp] theorem gapTest_phone (n : Nat) : (gapTest n s).phone = s.phone := by
  have offered (k : Nat) (t : State) : (offerMissed k t).phone = t.phone := by
    induction k generalizing t with
    | zero => rfl
    | succ k ih => simp [offerMissed, ih]
  simp only [gapTest]
  split <;> simp [offered]

@[simp] theorem heardBeat_phone (n : Nat) : (heardBeat n s).phone = s.phone := by
  simp only [heardBeat]
  split <;> simp

@[simp] theorem summitBeat_phone (b : BeatFields) : (summitBeat b s).phone = s.phone := by
  simp only [summitBeat, takeFields, beatDemands]
  (repeat' split) <;> simp

@[simp] theorem supervisionExpired_phone : (supervisionExpired s).phone = s.phone := by
  simp only [supervisionExpired, missAction, pauseWind]
  (repeat' split) <;> simp

@[simp] theorem passage_phone (departing : Bool) (n metres : Nat) : (passage departing n metres s).phone = s.phone := by
  cases departing <;> simp [passage]

@[simp] theorem frameError_phone (e : FrameFault) : (frameError e s).phone = s.phone := by
  cases e <;> simp [frameError]

@[simp] theorem offerNotice_phone : (offerNotice s).phone = s.phone := by
  unfold offerNotice
  split <;> simp

@[simp] theorem takeNotice_phone (text : List Byte) : (takeNotice text s).phone = s.phone := by
  rw [takeNotice_eq]
  split <;> simp

@[simp] theorem reportSent_phone (wasNotice : Bool) : (reportSent wasNotice s).phone = s.phone := by
  unfold reportSent
  (repeat' split) <;> simp

@[simp] theorem doSendNotice_phone (text : List Byte) : (doSendNotice text s).1.phone = s.phone := by
  unfold doSendNotice
  (repeat' split) <;> simp

/-! ### The receiver of the summit line (R158 to R161) -/

@[simp] theorem flagExpired_phone : (flagExpired s).phone = s.phone := by
  simp only [flagExpired]
  split <;> simp

@[simp] theorem abortReceived_phone : (abortReceived s).phone = s.phone := by
  simp only [abortReceived]
  (repeat' split) <;> simp

@[simp] theorem bodyBits_phone (bits : List Bool) : (bodyBits bits s).phone = s.phone := by
  have received (t : State) : (receiveBits bits t).phone = t.phone := by
    unfold receiveBits
    split <;> simp
  unfold bodyBits
  (repeat' split) <;> simp [received]

/-! ### The desk link's own requests and messages (chapter 10) -/

@[simp] theorem doReleaseReports_phone (n : Nat) : (doReleaseReports n s).1.phone = s.phone := by
  simp only [doReleaseReports, unlatchGovernor, unlatchTower, unlatchLine, unlatchBerth]
  (repeat' split) <;> simp

@[simp] theorem garbled_phone (c : GarbledCause) : (garbled c s).phone = s.phone := by simp [garbled]

@[simp] theorem gapTimerExpired_phone : (gapTimerExpired s).phone = s.phone := by
  unfold gapTimerExpired
  split <;> simp

end

end Sys2Proof.Machine
end

section
/-! SUPPORT. The playout queue around Talking (R185): every command leaves the call unit with its playout emptied, or on
the same side of Talking; then the statement. -/

namespace Sys2Proof.Machine

open Config

/-! ### What an operation can do to the playout -/

/-- What R185 empties: the playout queue, its mode, the reference, the last block played and the concealment step. -/
def CallUnit.playoutFields (c : CallUnit) :
    List PlayoutBlock × PlayoutMode × Option Nat × Option (List Byte) × Nat :=
  (c.queue, c.mode, c.reference, c.last, c.concealStep)

def CallUnit.PlayoutEmpty (c : CallUnit) : Prop := c.playoutFields = ([], .buffering, none, none, 0)

/-- The playout has been emptied, or it stands as it stood, on the same side of Talking: what an operation that takes no
Voice frame and ends no block period can do. -/
def CallUnit.Moves (c d : CallUnit) : Prop :=
  d.PlayoutEmpty ∨ d.playoutFields = c.playoutFields ∧ (c.state = .talking ↔ d.state = .talking)

/-- The playout has been emptied, or the call unit is on the same side of Talking and outside it the queue stands: what
every command can do. -/
def CallUnit.Follows (c d : CallUnit) : Prop :=
  d.PlayoutEmpty ∨ (c.state = .talking ↔ d.state = .talking) ∧ (d.state ≠ .talking → d.queue = c.queue)

section
variable {c d e : CallUnit}

theorem CallUnit.emptied_playoutEmpty (c : CallUnit) : c.emptied.PlayoutEmpty := rfl

theorem CallUnit.Moves.of_eq (h : d = c) : c.Moves d := by
  subst h
  exact .inr ⟨rfl, .rfl⟩

theorem CallUnit.Moves.trans (h : c.Moves d) (k : d.Moves e) : c.Moves e := by
  rcases k with kempty | ⟨ksame, ktalk⟩
  · exact .inl kempty
  · rcases h with hempty | ⟨hsame, htalk⟩
    · exact .inl (ksame.trans hempty)
    · exact .inr ⟨ksame.trans hsame, htalk.trans ktalk⟩

/-- A change between two call states outside Talking that leaves the playout. -/
theorem CallUnit.Moves.outside (hfields : d.playoutFields = c.playoutFields) (hc : c.state ≠ .talking)
    (hd : d.state ≠ .talking) : c.Moves d :=
  .inr ⟨hfields, by simp [hc, hd]⟩

theorem CallUnit.Moves.follows (h : c.Moves d) : c.Follows d := by
  rcases h with hempty | ⟨hsame, htalk⟩
  · exact .inl hempty
  · exact .inr ⟨htalk, fun _ => congrArg Prod.fst hsame⟩

/-- A change that leaves the call state, and in a call state other than Talking the queue. -/
theorem CallUnit.Follows.of_state (hstate : d.state = c.state) (hqueue : c.state ≠ .talking → d.queue = c.queue) :
    c.Follows d :=
  .inr ⟨by rw [hstate], fun h => hqueue (hstate ▸ h)⟩

end

/-! ### Calls (R177 to R181) -/

section
variable (s : State)

theorem enterTalking_moves (c : CallUnit) (id : Nat) (how : CallEvent) : c.Moves (enterTalking id how s).phone := by
  rw [enterTalking_phone]
  exact .inl s.phone.emptied_playoutEmpty

theorem enterIdle_moves (c : CallUnit) (cause : CallEvent) : c.Moves (enterIdle cause s).phone := by
  rw [enterIdle_phone]
  exact .inl s.phone.emptied_playoutEmpty

theorem sendSignal_moves (sig : Signal) (id : Nat) : s.phone.Moves (sendSignal sig id s).phone := .of_eq (by simp)

variable {s} in
theorem ringIn_moves (id : Nat) (h : s.phone.state ≠ .talking) : s.phone.Moves (ringIn id s).phone := by
  rw [ringIn_phone]
  exact .outside rfl h (by simp)

theorem doCall_moves : s.phone.Moves (doCall s).1.phone := by
  by_cases hidle : s.phone.state = .idle
  · rw [doCall_of_idle hidle, sendSignal_phone]
    exact .outside rfl (by simp [hidle]) (by simp [CallUnit.called])
  · rw [doCall_of_busy hidle]
    exact .of_eq rfl

theorem doAnswer_moves : s.phone.Moves (doAnswer s).1.phone := by
  unfold doAnswer
  split
  · exact enterTalking_moves _ _ _ _
  · exact .of_eq rfl

theorem doHangUp_moves : s.phone.Moves (doHangUp s).1.phone := by
  unfold doHangUp
  split
  · exact .of_eq rfl
  · exact enterIdle_moves _ _ _

theorem ringSignal_moves (id : Nat) : s.phone.Moves (ringSignal id s).phone := by
  cases hstate : s.phone.state with
  | idle =>
    rw [ringSignal_of_idle hstate]
    exact ringIn_moves id (by simp [hstate])
  | calling =>
    simp only [ringSignal, hstate]
    exact enterTalking_moves _ _ _ _
  | ringing =>
    rw [ringSignal_of_ringing hstate]
    split
    · exact .outside rfl (by simp [hstate]) (by simp [hstate])
    · exact ringIn_moves id (by simp [hstate])
  | talking =>
    rw [ringSignal_of_talking hstate]
    exact sendSignal_moves s _ id

theorem answerSignal_moves (id : Nat) : s.phone.Moves (answerSignal id s).phone := by
  unfold answerSignal
  split
  · split
    · exact enterTalking_moves _ _ _ _
    · exact .of_eq rfl
    · exact sendSignal_moves s _ id
  · exact sendSignal_moves s _ id

theorem clearSignal_moves (id : Nat) : s.phone.Moves (clearSignal id s).phone := by
  unfold clearSignal
  split
  · exact enterIdle_moves _ _ _
  · exact .of_eq rfl

theorem callSignal_moves (sig : Signal) (id : Nat) : s.phone.Moves (callSignal sig id s).phone := by
  cases sig with
  | ring => exact ringSignal_moves (signalCounted s) id
  | answer => exact answerSignal_moves (signalCounted s) id
  | clear => exact clearSignal_moves (signalCounted s) id

theorem ringAgain_moves : s.phone.Moves (ringAgain s).phone := by
  unfold ringAgain
  split
  · rename_i hstate _
    rw [sendSignal_phone]
    exact .outside rfl (by simp [hstate]) (by simp [hstate])
  · exact .of_eq rfl

theorem ringExpired_moves : s.phone.Moves (ringExpired s).phone := by
  unfold ringExpired
  split
  · exact enterIdle_moves _ _ _
  · exact .of_eq rfl

theorem ringStopped_moves : s.phone.Moves (ringStopped s).phone := by
  unfold ringStopped
  split
  · exact enterIdle_moves _ _ _
  · exact .of_eq rfl

theorem callLost_moves : s.phone.Moves (callLost s).phone := by
  unfold callLost
  split
  · exact enterIdle_moves _ _ _
  · exact .of_eq rfl

/-! ### Voice and the block period (R182 to R184) -/

theorem CallUnit.takeVoice_state (c : CallUnit) (id : Nat) (b : PlayoutBlock) : (c.takeVoice id b).state = c.state := by
  simp only [CallUnit.takeVoice, CallUnit.takeBlock, CallUnit.enqueue]
  (repeat' split) <;> rfl

theorem voice_follows (id n : Nat) (block : List Byte) : s.phone.Follows (voice id n block s).phone := by
  refine .of_state (s.phone.takeVoice_state id ⟨n, block⟩) fun h => ?_
  simp [voice, CallUnit.takeVoice, h]

theorem conceal_state (n : Nat) : (conceal n s).phone.state = s.phone.state := by simp [conceal]

theorem playing_state : (playing s).phone.state = s.phone.state := by
  simp only [playing]
  (repeat' split) <;> simp [conceal_state]

theorem playout_state : (playout s).phone.state = s.phone.state := by
  simp only [playout]
  (repeat' split) <;> simp [playing_state]

theorem blockPeriod_follows (captured : List Byte) : s.phone.Follows (blockPeriod captured s).phone := by
  simp only [blockPeriod]
  split
  · rename_i htalking
    exact .of_state (by simp [playout_state, sendBlock]) fun h => absurd htalking h
  · exact .of_state rfl fun _ => rfl

/-! ### Frames of the summit line (R161) -/

theorem takeReceived_follows (r : Received) : s.phone.Follows (takeReceived r s).phone := by
  cases r with
  | bad e => exact (CallUnit.Moves.of_eq (frameError_phone s e)).follows
  | elsewhere => exact (CallUnit.Moves.of_eq rfl).follows
  | beat b => exact (CallUnit.Moves.of_eq (summitBeat_phone s b)).follows
  | passage departing n metres => exact (CallUnit.Moves.of_eq (passage_phone s departing n metres)).follows
  | callSignal sig id => exact (callSignal_moves s sig id).follows
  | voice id n block => exact voice_follows s id n block
  | notice text => exact (CallUnit.Moves.of_eq (takeNotice_phone s text)).follows

theorem flagReceived_follows : s.phone.Follows (flagReceived s).phone := by
  simp only [flagReceived]
  split
  · exact (CallUnit.Moves.of_eq (by simp)).follows
  · exact takeReceived_follows (receiverTo .idle { s with line := { s.line with flagTimer := flagMs } }) _
  · exact (CallUnit.Moves.of_eq rfl).follows

/-! ### The desk link (chapter 10) -/

/-- Of the requests only Call, Answer and HangUp move the call unit (R178, Table 10-2). -/
theorem perform_moves (r : Request) : s.phone.Moves (perform r s).1.phone := by
  cases r
  case call => exact doCall_moves s
  case answer => exact doAnswer_moves s
  case hangUp => exact doHangUp_moves s
  case restart =>
    refine .of_eq ?_
    simp only [perform]
    split <;> simp
  all_goals exact .of_eq (by simp [perform, answerRead])

theorem takeRequest_moves (tag : Byte) (r : Request) : s.phone.Moves (takeRequest tag r s).phone := by
  simpa [takeRequest] using perform_moves s r

theorem dispatch_moves (n : Nat) : s.phone.Moves (dispatch n s).phone := by
  induction n generalizing s with
  | zero => exact .of_eq rfl
  | succ n ih =>
    unfold dispatch
    split
    · split
      · exact .of_eq rfl
      · rename_i tag r rest _
        exact (takeRequest_moves (s.withDesk fun d => { d with inbox := rest }) tag r).trans (ih _)
    · exact .of_eq rfl

theorem submit_moves (tag : Byte) (r : Request) : s.phone.Moves (submit tag r s).phone := by
  unfold submit
  split
  · exact .of_eq (by simp)
  · split
    · exact .of_eq rfl
    · exact dispatch_moves (withWaiting tag r s) inboxMax

theorem takeMessage_moves (kind tag : Byte) (payload : List Byte) :
    s.phone.Moves (takeMessage kind tag payload s).phone := by
  unfold takeMessage
  split
  · exact .of_eq (by simp)
  · split
    · exact .of_eq rfl
    · exact submit_moves s tag _

theorem takeComplete_moves (bytes : List Byte) : s.phone.Moves (takeComplete bytes s).phone := by
  simp only [takeComplete]
  split
  · split
    · exact takeMessage_moves s _ _ _
    · exact .of_eq rfl
  · exact .of_eq (by simp)

theorem deskByte_moves (b : Byte) : s.phone.Moves (deskByte b s).phone := by
  simp only [deskByte, assemble]
  split
  · split
    · exact .of_eq rfl
    · exact .of_eq rfl
  · split
    · exact .of_eq rfl
    · split
      · exact .of_eq (by simp)
      · split
        · exact takeComplete_moves (s.withDesk fun d => { d with receiver := .waiting }) _
        · exact .of_eq rfl

/-- A reply that starts makes room for requests that wait in the inbox (R189). -/
theorem messageDue_moves : s.phone.Moves (messageDue s).phone := by
  simp only [messageDue, startRestartReply, startMessage]
  split
  · exact .of_eq rfl
  · split
    · split
      · exact .of_eq rfl
      · exact .of_eq rfl
    · split
      · exact .of_eq rfl
      · rename_i r rest _ _
        exact dispatch_moves (s.withDesk fun d => { d with replies := rest, transmit := some (.reply r) }) inboxMax
      · exact .of_eq rfl
      · exact .of_eq rfl

/-- Either start empties the playout (R186). -/
theorem powerOn_moves (c : CallUnit) : c.Moves (powerOn s).phone := .inl rfl

theorem restartDue_moves : s.phone.Moves (restartDue s).phone := by
  unfold restartDue
  split
  · exact .inl rfl
  · exact .of_eq rfl

theorem messageSent_moves : s.phone.Moves (messageSent s).phone := by
  unfold messageSent
  split
  · exact .of_eq rfl
  · exact restartDue_moves (s.withDesk fun d => { d with transmit := none })
  · exact .of_eq (by simp)

/-! ### The commands and the step -/

/-- Every command ends in a next state, with the playout emptied or the call unit on the same side of Talking. -/
theorem exec_follows (c : Instr) : ∃ t, exec c s = .next t ∧ s.phone.Follows t.phone := by
  cases c with
  | powerOn => exact ⟨_, rfl, (powerOn_moves s _).follows⟩
  | callSignal sig id => exact ⟨_, rfl, (callSignal_moves s sig id).follows⟩
  | voiceFrame id n block => exact ⟨_, rfl, voice_follows s id n block⟩
  | ringRepeat => exact ⟨_, rfl, (ringAgain_moves s).follows⟩
  | ringTimeout => exact ⟨_, rfl, (ringExpired_moves s).follows⟩
  | ringingGap => exact ⟨_, rfl, (ringStopped_moves s).follows⟩
  | voiceLoss => exact ⟨_, rfl, (callLost_moves s).follows⟩
  | blockPeriod captured => exact ⟨_, rfl, blockPeriod_follows s captured⟩
  | flagReceived => exact ⟨_, rfl, flagReceived_follows s⟩
  | deskMessage kind tag payload => exact ⟨_, rfl, (takeMessage_moves s kind tag payload).follows⟩
  | messageStart => exact ⟨_, rfl, (messageDue_moves s).follows⟩
  | messageSent => exact ⟨_, rfl, (messageSent_moves s).follows⟩
  | restartStart => exact ⟨_, rfl, (restartDue_moves s).follows⟩
  | deskByteReceived b => exact ⟨_, rfl, (deskByte_moves s b).follows⟩
  | wake | park | run | stop | resetTrip | clearStop | setGovernor | setSpeed | setWind | readGovernor | hold | release
  | renumber | mark | unmark | garage | inhibitLaunch | abandon | declare | setSpacing | setTrack | setGrip | readTrack
  | setBerth | setMotion | unlock | openDoors | closeDoors | lock | holdOpen | endDwell | reopen | skipCycle
  | clearFault | setMode | readBerths | removeCarrier | setGeometry | readRoster | setTower | setScan | ackTower
  | readTowers | setCounter | armCounter | readCounters | setWatch | clearHits | readWatches | sendNotice | readLine
  | call | answer | hangUp | releaseReports | restart | readStatus => exact ⟨_, rfl, (submit_moves s _ _).follows⟩
  | _ => exact ⟨_, rfl, (CallUnit.Moves.of_eq (by simp)).follows⟩

end

theorem CallUnit.tick_moves (c : CallUnit) : c.Moves c.tick := .inr ⟨rfl, .rfl⟩

theorem step_follows {s t : State} (hstep : step s = .next t) : s.phone.Follows t.phone := by
  unfold step at hstep
  split at hstep
  · obtain rfl := Host.Outcome.next.inj hstep
    exact s.phone.tick_moves.follows
  · rename_i c rest _
    obtain ⟨u, hu, follows⟩ := exec_follows { s with pending := rest } c
    obtain rfl := Host.Outcome.next.inj (hu.symm.trans hstep)
    exact follows

/-- Settles O14: a command that crosses into or out of Talking empties the playout, since one that does not empty it
stays on its side of Talking; outside Talking no step brings blocks into the queue. -/
theorem playoutIsEmptiedAroundTalking : Obligations.PlayoutIsEmptiedAroundTalking := by
  refine ⟨fun c s t hexec hcross => ?_, fun _ => rfl, fun s t hstep hs ht => ?_⟩
  · obtain ⟨u, hu, follows⟩ := exec_follows s c
    obtain rfl := Host.Outcome.next.inj (hu.symm.trans hexec)
    rcases follows with hempty | ⟨hside, -⟩
    · simpa [CallUnit.PlayoutEmpty, CallUnit.playoutFields] using hempty
    · exact absurd hside hcross
  · rcases step_follows hstep with hempty | ⟨hside, hqueue⟩
    · exact congrArg Prod.fst hempty
    · rw [hqueue ht, hs (mt hside.mp ht)]

end Sys2Proof.Machine
end

section
/-! SUPPORT. The family of the desk link: what a message in error leaves, the receiver byte by byte, and the tests of a
well-formed message; then the statement on both (R187, R188). -/

namespace Sys2Proof.Machine

open Config

/-! ### Messages in error (R187, R188) -/

/-- The count that an error of each cause raises. -/
def GarbledCause.count : GarbledCause → DeskCounts → Nat
  | .length => DeskCounts.length
  | .gap => DeskCounts.gap
  | .crc => DeskCounts.crc
  | .overrun => DeskCounts.overruns

section
variable (c : GarbledCause) (r : Report) (s : State)

/-- A lost report moves none of the counts of messages in error (R190). -/
theorem loseReport_count : c.count (loseReport r s).desk.counts = c.count s.desk.counts := by
  unfold loseReport
  split <;> cases c <;> rfl

theorem queueReport_count : c.count (queueReport r s).desk.counts = c.count s.desk.counts := by
  unfold queueReport
  split
  · split <;> rfl
  · split
    · split <;> exact loseReport_count c _ _
    · exact loseReport_count c r s

end

/-- What an error leaves: its count and its report, and of the desk link only the report queue has moved beside the
count. -/
structure ErrorCounted (c : GarbledCause) (s t : State) : Prop where
  count : c.count t.desk.counts = min (c.count s.desk.counts + 1) 65535
  report : s.desk.urgent.length + s.desk.others.length < 32 → .garbled c ∈ t.desk.others
  desk : DeskQuiet s t
  touches : Touches [.line, .desk] s t
  line : LineQuiet s t

theorem withDesk_touches (f : Desk → Desk) (s : State) : Touches [.desk] s (s.withDesk f) := by
  intro b hb
  cases b <;> simp at hb <;> simp [Block.kept]

theorem garbled_errorCounted (c : GarbledCause) (s : State) : ErrorCounted c s (garbled c s) where
  count := by
    unfold garbled
    rw [queueReport_count]
    cases c <;> rfl
  report := fun room => mem_others_queueReport rfl room
  desk := (queueReport_lineDesk _ _).1
  touches := ((withDesk_touches _ s).mono (by simp)).trans (queueReport_lineDesk _ _).2
  line := queueReport_lineQuiet _ _

/-- The receiver changes its state (R187). -/
def toReceiver (r : DeskReceiver) (s : State) : State := s.withDesk fun d => { d with receiver := r }

/-- A message that ends in an error is discarded: beside the count and the report, the receiver is in Waiting
(R187). -/
theorem garbled_discards (c : GarbledCause) (s : State) :
    ∃ t, (.next (garbled c (toReceiver .waiting s)) : Host.Outcome State Fault Refusal) = .next t ∧
      t.desk.receiver = .waiting ∧ c.count t.desk.counts = min (c.count s.desk.counts + 1) 65535 ∧
      (s.desk.urgent.length + s.desk.others.length < 32 → .garbled c ∈ t.desk.others) ∧
      t.desk.replies = s.desk.replies ∧ t.desk.inbox = s.desk.inbox ∧ Touches [.line, .desk] s t ∧ LineQuiet s t := by
  obtain ⟨count, report, ⟨receiver, inbox, replies, -, -⟩, touches, line⟩ :=
    garbled_errorCounted c (toReceiver .waiting s)
  exact ⟨_, rfl, receiver, count, report, replies, inbox, ((withDesk_touches _ s).mono (by simp)).trans touches, line⟩

/-! ### The receiver (R187) -/

theorem exec_deskByteReceived (b : Byte) (s : State) : exec (.deskByteReceived b) s = .next (deskByte b s) := rfl

theorem exec_gapTimer (s : State) : exec .gapTimer s = .next (gapTimerExpired s) := rfl

theorem exec_deskMessage (kind tag : Byte) (payload : List Byte) (s : State) :
    exec (.deskMessage kind tag payload) s = .next (takeMessage kind tag payload s) := rfl

theorem badLength_iff (b : Byte) : badLength b = true ↔ b.toNat < 2 ∨ 250 < b.toNat := by simp [badLength]

theorem badLength_of_legal {b : Byte} (h2 : 2 ≤ b.toNat) (h250 : b.toNat ≤ 250) : badLength b = false := by
  rw [Bool.eq_false_iff, ne_eq, badLength_iff]
  omega

section
variable {b : Byte} {s : State}

theorem deskByte_of_waiting (h : s.desk.receiver = .waiting) :
    deskByte b s = if b = 0xA7#8 then toReceiver (.assembling [] 5) s else s := by
  simp [deskByte, h, toReceiver, gapMs]

theorem deskByte_of_assembling {bytes : List Byte} {gap : Nat} (h : s.desk.receiver = .assembling bytes gap) :
    deskByte b s = assemble (bytes ++ [b]) s := by
  simp [deskByte, h]

theorem gapTimerExpired_of_waiting (h : s.desk.receiver = .waiting) : gapTimerExpired s = s := by
  simp [gapTimerExpired, h]

theorem gapTimerExpired_of_assembling {bytes : List Byte} {gap : Nat} (h : s.desk.receiver = .assembling bytes gap) :
    gapTimerExpired s = garbled .gap (toReceiver .waiting s) := by
  simp [gapTimerExpired, h, toReceiver]

end

section
variable {len : Byte} {rest : List Byte} (s : State)

theorem assemble_of_badLength (h : len.toNat < 2 ∨ 250 < len.toNat) :
    assemble (len :: rest) s = garbled .length (toReceiver .waiting s) := by
  simp [assemble, (badLength_iff len).mpr h, toReceiver]

variable (h2 : 2 ≤ len.toNat) (h250 : len.toNat ≤ 250)
include h2 h250

theorem assemble_of_short (short : rest.length < len.toNat + 2) :
    assemble (len :: rest) s = toReceiver (.assembling (len :: rest) 5) s := by
  have incomplete : rest.length ≠ len.toNat + 2 := by omega
  simp [assemble, badLength_of_legal h2 h250, incomplete, toReceiver, gapMs]

theorem assemble_of_complete (complete : rest.length = len.toNat + 2) :
    assemble (len :: rest) s = takeComplete (len :: rest) (toReceiver .waiting s) := by
  simp [assemble, badLength_of_legal h2 h250, complete, toReceiver]

end

/-- The last two bytes of a complete message are its CRC (R187). -/
theorem takeComplete_of_bad_crc {front : List Byte} {c1 c2 : Byte} (h : [c1, c2] ≠ crcHighFirst front) (s : State) :
    takeComplete (front ++ [c1, c2]) s = garbled .crc s := by
  simp [takeComplete, h]

theorem takeComplete_of_crc {len kind tag c1 c2 : Byte} {payload : List Byte}
    (h : [c1, c2] = crcHighFirst (len :: kind :: tag :: payload)) (s : State) :
    takeComplete (len :: kind :: tag :: payload ++ [c1, c2]) s = takeMessage kind tag payload s := by
  simp [takeComplete, ← h]

/-- The byte that completes a message: the message is tested for its CRC, in Waiting (R187). -/
theorem deskByte_of_complete {len c1 b : Byte} {bytes : List Byte} {gap : Nat} {s : State}
    (h : s.desk.receiver = .assembling (len :: bytes ++ [c1]) gap) (h2 : 2 ≤ len.toNat) (h250 : len.toNat ≤ 250)
    (complete : bytes.length = len.toNat) :
    deskByte b s = takeComplete (len :: bytes ++ [c1, b]) (toReceiver .waiting s) := by
  have joined : len :: bytes ++ [c1] ++ [b] = len :: (bytes ++ [c1, b]) := by simp
  rw [deskByte_of_assembling h, joined, assemble_of_complete s h2 h250 (by simp [complete])]
  rfl

/-! ### The kind of a decoded request (R188, R195) -/

/-- Each kind's decoder builds the request of that kind and no other. -/
theorem requestKind_of_payloadDecoder {kind : Nat} {f : List Byte → Option Request} {payload : List Byte}
    {r : Request} (hf : payloadDecoder kind = some f) (hr : f payload = some r) : requestKind r = kind := by
  unfold payloadDecoder at hf
  split at hf <;> cases hf
  all_goals
    simp only [noPayload, payload1, payload11, payload2, payload22, payloadGeometry, payloadGovernor, payloadWind,
      payloadBerth, payloadTrack, payloadTower, payloadCounter, payloadWatch, payloadInhibit, payloadCommand,
      payloadNotice] at hr
    (repeat' split at hr) <;> cases hr
    rfl

theorem decodeRequest_of_unknown {kind : Nat} {payload : List Byte} (h : payloadDecoder kind = none) :
    decodeRequest kind payload = .error .unknown := by
  simp [decodeRequest, h]

theorem decodeRequest_of_misfit {kind : Nat} {payload : List Byte} {f : List Byte → Option Request}
    (h : payloadDecoder kind = some f) (misfit : f payload = none) : decodeRequest kind payload = .error .length := by
  simp [decodeRequest, h, misfit]

theorem exists_payloadDecoder_of_decodeRequest {kind : Nat} {payload : List Byte} {r : Request}
    (h : decodeRequest kind payload = .ok r) : ∃ f, payloadDecoder kind = some f ∧ f payload = some r := by
  unfold decodeRequest at h
  split at h
  · cases h
  · rename_i f hf
    split at h <;> cases h
    rename_i hr
    exact ⟨f, hf, hr⟩

/-- A request decoded from a message bears the message's kind byte. -/
theorem byte_requestKind_of_decodeRequest {kind : Byte} {payload : List Byte} {r : Request}
    (h : decodeRequest kind.toNat payload = .ok r) : byte (requestKind r) = kind := by
  obtain ⟨f, hf, hr⟩ := exists_payloadDecoder_of_decodeRequest h
  rw [requestKind_of_payloadDecoder hf hr]
  simp [byte]

theorem nat2_byte2 {v : Nat} (h : v < 65536) : nat2 (byte (v / 256)) (byte v) = v := by
  simp only [nat2, byte, BitVec.toNat_ofNat]
  omega

theorem decodeRequest_setSpeed {v : Nat} (h : v < 65536) :
    decodeRequest (0x24#8).toNat (byte2 v) = .ok (.setSpeed v) := by
  simp [decodeRequest, payloadDecoder, payload2, byte2, nat2_byte2 h]

/-! ### A well-formed message (R188) -/

section
variable {kind tag : Byte} {payload : List Byte} {s : State}

theorem takeMessage_of_full (h : 8 ≤ s.desk.replies.length) :
    takeMessage kind tag payload s = garbled .overrun s := by
  simp [takeMessage, replyMax, h]

theorem takeMessage_of_error {reason : Reason} (room : s.desk.replies.length < 8)
    (h : decodeRequest kind.toNat payload = .error reason) :
    takeMessage kind tag payload s = refuseMessage tag kind reason s := by
  simp [takeMessage, replyMax, Nat.not_le.mpr room, h]

theorem takeMessage_of_ok {r : Request} (room : s.desk.replies.length < 8)
    (h : decodeRequest kind.toNat payload = .ok r) : takeMessage kind tag payload s = submit tag r s := by
  simp [takeMessage, replyMax, Nat.not_le.mpr room, h]

/-- A full inbox refuses the request FULL, under the kind that the message bore. -/
theorem submit_of_full_inbox {r : Request} (room : s.desk.replies.length < 8) (full : 4 ≤ s.desk.inbox.length) :
    submit tag r s = refuseMessage tag (byte (requestKind r)) .full
      (s.countDesk fun c => { c with refusedFull := satInc c.refusedFull }) := by
  simp [submit, replyMax, inboxMax, Nat.not_le.mpr room, full]

/-- After an accepted Restart a request joins the inbox and is not given (R189, R193). -/
theorem submit_of_restarting {r : Request} (room : s.desk.replies.length < 8) (place : s.desk.inbox.length < 4)
    (restarting : s.desk.restart ≠ .none) : submit tag r s = withWaiting tag r s := by
  have held : mayDispatch (withWaiting tag r s) = false := by simp [mayDispatch, withWaiting, restarting]
  rw [submit_of_room tag r room place]
  simp [inboxMax, dispatch, held]

end

/-! ### The statement on the receiver and the message -/

/-- Settles O57: each byte by the receiver's state and what it has assembled, the gap timer, and a well-formed message
by the first test of R188 that it fails; a request decoded from a message is of the message's kind, so that its refusal
FULL bears that kind. -/
theorem deskBytesAndMessagesAreSorted : Obligations.DeskBytesAndMessagesAreSorted := by
  refine ⟨fun b s => ⟨fun hw hb => ?_, fun hw hb => ?_, fun gap hr bad => ?_, fun gap hr h2 h250 => ?_,
    fun len bytes gap hr h2 h250 short => ?_, fun len bytes c1 gap hr h2 h250 complete => ⟨fun bad => ?_,
      fun kind tag payload good hbytes => ?_⟩, fun bytes gap hr => ?_, fun hw => ?_⟩,
    fun kind tag payload s => ⟨fun full => ?_, fun room unknown => ?_, fun f room hf misfit => ?_,
      fun r room decoded full => ?_, fun r room decoded place restarting => ?_, fun v free hkind hpayload hv => ?_⟩⟩
  · rw [exec_deskByteReceived, deskByte_of_waiting hw, if_neg hb]
  · rw [exec_deskByteReceived, deskByte_of_waiting hw, if_pos hb]
    rfl
  · rw [exec_deskByteReceived, deskByte_of_assembling hr, List.nil_append, assemble_of_badLength s bad]
    exact garbled_discards .length s
  · rw [exec_deskByteReceived, deskByte_of_assembling hr, List.nil_append, assemble_of_short s h2 h250 (by simp)]
    rfl
  · have joined : (bytes ++ [b]).length < len.toNat + 2 := by
      rw [List.length_append, List.length_singleton]
      omega
    rw [exec_deskByteReceived, deskByte_of_assembling hr]
    exact congrArg Host.Outcome.next (assemble_of_short s h2 h250 joined)
  · rw [exec_deskByteReceived, deskByte_of_complete hr h2 h250 complete, takeComplete_of_bad_crc bad]
    exact garbled_discards .crc s
  · subst hbytes
    rw [exec_deskByteReceived, deskByte_of_complete hr h2 h250 complete, takeComplete_of_crc good]
    rfl
  · rw [exec_gapTimer, gapTimerExpired_of_assembling hr]
    exact garbled_discards .gap s
  · rw [exec_gapTimer, gapTimerExpired_of_waiting hw]
  · obtain ⟨count, -, ⟨-, inbox, replies, -, -⟩, touches, line⟩ := garbled_errorCounted .overrun s
    rw [exec_deskMessage, takeMessage_of_full full]
    exact ⟨_, rfl, count, inbox, replies, touches, line⟩
  · rw [exec_deskMessage, takeMessage_of_error room (decodeRequest_of_unknown unknown)]
    rfl
  · rw [exec_deskMessage, takeMessage_of_error room (decodeRequest_of_misfit hf misfit)]
    rfl
  · rw [exec_deskMessage, takeMessage_of_ok room decoded, submit_of_full_inbox room full,
      byte_requestKind_of_decodeRequest decoded]
    rfl
  · rw [exec_deskMessage, takeMessage_of_ok room decoded, submit_of_restarting room place restarting]
    rfl
  · obtain ⟨-, room, -⟩ := free
    subst hkind hpayload
    rw [exec_deskMessage, takeMessage_of_ok room (decodeRequest_setSpeed hv)]
    rfl

end Sys2Proof.Machine
end

section
/-! SUPPORT. The promises of Sys2Proof/Safety.lean, as they stand on a core of the state: what each promise reads of the
eleven blocks, and nothing else. A relation on cores lists the moves that the operations of the blocks make there, each
with the condition under which its operation makes it; every promise is an invariant of that relation, one induction
each. That the operations make no other moves is shown after this file, once for all promises. -/

namespace Sys2Proof.Machine

open Config

/-! ### The core of a state -/

/-- What the uniqueness of numbers reads of a record: its number, and whether it is marked Duplicate (R70). -/
def CarrierRec.key (r : CarrierRec) : Nat × Bool := (r.number, decide (Mark.duplicate ∈ r.marks))

/-- What the promises read of a slot: its address, its coordinate, and whether it calls for the Tower ceiling. -/
def Slot.key (x : Slot) : Option Nat × Nat × Bool := (x.address, x.coord, x.slows)

/-- A counter's setup with its Alarm, the rest of its runtime state left out. -/
def Counter.setup (c : Counter) : Counter := { c with value := 0, frozen := false, expiries := 0, sample := none }

/-- What the promises read of a berth's doors: its state, and whether it holds a motion grant. -/
def Berth.door (b : Berth) : BerthState × Bool := (b.state, b.grant)

/-- What the promises read of the state. Queues stand as their lengths and records as their keys. -/
structure Core where
  state : RunState
  demands : List Source
  quiet : Nat
  reference : Nat
  settings : GovernorSettings
  desk : Nat
  wind : WindConfig
  band : Nat
  lineOn : Bool
  towerOn : Bool
  trackOn : Bool
  counterOn : Bool
  watchOn : Bool
  buffer : List (Nat × Bool)
  places : Quad (Option (Nat × Bool))
  launchBerth : Option (Nat × Bool)
  launch : Option (Nat × Bool)
  records : List (Nat × Bool)
  step : Bool
  indexCommand : Bool
  launchCommand : Bool
  track : TrackSettings
  doors : Quad (BerthState × Bool)
  occupied : Quad Bool
  berths : Quad BerthSettings
  wait : List (Idx4 × Motion)
  gap : Nat
  geometry : Nat × Nat × Nat
  slots : List (Option Nat × Nat × Bool)
  deadline : Nat
  counters : Quad Counter
  windows : Quad (Nat × Nat)
  watchSlow : Bool
  stopClass : StopClass
  late : Bool
  voice : Nat
  control : Nat
  bulk : Nat
  notices : Nat
  inbox : Nat
  replies : Nat
  reports : Nat
  callState : CallState
  callId : Option Nat
  playout : Nat

def State.core (s : State) : Core :=
  { state := s.run.state, demands := s.run.demands, quiet := s.run.quiet, reference := s.gov.reference,
    settings := s.gov.settings, desk := s.gov.desk, wind := s.gov.wind, band := s.gov.band,
    lineOn := s.gov.lineCeiling, towerOn := s.gov.towerCeiling, trackOn := s.gov.trackCeiling,
    counterOn := s.gov.counterCeiling, watchOn := s.gov.watchCeiling, buffer := s.track.buffer.map CarrierRec.key,
    places := s.track.berths.map (Option.map CarrierRec.key),
    launchBerth := s.track.launchBerth.map CarrierRec.key, launch := s.track.launch.map CarrierRec.key,
    records := s.roster.records.map fun r => r.carrier.key, step := s.track.step.isSome,
    indexCommand := s.track.indexCommand, launchCommand := s.track.launchCommand, track := s.track.settings,
    doors := s.berths.map Berth.door, occupied := s.berths.map Berth.occupied, berths := s.berths.map Berth.settings,
    wait := s.supply.wait, gap := s.supply.gap, geometry := (s.roster.lUp, s.roster.lDown, s.roster.slack),
    slots := s.scanner.slots.map Slot.key, deadline := s.scanner.deadline,
    counters := s.counters.units.map Counter.setup,
    windows := s.watches.units.map fun w => (w.base, w.size), watchSlow := s.watches.slow,
    stopClass := s.line.stopClass, late := decide (2 ≤ s.line.miss), voice := s.line.voice.length,
    control := s.line.control.length, bulk := s.line.bulk.length, notices := s.line.inbox.length,
    inbox := s.desk.inbox.length, replies := s.desk.replies.length,
    reports := s.desk.urgent.length + s.desk.others.length, callState := s.phone.state, callId := s.phone.id,
    playout := s.phone.queue.length }

/-! ### The promises on cores -/

namespace Core

def DemandsObeyed (c : Core) : Prop :=
  ((c.state = .starting ∨ c.state = .running) → c.demands = []) ∧
    (stopClassOf c.demands = .emergency → c.state = .tripped ∨ c.state = .parked ∨ c.state = .waking)

def QuietCounted (c : Core) : Prop := c.quiet < quietWindows ∧ (c.state ≠ .stopping → c.quiet = 0)

def ReferenceBounded (c : Core) : Prop :=
  c.reference ≤ c.settings.max ∧ (runMoves c.state = false → c.reference = 0)

def PlacesBounded (c : Core) : Prop :=
  c.buffer.length ≤ bufferPlaces ∧ c.records.length + (if c.launch.isSome then 1 else 0) ≤ rosterMax

def LineBounded (c : Core) : Prop :=
  c.voice ≤ voiceQueue ∧ c.control ≤ controlQueue ∧ c.bulk ≤ bulkQueue ∧ c.notices ≤ noticeInbox

def DeskBounded (c : Core) : Prop := c.inbox ≤ inboxMax ∧ c.replies ≤ replyMax ∧ c.reports ≤ reportMax

def CallHeld (c : Core) : Prop :=
  (c.callId.isSome = true ↔ c.callState ≠ .idle) ∧ (c.callState ≠ .talking → c.playout = 0)

def TableSound (c : Core) : Prop := c.slots.length = towerSlots ∧ (c.slots.filterMap Prod.fst).Nodup

/-- The Counter ceiling's condition (R145). -/
def slowCounters (q : Quad Counter) : Bool := Idx4.all.any fun i => decide ((q.get i).action = .slow) && (q.get i).alarm

def TowerTrue (c : Core) : Prop := c.towerOn = c.slots.any fun x => x.2.2

/-- The Track ceiling's condition, at a buffer count (R54). -/
def TrackAt (n : Nat) (c : Core) : Prop := 3 ≤ c.track.slow ∧ c.trackOn = decide (c.track.slow ≤ n)

def OwnCeilings (c : Core) : Prop :=
  c.lineOn = c.late ∧ c.counterOn = slowCounters c.counters ∧ c.watchOn = c.watchSlow

def ClassTold (c : Core) : Prop := c.stopClass = stopClassOf c.demands

def OutputsTrue (c : Core) : Prop :=
  c.indexCommand = c.step ∧ c.launchCommand = c.launch.isSome ∧ ∀ i, c.occupied.get i = (c.places.get i).isSome

/-- The keys of every record, in the order of `placed`. -/
def keys (c : Core) : List (Nat × Bool) :=
  c.buffer ++ Idx4.all.filterMap c.places.get ++ c.launchBerth.toList ++ c.launch.toList ++ c.records

/-- The numbers other than 0 among keys that are not marked Duplicate. -/
def plain (l : List (Nat × Bool)) : List Nat := l.filterMap fun k => if k.1 = 0 ∨ k.2 = true then none else some k.1

def NumbersUnique (c : Core) : Prop := (plain c.keys).Nodup

def GovernorLegal (c : Core) : Prop :=
  settingsInRange c.settings = true ∧ (50 ≤ c.desk ∧ c.desk ≤ c.settings.max) ∧
    (c.wind.legal ∧ c.band ≤ c.wind.bands.length)

def legalSlot (k : Option Nat × Nat × Bool) : Prop := (∀ a ∈ k.1, 1 ≤ a ∧ a ≤ 63) ∧ k.2.1 ≤ 18000

def legalWindow (w : Nat × Nat) : Prop := w.1 ≤ 18000 ∧ (w.2 = 16 ∨ w.2 = 64 ∨ w.2 = 256 ∨ w.2 = 1024)

def BlocksLegal (c : Core) : Prop :=
  c.track.legal ∧ (∀ i, (c.berths.get i).legal) ∧ c.gap ≤ 2000 ∧
    ((500 ≤ c.geometry.1 ∧ c.geometry.1 ≤ 9000) ∧ (500 ≤ c.geometry.2.1 ∧ c.geometry.2.1 ≤ 9000) ∧
      (10 ≤ c.geometry.2.2 ∧ c.geometry.2.2 ≤ 500)) ∧
    (200 ≤ c.deadline ∧ c.deadline ≤ 2000) ∧ (∀ k ∈ c.slots, legalSlot k) ∧ (∀ i, (c.counters.get i).legal i) ∧
    ∀ i, legalWindow (c.windows.get i)

def grantSound (d : BerthState × Bool) : Prop :=
  (d.1 = .opening ∨ d.1 = .closing → d.2 = true) ∧ (d.2 = true → d.1 = .opening ∨ d.1 = .closing ∨ d.1 = .homing)

def holders (c : Core) : List Idx4 := Idx4.all.filter fun i => (c.doors.get i).2

def DoorsSound (c : Core) : Prop :=
  c.holders.length ≤ grants ∧ (∀ i, grantSound (c.doors.get i)) ∧ (c.wait.map Prod.fst).Nodup ∧
    (∀ e ∈ c.wait, (c.doors.get e.1).2 = false ∧ e.2.suits (c.doors.get e.1).1 = true) ∧
    (c.step = true → ∀ i, (c.doors.get i).1 = .locked)

end Core

/-! ### A promise on the state is one on its core -/

section
variable (s : State)

theorem demandsObeyed_core : DemandsObeyed s ↔ s.core.DemandsObeyed := .rfl

theorem quietCounted_core : QuietCounted s ↔ s.core.QuietCounted := .rfl

theorem referenceBounded_core : ReferenceBounded s ↔ s.core.ReferenceBounded := .rfl

theorem placesBounded_core : PlacesBounded s ↔ s.core.PlacesBounded := by
  simp [PlacesBounded, Core.PlacesBounded, State.core]

theorem queuesBounded_core : QueuesBounded s ↔
    s.core.DeskBounded ∧ s.core.LineBounded ∧ s.core.playout ≤ playoutMax := by
  simp only [QueuesBounded, Core.DeskBounded, Core.LineBounded, State.core]
  tauto

theorem callHeld_core : CallHeld s ↔ s.core.CallHeld := by
  simp [CallHeld, Core.CallHeld, State.core]

theorem tableSound_core : TableSound s ↔ s.core.TableSound := by
  simp [TableSound, Core.TableSound, State.core, List.filterMap_map, Function.comp_def, Slot.key]

theorem slowCounters_core : Core.slowCounters s.core.counters = s.counters.slow := by
  simp [Core.slowCounters, State.core, Counters.slow, Counter.setup]

theorem ceilingsTrue_core : CeilingsTrue s ↔
    s.core.TowerTrue ∧ s.core.TrackAt s.core.buffer.length ∧ s.core.OwnCeilings := by
  simp only [CeilingsTrue, Core.TowerTrue, Core.TrackAt, Core.OwnCeilings, slowCounters_core]
  simp only [State.core, List.length_map, List.any_map, Function.comp_def, Slot.key]
  tauto

theorem noticesTrue_core : NoticesTrue s ↔ s.core.ClassTold ∧ s.core.OutputsTrue := by
  simp [NoticesTrue, Core.ClassTold, Core.OutputsTrue, State.core, State.berth_eq]

theorem placed_keys : s.core.keys = (placed s).map fun p => p.2.key := by
  have berths : (Idx4.all.filterMap s.core.places.get) =
      (Idx4.all.filterMap fun i => (s.track.berths.get i).map fun r => (Place.berth i, r)).map fun p => p.2.key := by
    rw [List.map_filterMap]
    congr 1
    funext i
    cases h : s.track.berths.get i <;> simp [State.core, h]
  simp only [Core.keys, berths, placed, List.map_append, List.map_map, Function.comp_def]
  simp only [State.core, Option.toList_map]

theorem numbersUnique_core : NumbersUnique s ↔ s.core.NumbersUnique := by
  unfold NumbersUnique Core.NumbersUnique Core.plain plainNumbers
  rw [placed_keys, List.filterMap_map]
  simp [Function.comp_def, CarrierRec.key]

theorem settingsLegal_core : SettingsLegal s ↔ s.core.GovernorLegal ∧ s.core.BlocksLegal := by
  have counters : ∀ i, (s.counter i).legal i ↔ (s.core.counters.get i).legal i := by
    intro i
    simp [State.core, State.counter_eq, Counter.setup, Counter.legal]
  simp only [SettingsLegal, Core.GovernorLegal, Core.BlocksLegal, counters]
  simp only [State.core, State.berth_eq, Quad.get_map, List.forall_mem_map, Slot.legal, Core.legalSlot, Slot.key,
    Watch.legal, Core.legalWindow]
  tauto

theorem doorsSound_core : DoorsSound s ↔ s.core.DoorsSound := by
  simp [DoorsSound, Core.DoorsSound, Core.holders, Core.grantSound, State.core, State.berth_eq, grantHolders,
    Berth.grantSound, Berth.door]

end

/-! ### The moves -/

/-- What a path of moves may still owe at its end: a test of the Tower ceiling after slots have changed, a test of the
Track ceiling after the buffer's count has changed from the one given, the valley stop class after a demand. -/
structure Owed where
  tower : Bool := false
  buffer : Option Nat := none
  told : Bool := false

/-- The transitions that no demand brings: from which states, and with which demands, each is made (R3 to R7, R10,
R12). -/
def Core.admits (c : Core) : RunState → Prop
  | .starting => c.demands = []
  | .running => c.state = .starting
  | .waking => c.state = .parked
  | .stopped => c.state = .stopping ∨ stopClassOf c.demands ≠ .emergency
  | .tripped | .parked => True
  | .stopping => False

/-- The drive reference at a transition (R30, R31). -/
def entryReference : RunState → Nat → Nat
  | .running, r | .stopping, r | .waking, r => r
  | _, _ => 0

/-- Paths of moves from one core to another. Doors and wait list may move in any way that keeps them sound, where they
were sound at the start. -/
inductive Reach (c : Core) : Owed → Core → Prop where
  | refl : Reach c {} c
  | reports {o c'} (n : Nat) (h : Reach c o c') (bound : c'.reports ≤ reportMax → n ≤ reportMax) :
      Reach c o { c' with reports := n }
  | join {o c'} (src : Source) (h : Reach c o c') (stays : afterDemand src.cls c'.state = c'.state) :
      Reach c { o with told := true } { c' with demands := addSource src c'.demands }
  | demand {o c'} (src : Source) (n : RunState) (h : Reach c o c') (moves : n = .tripped ∨ n = .stopping)
      (after : afterDemand src.cls c'.state = n) : Reach c { o with told := true } { c' with
        demands := addSource src c'.demands, state := n, quiet := 0, reference := entryReference n c'.reference }
  | tell {o : Owed} {c' : Core} (h : Reach c { o with told := true } c') :
      Reach c o { c' with stopClass := stopClassOf c'.demands }
  | clear {o c'} (src : Source) (h : Reach c o c') : Reach c o { c' with
      demands := removeSource src c'.demands, stopClass := stopClassOf (removeSource src c'.demands) }
  | transition {o c'} (n : RunState) (h : Reach c o c') (allowed : c'.admits n) : Reach c o { c' with
      state := n, quiet := 0, reference := entryReference n c'.reference }
  | ramp {o c'} (r : Nat) (h : Reach c o c') (bound : c'.reference ≤ c'.settings.max → r ≤ c'.settings.max)
      (held : runMoves c'.state = false → r = 0) : Reach c o { c' with reference := r }
  | quiet {o c'} (n : Nat) (h : Reach c o c') (stopping : c'.state = .stopping) (short : n < quietWindows) :
      Reach c o { c' with quiet := n }
  | govern {o c'} (g : GovernorSettings) (h : Reach c o c') (legal : settingsInRange g = true)
      (held : runMoves c'.state = false) : Reach c o { c' with settings := g, desk := clampDesk c'.desk g.max }
  | desk {o c'} (v : Nat) (h : Reach c o c') :
      Reach c o { c' with desk := clampDesk v c'.settings.max }
  | wind {o c'} (w : WindConfig) (h : Reach c o c') (legal : w.legal) :
      Reach c o { c' with wind := w, band := 0 }
  | band {o c'} (b : Nat) (h : Reach c o c') (bound : b ≤ c'.band ∨ b ≤ c'.wind.bands.length) :
      Reach c o { c' with band := b }
  | miss {o c'} (b : Bool) (h : Reach c o c') : Reach c o { c' with late := b, lineOn := b }
  | slots {o c'} (l : List (Option Nat × Nat × Bool)) (h : Reach c o c')
      (kept : l.map (fun k => (k.1, k.2.1)) = c'.slots.map fun k => (k.1, k.2.1)) :
      Reach c { o with tower := true } { c' with slots := l }
  | slot {o c'} (n : Nat) (k : Option Nat × Nat × Bool) (h : Reach c o c') (legal : Core.legalSlot k)
      (untaken : ∀ a ∈ k.1, ∀ m, m ≠ n → (c'.slots[m]?).bind Prod.fst ≠ some a) :
      Reach c { o with tower := true } { c' with slots := c'.slots.set n k }
  | tower {o : Owed} {c' : Core} (h : Reach c { o with tower := true } c') :
      Reach c o { c' with towerOn := c'.slots.any fun k => k.2.2 }
  | deadline {o c'} (d : Nat) (h : Reach c o c') (legal : 200 ≤ d ∧ d ≤ 2000) :
      Reach c o { c' with deadline := d }
  | records {o c'} (b : List (Nat × Bool)) (p : Quad (Option (Nat × Bool))) (lb l : Option (Nat × Bool))
      (rs : List (Nat × Bool)) (occ : Quad Bool) (h : Reach c o c') (count : b.length = c'.buffer.length)
      (places : c'.PlacesBounded →
        Core.PlacesBounded { c' with buffer := b, places := p, launchBerth := lb, launch := l, records := rs })
      (numbers : c'.NumbersUnique →
        Core.NumbersUnique { c' with buffer := b, places := p, launchBerth := lb, launch := l, records := rs })
      (notices : (∀ i, c'.occupied.get i = (c'.places.get i).isSome) → ∀ i, occ.get i = (p.get i).isSome) :
      Reach c o { c' with
        buffer := b, places := p, launchBerth := lb, launch := l, records := rs, occupied := occ,
        launchCommand := if l.isSome = c'.launch.isSome then c'.launchCommand else l.isSome }
  | recount {o c'} (b : List (Nat × Bool)) (p : Quad (Option (Nat × Bool))) (lb : Option (Nat × Bool))
      (rs : List (Nat × Bool)) (occ : Quad Bool) (h : Reach c o c') (clear : o.buffer = none)
      (places : c'.PlacesBounded →
        Core.PlacesBounded { c' with buffer := b, places := p, launchBerth := lb, records := rs })
      (numbers : c'.NumbersUnique →
        Core.NumbersUnique { c' with buffer := b, places := p, launchBerth := lb, records := rs })
      (notices : (∀ i, c'.occupied.get i = (c'.places.get i).isSome) → ∀ i, occ.get i = (p.get i).isSome) :
      Reach c { o with buffer := some c'.buffer.length } { c' with
        buffer := b, places := p, launchBerth := lb, records := rs, occupied := occ }
  | uncounted {o : Owed} {c' : Core} (n : Nat) (h : Reach c { o with buffer := some n } c') (same : c'.buffer.length = n) :
      Reach c { o with buffer := none } c'
  | trackCeiling {o c'} (h : Reach c o c') : Reach c { o with buffer := none } { c' with
      trackOn := decide (c'.track.slow ≤ c'.buffer.length) }
  | trackSettings {o c'} (k : TrackSettings) (h : Reach c o c') (legal : c'.track.legal → k.legal)
      (slow : k.slow = c'.track.slow) : Reach c o { c' with track := k }
  | trackSlow {o c'} (k : TrackSettings) (h : Reach c o c') (legal : c'.track.legal → k.legal)
      (slow : 3 ≤ k.slow) : Reach c { o with buffer := none } { c' with
        track := k, trackOn := decide (k.slow ≤ c'.buffer.length) }
  | indexStart {o c'} (h : Reach c o c') (locked : ∀ i, (c'.doors.get i).1 = .locked) :
      Reach c o { c' with step := true, indexCommand := true }
  | indexEnd {o c'} (h : Reach c o c') : Reach c o { c' with step := false, indexCommand := false }
  | cycleStart {o c'} (i : Idx4) (h : Reach c o c') (locked : (c'.doors.get i).1 = .locked)
      (still : c'.step = false) :
      Reach c o { c' with doors := c'.doors.set i (.unlocking, (c'.doors.get i).2) }
  | doors {o c'} (q : Quad (BerthState × Bool)) (w : List (Idx4 × Motion)) (h : Reach c o c')
      (allowed : c.DoorsSound → Core.DoorsSound { c' with doors := q, wait := w }) :
      Reach c o { c' with doors := q, wait := w }
  | berths {o c'} (q : Quad BerthSettings) (h : Reach c o c')
      (legal : (∀ i, (c'.berths.get i).legal) → ∀ i, (q.get i).legal) : Reach c o { c' with berths := q }
  | gap {o c'} (g : Nat) (h : Reach c o c') (legal : g ≤ 2000) : Reach c o { c' with gap := g }
  | geometry {o c'} (u d k : Nat) (h : Reach c o c')
      (legal : (500 ≤ u ∧ u ≤ 9000) ∧ (500 ≤ d ∧ d ≤ 9000) ∧ (10 ≤ k ∧ k ≤ 500)) :
      Reach c o { c' with geometry := (u, d, k) }
  | counters {o c'} (q : Quad Counter) (on : Bool) (h : Reach c o c')
      (legal : (∀ i, (c'.counters.get i).legal i) → ∀ i, (q.get i).legal i)
      (slow : on = Core.slowCounters q ∨
        on = c'.counterOn ∧ Core.slowCounters q = Core.slowCounters c'.counters) :
      Reach c o { c' with counters := q, counterOn := on }
  | watches {o c'} (q : Quad (Nat × Nat)) (on : Bool) (h : Reach c o c')
      (legal : (∀ i, Core.legalWindow (c'.windows.get i)) → ∀ i, Core.legalWindow (q.get i)) :
      Reach c o { c' with windows := q, watchSlow := on, watchOn := on }
  | line {o c'} (v k b n : Nat) (h : Reach c o c') (voice : c'.voice ≤ voiceQueue → v ≤ voiceQueue)
      (control : c'.control ≤ controlQueue → k ≤ controlQueue) (bulk : c'.bulk ≤ bulkQueue → b ≤ bulkQueue)
      (notices : c'.notices ≤ noticeInbox → n ≤ noticeInbox) :
      Reach c o { c' with voice := v, control := k, bulk := b, notices := n }
  | call {o c'} (st : CallState) (id : Option Nat) (n : Nat) (h : Reach c o c')
      (held : c'.CallHeld → (id.isSome = true ↔ st ≠ .idle) ∧ (st ≠ .talking → n = 0))
      (playout : c'.playout ≤ playoutMax → n ≤ playoutMax) :
      Reach c o { c' with callState := st, callId := id, playout := n }

end Sys2Proof.Machine
end

section
/-! SUPPORT. Every promise is an invariant of the moves on cores: one induction each, whose cases are the moves that
change what the promise reads. -/

namespace Sys2Proof.Machine

open Config

section
variable {o : Owed} {c d : Core}

/-! ### Run control and the drive reference (R9 to R11, R30) -/

theorem afterDemand_not_moving (cls : StopClass) (st : RunState) (h : cls ≠ .clear) :
    afterDemand cls st ≠ .starting ∧ afterDemand cls st ≠ .running := by
  cases cls <;> cases st <;> simp_all [afterDemand]

theorem Source.cls_ne_clear (src : Source) : src.cls ≠ .clear := by cases src <;> decide

theorem afterDemand_emergency (st : RunState) : afterDemand .emergency st = .tripped ∨
    afterDemand .emergency st = .parked ∨ afterDemand .emergency st = .waking := by
  cases st <;> simp [afterDemand]

theorem afterDemand_held (cls : StopClass) {st : RunState} (h : st = .tripped ∨ st = .parked ∨ st = .waking) :
    afterDemand cls st = st := by
  rcases h with rfl | rfl | rfl <;> cases cls <;> rfl

/-- The run state after a demand suits the demand set that it has joined (R9, R11). -/
theorem Core.DemandsObeyed.joined (src : Source) (h : d.DemandsObeyed) {q r : Nat} : Core.DemandsObeyed { d with
    demands := addSource src d.demands, state := afterDemand src.cls d.state, quiet := q, reference := r } := by
  obtain ⟨-, held⟩ := h
  obtain ⟨hstart, hrunning⟩ := afterDemand_not_moving src.cls d.state src.cls_ne_clear
  refine ⟨fun moving => (moving.elim hstart hrunning).elim, fun emergency => ?_⟩
  obtain ⟨x, hx, hcls⟩ := (stopClassOf_eq_emergency_iff _).mp emergency
  rcases (mem_addSource x src d.demands).mp hx with rfl | hmem
  · rw [hcls]
    exact afterDemand_emergency d.state
  · have before := held ((stopClassOf_eq_emergency_iff _).mpr ⟨x, hmem, hcls⟩)
    rw [afterDemand_held src.cls before]
    exact before

theorem Reach.demandsObeyed (h : Reach c o d) (hc : c.DemandsObeyed) : d.DemandsObeyed := by
  induction h with
  | refl => exact hc
  | join src _ stays ih =>
    have joined := ih.joined src (q := 0) (r := 0)
    rw [stays] at joined
    exact joined
  | demand src n _ _ after ih =>
    have joined := ih.joined src (q := 0) (r := 0)
    rw [after] at joined
    exact joined
  | @clear _ d src _ ih =>
    obtain ⟨moving, held⟩ := ih
    have fewer : ∀ x, x ∈ removeSource src d.demands → x ∈ d.demands := fun x hx =>
      ((mem_removeSource x src _).mp hx).1
    refine ⟨fun h => List.eq_nil_iff_forall_not_mem.mpr fun x hx => ?_, fun h => held ?_⟩
    · simpa [moving h] using fewer x hx
    · obtain ⟨x, hx, hcls⟩ := (stopClassOf_eq_emergency_iff _).mp h
      exact (stopClassOf_eq_emergency_iff _).mpr ⟨x, fewer x hx, hcls⟩
  | @transition _ d n _ allowed ih =>
    obtain ⟨moving, held⟩ := ih
    cases n
    case starting => exact ⟨fun _ => allowed, fun h => by simp [show d.demands = [] from allowed, stopClassOf] at h⟩
    case running =>
      have none : d.demands = [] := moving (.inl allowed)
      exact ⟨fun _ => none, fun h => by simp [none, stopClassOf] at h⟩
    case stopping => exact allowed.elim
    case stopped =>
      refine ⟨fun h => by simp at h, fun emergency => ?_⟩
      rcases allowed with stopping | calm
      · have := held emergency
        simp [stopping] at this
      · exact absurd emergency calm
    all_goals exact ⟨fun h => by simp at h, fun _ => by simp⟩
  | _ => assumption

theorem Reach.quietCounted (h : Reach c o d) (hc : c.QuietCounted) : d.QuietCounted := by
  induction h with
  | refl => exact hc
  | demand | transition => exact ⟨Nat.zero_lt_succ 9, fun _ => rfl⟩
  | quiet n _ stopping short _ => exact ⟨short, fun h => absurd stopping h⟩
  | _ => assumption

theorem entryReference_le (n : RunState) (r : Nat) : entryReference n r ≤ r := by cases n <;> simp [entryReference]

theorem Reach.referenceBounded (h : Reach c o d) (hc : c.ReferenceBounded) : d.ReferenceBounded := by
  induction h with
  | refl => exact hc
  | @demand _ d src n _ moves _ ih =>
    exact ⟨(entryReference_le n _).trans ih.1, fun _ => by rcases moves with rfl | rfl <;> simp_all [entryReference, runMoves]⟩
  | @transition _ d n _ allowed ih =>
    refine ⟨(entryReference_le n _).trans ih.1, fun held => ?_⟩
    cases n with
    | waking => exact ih.2 (by rw [show d.state = .parked from allowed]; rfl)
    | starting | running | stopping => contradiction
    | stopped | tripped | parked => rfl
  | ramp r _ bound held ih => exact ⟨bound ih.1, held⟩
  | govern g _ _ held ih => exact ⟨by rw [ih.2 held]; exact Nat.zero_le _, ih.2⟩
  | _ => assumption

/-! ### Places and queues -/

theorem Reach.placesBounded (h : Reach c o d) (hc : c.PlacesBounded) : d.PlacesBounded := by
  induction h with
  | refl => exact hc
  | records _ _ _ _ _ _ _ _ places _ _ ih => exact places ih
  | recount _ _ _ _ _ _ _ places _ _ ih => exact places ih
  | _ => assumption

theorem Reach.lineBounded (h : Reach c o d) (hc : c.LineBounded) : d.LineBounded := by
  induction h with
  | refl => exact hc
  | line v k b n _ voice control bulk notices ih =>
    obtain ⟨hv, hk, hb, hn⟩ := ih
    exact ⟨voice hv, control hk, bulk hb, notices hn⟩
  | _ => assumption

theorem Reach.reports_le (h : Reach c o d) (hc : c.reports ≤ reportMax) : d.reports ≤ reportMax := by
  induction h with
  | refl => exact hc
  | reports n _ bound ih => exact bound ih
  | _ => assumption

/-- The owners of requests leave the request inbox and the reply queue (R189). -/
theorem Reach.desk_kept (h : Reach c o d) : d.inbox = c.inbox ∧ d.replies = c.replies := by
  induction h with
  | refl => exact ⟨rfl, rfl⟩
  | _ => assumption

theorem Reach.playout_le (h : Reach c o d) (hc : c.playout ≤ playoutMax) : d.playout ≤ playoutMax := by
  induction h with
  | refl => exact hc
  | call _ _ _ _ _ playout ih => exact playout ih
  | _ => assumption

theorem Reach.callHeld (h : Reach c o d) (hc : c.CallHeld) : d.CallHeld := by
  induction h with
  | refl => exact hc
  | call _ _ _ _ held _ ih => exact held ih
  | _ => assumption

/-! ### The tower table and the settings -/

theorem filterMap_address_eq {l m : List (Option Nat × Nat × Bool)}
    (h : l.map (fun k => (k.1, k.2.1)) = m.map fun k => (k.1, k.2.1)) :
    l.length = m.length ∧ l.filterMap Prod.fst = m.filterMap Prod.fst := by
  refine ⟨by simpa using congrArg List.length h, ?_⟩
  have := congrArg (List.filterMap Prod.fst) h
  simpa [List.filterMap_map, Function.comp_def] using this

/-- A slot that takes an address that no other slot holds leaves no address twice (R124, R125). -/
theorem nodup_filterMap_set {l : List (Option Nat × Nat × Bool)} (hl : (l.filterMap Prod.fst).Nodup) {n : Nat}
    {k : Option Nat × Nat × Bool} (untaken : ∀ a ∈ k.1, ∀ m, m ≠ n → (l[m]?).bind Prod.fst ≠ some a) :
    ((l.set n k).filterMap Prod.fst).Nodup := by
  induction l generalizing n with
  | nil => simp
  | cons x xs ih =>
    obtain ⟨fresh, hxs⟩ : (∀ b, x.1 = some b → b ∉ xs.filterMap Prod.fst) ∧ (xs.filterMap Prod.fst).Nodup := by
      cases hx : x.1 <;> simp_all [List.filterMap_cons]
    cases n with
    | zero =>
      rw [List.set_cons_zero]
      cases hk : k.1 with
      | none => simpa [List.filterMap_cons, hk] using hxs
      | some a =>
        rw [List.filterMap_cons_some (by exact hk)]
        refine List.nodup_cons.mpr ⟨fun hmem => ?_, hxs⟩
        obtain ⟨y, hy, hya⟩ := List.mem_filterMap.mp hmem
        obtain ⟨j, hj⟩ := List.mem_iff_getElem?.mp hy
        exact untaken a hk (j + 1) (by omega) (by simp [hj, hya])
    | succ n =>
      have tail := ih hxs (n := n) fun a ha m hm => by simpa using untaken a ha (m + 1) (by omega)
      rw [List.set_cons_succ]
      cases hx : x.1 with
      | none => simpa [List.filterMap_cons, hx] using tail
      | some b =>
        rw [List.filterMap_cons_some (by exact hx)]
        refine List.nodup_cons.mpr ⟨fun hmem => ?_, tail⟩
        obtain ⟨y, hy, hyb⟩ := List.mem_filterMap.mp hmem
        rcases List.mem_or_eq_of_mem_set hy with hold | rfl
        · exact fresh b hx (List.mem_filterMap.mpr ⟨y, hold, hyb⟩)
        · exact untaken b hyb 0 (by omega) (by simp [hx])

theorem Reach.tableSound (h : Reach c o d) (hc : c.TableSound) : d.TableSound := by
  induction h with
  | refl => exact hc
  | slots l _ kept ih =>
    obtain ⟨hlen, haddr⟩ := filterMap_address_eq kept
    exact ⟨hlen.trans ih.1, by rw [show (List.filterMap Prod.fst l) = _ from haddr]; exact ih.2⟩
  | slot n k _ _ untaken ih => exact ⟨by simpa using ih.1, nodup_filterMap_set ih.2 untaken⟩
  | _ => assumption

theorem settingsInRange_max {g : GovernorSettings} (h : settingsInRange g = true) : 50 ≤ g.max := by
  simp only [settingsInRange, Bool.and_eq_true, decide_eq_true_eq] at h
  omega

theorem clampDesk_bounds {max : Nat} (v : Nat) (h : 50 ≤ max) : 50 ≤ clampDesk v max ∧ clampDesk v max ≤ max := by
  exact ⟨Nat.le_max_left _ _, Nat.max_le.mpr ⟨h, Nat.min_le_right _ _⟩⟩

theorem Reach.governorLegal (h : Reach c o d) (hc : c.GovernorLegal) : d.GovernorLegal := by
  induction h with
  | refl => exact hc
  | govern g _ legal _ ih =>
    obtain ⟨-, -, hwind⟩ := ih
    exact ⟨legal, clampDesk_bounds _ (settingsInRange_max legal), hwind⟩
  | desk v _ ih =>
    obtain ⟨hset, -, hwind⟩ := ih
    exact ⟨hset, clampDesk_bounds _ (settingsInRange_max hset), hwind⟩
  | wind w _ legal ih =>
    obtain ⟨hset, hdesk, -⟩ := ih
    exact ⟨hset, hdesk, legal, Nat.zero_le _⟩
  | band b _ bound ih =>
    obtain ⟨hset, hdesk, hwind, hband⟩ := ih
    exact ⟨hset, hdesk, hwind, bound.elim (·.trans hband) id⟩
  | _ => assumption

theorem Reach.blocksLegal (h : Reach c o d) (hc : c.BlocksLegal) : d.BlocksLegal := by
  induction h with
  | refl => exact hc
  | slots l _ kept ih =>
    obtain ⟨h1, h2, h3, h4, h5, hslots, h7⟩ := ih
    refine ⟨h1, h2, h3, h4, h5, fun k hk => ?_, h7⟩
    have hmem : (k.1, k.2.1) ∈ l.map fun k => (k.1, k.2.1) := List.mem_map_of_mem hk
    rw [kept] at hmem
    obtain ⟨m, hm, heq⟩ := List.mem_map.mp hmem
    obtain ⟨haddr, hcoord⟩ := Prod.mk.inj heq
    have legal := hslots m hm
    unfold Core.legalSlot at legal ⊢
    rwa [haddr, hcoord] at legal
  | slot n k _ legal _ ih =>
    obtain ⟨h1, h2, h3, h4, h5, hslots, h7⟩ := ih
    exact ⟨h1, h2, h3, h4, h5, fun x hx => (List.mem_or_eq_of_mem_set hx).elim (hslots x) fun e => e ▸ legal, h7⟩
  | deadline d _ legal ih =>
    obtain ⟨h1, h2, h3, h4, -, h6⟩ := ih
    exact ⟨h1, h2, h3, h4, legal, h6⟩
  | trackSettings k _ legal _ ih => exact ⟨legal ih.1, ih.2⟩
  | trackSlow k _ legal _ ih => exact ⟨legal ih.1, ih.2⟩
  | berths q _ legal ih =>
    obtain ⟨h1, h2, h3⟩ := ih
    exact ⟨h1, legal h2, h3⟩
  | gap g _ legal ih =>
    obtain ⟨h1, h2, -, h4⟩ := ih
    exact ⟨h1, h2, legal, h4⟩
  | geometry u d k _ legal ih =>
    obtain ⟨h1, h2, h3, -, h5⟩ := ih
    exact ⟨h1, h2, h3, legal, h5⟩
  | counters q on _ legal _ ih =>
    obtain ⟨h1, h2, h3, h4, h5, h6, h7, h8⟩ := ih
    exact ⟨h1, h2, h3, h4, h5, h6, legal h7, h8⟩
  | watches q on _ legal ih =>
    obtain ⟨h1, h2, h3, h4, h5, h6, h7, h8⟩ := ih
    exact ⟨h1, h2, h3, h4, h5, h6, h7, legal h8⟩
  | _ => assumption

/-! ### The ceilings (R54, R134, R145, R155, R168) -/

theorem Reach.ownCeilings (h : Reach c o d) (hc : c.OwnCeilings) : d.OwnCeilings := by
  induction h with
  | refl => exact hc
  | miss b _ ih => exact ⟨rfl, ih.2⟩
  | counters q on _ _ slow ih =>
    obtain ⟨hline, hcounter, hwatch⟩ := ih
    exact ⟨hline, slow.elim id fun h => h.1.trans (hcounter.trans h.2.symm), hwatch⟩
  | watches q on _ _ ih => exact ⟨ih.1, ih.2.1, rfl⟩
  | _ => assumption

theorem Reach.towerTrue (h : Reach c o d) (hc : c.TowerTrue) : o.tower = false → d.TowerTrue := by
  induction h with
  | refl => exact fun _ => hc
  | slots | slot => exact fun h => nomatch h
  | tower => exact fun _ => rfl
  | _ => assumption

/-- A path that owes no test of the Track ceiling ends with the ceiling true to its count, one that owes it with the
ceiling true to the count that it owes the test for. -/
theorem Reach.trackAt (h : Reach c o d) (hc : c.TrackAt c.buffer.length) :
    d.TrackAt (o.buffer.getD d.buffer.length) := by
  induction h with
  | refl => exact hc
  | @records o d b _ _ _ _ _ _ count _ _ _ ih =>
    simp only [count]
    exact ih
  | recount _ _ _ _ _ _ clear _ _ _ ih =>
    simp only [clear] at ih
    exact ih
  | uncounted n _ same ih =>
    simp only [Option.getD_none, same]
    exact ih
  | trackCeiling _ ih => exact ⟨ih.1, rfl⟩
  | trackSettings k _ _ slow ih => exact ⟨by rw [slow]; exact ih.1, by rw [slow]; exact ih.2⟩
  | trackSlow k _ _ slow _ => exact ⟨slow, rfl⟩
  | _ => assumption

/-! ### Notices between blocks (R18, R56, R62, R81) -/

theorem Reach.classTold (h : Reach c o d) (hc : c.ClassTold) : o.told = false → d.ClassTold := by
  induction h with
  | refl => exact fun _ => hc
  | join | demand => exact fun h => nomatch h
  | tell | clear => exact fun _ => rfl
  | _ => assumption

theorem Reach.outputsTrue (h : Reach c o d) (hc : c.OutputsTrue) : d.OutputsTrue := by
  induction h with
  | refl => exact hc
  | @records _ d b p lb l rs occ _ _ _ _ notices ih =>
    obtain ⟨hindex, hlaunch, hocc⟩ := ih
    refine ⟨hindex, ?_, notices hocc⟩
    change (if l.isSome = d.launch.isSome then d.launchCommand else l.isSome) = l.isSome
    split
    · rename_i same
      rw [hlaunch, same]
    · rfl
  | recount _ _ _ _ _ _ _ _ _ notices ih =>
    obtain ⟨hindex, hlaunch, hocc⟩ := ih
    exact ⟨hindex, hlaunch, notices hocc⟩
  | indexStart _ _ ih => exact ⟨rfl, ih.2⟩
  | indexEnd _ ih => exact ⟨rfl, ih.2⟩
  | _ => assumption

/-! ### Carrier numbers (R70) -/

theorem Reach.numbersUnique (h : Reach c o d) (hc : c.NumbersUnique) : d.NumbersUnique := by
  induction h with
  | refl => exact hc
  | records _ _ _ _ _ _ _ _ _ numbers _ ih => exact numbers ih
  | recount _ _ _ _ _ _ _ _ numbers _ ih => exact numbers ih
  | _ => assumption

/-! ### The doors (R56, R80, R93, R94) -/

/-- A cycle starts only while no index step is in flight, an index step only with every berth Locked (R55, R82). -/
theorem Reach.doorsSound (h : Reach c o d) (hc : c.DoorsSound) : d.DoorsSound := by
  induction h with
  | refl => exact hc
  | indexStart _ locked ih =>
    obtain ⟨hgrants, hsound, hnodup, hwait, -⟩ := ih
    exact ⟨hgrants, hsound, hnodup, hwait, fun _ => locked⟩
  | indexEnd _ ih =>
    obtain ⟨hgrants, hsound, hnodup, hwait, -⟩ := ih
    exact ⟨hgrants, hsound, hnodup, hwait, fun h => nomatch h⟩
  | @cycleStart _ d i _ locked still ih =>
    obtain ⟨hgrants, hsound, hnodup, hwait, -⟩ := ih
    have ungranted : (d.doors.get i).2 = false := by
      have := (hsound i).2
      rw [locked] at this
      simpa using this
    refine ⟨?_, fun j => ?_, hnodup, fun e he => ?_, fun h => absurd h (by simp [still])⟩
    · refine le_of_eq_of_le (congrArg List.length (List.filter_congr fun j _ => ?_)) hgrants
      rw [Quad.get_set]
      split
      · rename_i h
        rw [h]
      · rfl
    · rw [Quad.get_set]
      split
      · simp [Core.grantSound, ungranted]
      · exact hsound j
    · have suits := hwait e he
      have other : e.1 ≠ i := by
        rintro rfl
        rw [locked] at suits
        cases h : e.2 <;> simp [Motion.suits, h] at suits
      rwa [Quad.get_set_ne _ _ other]
  | doors _ _ _ allowed => exact allowed hc
  | _ => assumption

end

end Sys2Proof.Machine
end

section
/-! SUPPORT. The operations that the blocks share, the counters, the watches and the berth controller as paths of moves:
each operation prolongs a path that ends at the state it finds into one that ends at the state it leaves. -/

namespace Sys2Proof.Machine

open Config

theorem Quad.map_set {α β : Type} (f : α → β) (q : Quad α) (i : Idx4) (a : α) :
    (q.set i a).map f = (q.map f).set i (f a) := by cases i <;> rfl

section
variable {c : Core} {o : Owed} {s t : State}

/-! ### Edits and reports -/

/-- A change of the state that the core does not see. -/
theorem Reach.edit (h : Reach c o s.core) (e : t.core = s.core) : Reach c o t.core := e ▸ h

theorem Reach.cast {d e : Core} (h : Reach c o d) (eq : e = d) : Reach c o e := eq ▸ h

theorem queueReport_core (r : Report) (s : State) :
    (queueReport r s).core = { s.core with reports := (queueReport r s).core.reports } := by
  unfold queueReport loseReport
  (repeat' split) <;> rfl

/-- The report queue takes a report only where it has room, or in another's place (R190). -/
theorem queueReport_reports (r : Report) (s : State) (h : s.core.reports ≤ reportMax) :
    (queueReport r s).core.reports ≤ reportMax := by
  have lost : ∀ u : State, (loseReport r u).core.reports = u.core.reports := by
    intro u
    unfold loseReport
    split <;> rfl
  unfold queueReport
  split
  · rename_i room
    have room : s.core.reports < reportMax := by simpa [reportRoom, State.core] using room
    split <;> simp [State.core] at room ⊢ <;> omega
  · split
    · split
      · rename_i newest hnewest
        have hne : s.desk.others ≠ [] := by
          rintro e
          simp [e] at hnewest
        have hpos := List.length_pos_iff.mpr hne
        have moved : ∀ u : State, (loseReport newest u).core.reports = u.core.reports := by
          intro u
          unfold loseReport
          split <;> rfl
        rw [moved]
        simp [State.core] at h ⊢
        omega
      · rwa [lost]
    · rwa [lost]

protected theorem Reach.queueReport {r : Report} (h : Reach c o s.core) : Reach c o (queueReport r s).core :=
  queueReport_core r s ▸ h.reports _ (queueReport_reports r s)

protected theorem Reach.offerGovernor (h : Reach c o s.core) : Reach c o (offerGovernor s).core := by
  unfold Machine.offerGovernor
  split
  · exact h
  · split
    · exact h.queueReport (r := governorReport s)
    · exact h.queueReport

protected theorem Reach.offerTower (h : Reach c o s.core) : Reach c o (offerTower s).core := by
  unfold Machine.offerTower
  split
  · exact h
  · split
    · exact h.queueReport (r := towerReport s)
    · exact h.queueReport

protected theorem Reach.offerLine (h : Reach c o s.core) : Reach c o (offerLine s).core := by
  unfold Machine.offerLine
  split
  · exact h
  · split
    · exact h.queueReport (r := lineReport s)
    · exact h.queueReport

protected theorem Reach.offerBerth (h : Reach c o s.core) : Reach c o (offerBerth s).core := by
  unfold Machine.offerBerth
  split
  · exact h
  · split
    · exact h.queueReport (r := berthReport s)
    · exact h.queueReport

protected theorem Reach.updateCeilings {g : Governor} (h : Reach c o { s with gov := g }.core) :
    Reach c o (updateCeilings g s).core := by
  unfold Machine.updateCeilings
  split
  · exact h
  · exact h.offerGovernor

protected theorem Reach.giveClass (h : Reach c { o with told := true } s.core) :
    Reach c o (giveClass s).core := by
  have told := h.tell
  unfold Machine.giveClass
  split
  · rename_i same
    have e : s.core = { s.core with stopClass := stopClassOf s.core.demands } := by
      conv_rhs => rw [show stopClassOf s.core.demands = s.core.stopClass from same]
    rw [e]
    exact told
  · exact told

protected theorem Reach.offerControl {f : ControlFrame} (h : Reach c o s.core) :
    Reach c o (offerControl f s).core := by
  unfold Machine.offerControl
  split
  · rename_i room
    have joined := h.line s.core.voice (s.line.control ++ [f]).length s.core.bulk s.core.notices id
      (fun _ => by simpa using room) id id
    exact joined
  · simp only []
    split
    · exact h
    · exact Reach.offerLine (s := { s with line := { s.line with
        overflow := true, counts := { s.line.counts with controlDropped := satInc s.line.counts.controlDropped } } }) h

protected theorem Reach.offerVoice {f : VoiceFrame} (h : Reach c o s.core) :
    Reach c o (offerVoice f s).core := by
  unfold Machine.offerVoice
  split
  · rename_i room
    exact h.line (s.line.voice ++ [f]).length s.core.control s.core.bulk s.core.notices
      (fun _ => by simpa using room) id id id
  · refine h.line (s.line.voice.drop 1 ++ [f]).length s.core.control s.core.bulk s.core.notices (fun hv => ?_) id id id
    have : s.line.voice.length ≤ voiceQueue := hv
    simp [voiceQueue] at this ⊢
    omega

/-! ### Berths, cycle starts and the index start (R55, R82) -/

theorem setBerth_core {i : Idx4} {b : Berth} (hocc : b.occupied = (s.berth i).occupied)
    (hset : b.settings = (s.berth i).settings) :
    (s.setBerth i b).core = { s.core with doors := s.core.doors.set i b.door } := by
  have occupied : (s.berths.set i b).map Berth.occupied = s.berths.map Berth.occupied := by
    rw [Quad.map_set, hocc, State.berth_eq, ← Quad.get_map Berth.occupied]
    exact Quad.set_get _ _
  have settings : (s.berths.set i b).map Berth.settings = s.berths.map Berth.settings := by
    rw [Quad.map_set, hset, State.berth_eq, ← Quad.get_map Berth.settings]
    exact Quad.set_get _ _
  unfold State.core State.setBerth
  simp only [occupied, settings]
  rw [Quad.map_set]

/-- A berth's record replaced with its doors as they stand. -/
theorem Reach.setStill {i : Idx4} {b : Berth} (h : Reach c o s.core) (hocc : b.occupied = (s.berth i).occupied)
    (hset : b.settings = (s.berth i).settings) (hdoor : b.door = (s.berth i).door) :
    Reach c o (s.setBerth i b).core := by
  have still : s.core.doors.set i (s.berth i).door = s.core.doors := by
    rw [State.berth_eq, ← Quad.get_map Berth.door]
    exact Quad.set_get _ _
  rw [setBerth_core hocc hset, hdoor, still]
  exact h

protected theorem Reach.cycleTest {i : Idx4} (h : Reach c o s.core) : Reach c o (cycleTest i s).core := by
  unfold Machine.cycleTest
  split
  · rename_i ready
    simp only [cycleReady, Berth.due, Bool.and_eq_true, decide_eq_true_eq] at ready
    have locked : (s.core.doors.get i).1 = .locked := by simp [State.core, Berth.door, ← State.berth_eq, ready]
    have still : s.core.step = false := by simpa [State.core] using ready.1.1.1.2
    have started := h.cycleStart i locked still
    refine Reach.offerBerth (s := s.setBerth i (s.berth i).cycleStart) ?_
    rw [setBerth_core (b := (s.berth i).cycleStart) rfl rfl]
    simpa [State.core, Berth.door, Berth.cycleStart, Berth.unlocking, State.berth_eq] using started
  · exact h

protected theorem Reach.cycleTests (h : Reach c o s.core) : Reach c o (cycleTests s).core :=
  h.cycleTest.cycleTest.cycleTest.cycleTest

protected theorem Reach.indexTest (h : Reach c o s.core) : Reach c o (indexTest s).core := by
  unfold Machine.indexTest
  split
  · rename_i ready
    simp only [indexReady, Berth.mayIndex, Bool.and_eq_true, decide_eq_true_eq] at ready
    exact h.indexStart fun i => by cases i <;> simp [State.core, Berth.door, Quad.get, Quad.map, ready]
  · exact h

/-! ### Ceilings of the counters and the watches (R145, R155) -/

theorem slowCounters_setup (q : Quad Counter) (k : Counters) (h : k.units = q) :
    Core.slowCounters (q.map Counter.setup) = k.slow := by
  simp [Core.slowCounters, Counters.slow, Counter.setup, h]

theorem counters_legal_core {i : Idx4} : (s.core.counters.get i).legal i ↔ (s.counter i).legal i := by
  simp [State.core, Counter.setup, Counter.legal, State.counter_eq]

/-- The Counter ceiling's test, on a state whose counters may have changed before it. -/
protected theorem Reach.counterCeilingTest {d : Core} (h : Reach c o d)
    (e : s.core = { d with counters := s.core.counters })
    (legal : (∀ i, (d.counters.get i).legal i) → ∀ i, (s.counter i).legal i) :
    Reach c o (counterCeilingTest s).core := by
  have moved := h.counters s.core.counters s.counters.slow (fun hd i => counters_legal_core.mpr (legal hd i))
    (.inl (slowCounters_core s).symm)
  unfold Machine.counterCeilingTest setCeiling
  refine Reach.updateCeilings ?_
  have core : { s with gov := s.gov.withCeiling .counter s.counters.slow }.core =
      { s.core with counterOn := s.counters.slow } := rfl
  rw [core, e]
  exact moved

/-- The counters replaced, where the Counter ceiling's condition stands. -/
theorem Reach.replacedCounters {k : Counters} (h : Reach c o s.core)
    (legal : (∀ i, (s.counter i).legal i) → ∀ i, (k.units.get i).legal i) (slow : k.slow = s.counters.slow) :
    Reach c o { s with counters := k }.core := by
  refine h.counters (k.units.map Counter.setup) s.core.counterOn (fun hc i => ?_) (.inr ⟨rfl, ?_⟩)
  · have := legal (fun j => by simpa [State.core, Counter.setup, Counter.legal, State.counter_eq] using hc j) i
    simpa [Counter.setup, Counter.legal] using this
  · rw [slowCounters_setup _ k rfl, slowCounters_core, slow]

/-- The watches replaced and the Watch ceiling tested. -/
theorem Reach.testedWatches {w : Watches} (h : Reach c o s.core)
    (legal : (∀ i, (s.watches.units.get i).legal) → ∀ i, (w.units.get i).legal) :
    Reach c o (watchCeilingTest { s with watches := w }).core := by
  unfold watchCeilingTest setCeiling
  refine Reach.updateCeilings (h.watches (w.units.map fun x : Watch => (x.base, x.size)) w.slow fun hw i => ?_)
  have := legal (fun j => by simpa [State.core, Core.legalWindow, Watch.legal] using hw j) i
  simpa [Core.legalWindow, Watch.legal] using this

/-! ### Transitions and demands (R9, R11, R13, R14) -/

theorem enter_core (n : RunState) (q : RunControl) (hq : q.demands = s.run.demands) (hquiet : q.quiet = 0)
    (hn : q.state = n) : { s with run := q, gov := s.gov.enter n }.core =
      { s.core with state := n, quiet := 0, reference := entryReference n s.core.reference } := by
  cases n <;> simp [State.core, hq, hquiet, hn, Governor.enter, entryReference, Watches.slow]

/-- What follows the change of the run state itself at a transition. -/
theorem Reach.entered {n : RunState} {cause : Cause} (h : Reach c o { s with
    run := { s.run with state := n, quiet := 0 }, gov := s.gov.enter n }.core) :
    Reach c o (enterState n cause s).core := by
  unfold Machine.enterState
  simp only []
  split
  · refine Reach.indexTest (Reach.cycleTests ?_)
    exact (h.queueReport).testedWatches fun legal i => by simpa [Watch.legal] using legal i
  · exact h.queueReport.cycleTests.indexTest

protected theorem Reach.enterState {n : RunState} {cause : Cause} (h : Reach c o s.core)
    (allowed : s.core.admits n) : Reach c o (enterState n cause s).core := by
  refine Reach.entered ?_
  rw [enter_core n { s.run with state := n, quiet := 0 } rfl rfl rfl]
  exact h.transition n allowed

/-- The transition that a joining source requires, or none. -/
theorem demandTransition_eq (src : Source) (s : State) :
    (demandTransition src s = s ∧ afterDemand src.cls s.run.state = s.run.state) ∨
      ∃ n, (n = .tripped ∨ n = .stopping) ∧ afterDemand src.cls s.run.state = n ∧
        demandTransition src s = enterState n (.demand src) s := by
  unfold demandTransition
  cases hc : src.cls <;> cases hs : s.run.state <;> simp [afterDemand]

protected theorem Reach.raise {src : Source} (h : Reach c o s.core) : Reach c o (raise src s).core := by
  unfold Machine.raise
  split
  · exact h
  · refine Reach.giveClass ?_
    have reported := h.queueReport (r := .stopDemand src src.cls)
    have e : (queueReport (.stopDemand src src.cls)
        { s with run := { s.run with demands := addSource src s.run.demands } }).core =
        { (queueReport (.stopDemand src src.cls) s).core with demands := addSource src s.run.demands } := by
      unfold queueReport loseReport reportRoom
      (repeat' split) <;> simp_all <;> rfl
    generalize hu : queueReport (.stopDemand src src.cls)
      { s with run := { s.run with demands := addSource src s.run.demands } } = u at e ⊢
    generalize hv : queueReport (.stopDemand src src.cls) s = v at e reported
    have hstate : u.run.state = v.run.state := congrArg Core.state e
    have hdemands : v.core.demands = s.run.demands := by rw [← hv]; simp [State.core]
    rcases demandTransition_eq src u with ⟨hsame, hstay⟩ | ⟨n, hn, hafter, htrans⟩
    · rw [hsame, e, ← hdemands]
      exact reported.join src (by rw [hstate] at hstay; exact hstay)
    · rw [htrans]
      refine Reach.entered ?_
      rw [enter_core n { u.run with state := n, quiet := 0 } rfl rfl rfl, e, ← hdemands]
      exact reported.demand src n hn (by rw [hstate] at hafter; exact hafter)
  
protected theorem Reach.raiseAll {l : List Source} (h : Reach c o s.core) :
    Reach c o (raiseAll l s).core := by
  induction l generalizing s with
  | nil => exact h
  | cons x xs ih => exact ih h.raise

/-! ### Counters (R141 to R147) -/

theorem Counter.legal_congr {i : Idx4} {a b : Counter} (h : { a.setup with alarm := false } = { b.setup with alarm := false }) :
    a.legal i ↔ b.legal i := by
  simp only [Counter.setup, Counter.mk.injEq] at h
  simp [Counter.legal, h]

protected theorem Reach.counterTake {i : Idx4} {ev : CounterEvent} (h : Reach c o s.core) :
    Reach c o (counterTake i ev s).core := by
  unfold Machine.counterTake
  split
  · have legal : ∀ d : Counter, { d.setup with alarm := false } = { (s.counter i).setup with alarm := false } →
        (∀ j, (s.counter j).legal j) → ∀ j, ((s.counters.units.set i d).get j).legal j := by
      intro d hd hl j
      rw [Quad.get_set]
      split
      · rename_i e
        subst e
        exact (Counter.legal_congr hd).mpr (hl j)
      · exact hl j
    have slow : ∀ d : Counter, d.action = (s.counter i).action →
        (d.alarm = (s.counter i).alarm ∨ (s.counter i).action ≠ .slow) →
        (Counters.slow { s.counters with units := s.counters.units.set i d }) = s.counters.slow := by
      intro d ha hal
      unfold Counters.slow
      congr 1
      funext j
      simp only [Quad.get_set]
      split
      · rename_i e
        subst e
        rcases hal with hal | hne
        · rw [ha, hal]
          rfl
        · rw [ha]
          rw [State.counter_eq] at hne
          simp [State.counter_eq, hne]
      · rfl
    split
    · unfold expire fireAction
      simp only []
      split
      · rename_i ha
        exact Reach.queueReport (h.replacedCounters (legal _ rfl) (slow _ rfl
          (.inr (by rw [show (s.counter i).action = _ from ha]; decide))))
      · refine Reach.counterCeilingTest
          (h.reports _ (queueReport_reports _ (s.setCounter i ((s.counter i).expired (sampleOf s ev)))))
          (by rw [queueReport_core]; rfl) fun hl j => ?_
        simpa [State.counter_eq] using legal ((s.counter i).expired (sampleOf s ev)) rfl
          (fun m => counters_legal_core.mp (hl m)) j
      · rename_i ha
        exact Reach.raise (Reach.queueReport (h.replacedCounters (legal _ rfl) (slow _ rfl
          (.inr (by rw [show (s.counter i).action = _ from ha]; decide)))))
    · exact h.replacedCounters (legal _ rfl) (slow _ rfl (.inl rfl))
  · exact h

end

end Sys2Proof.Machine
end

section
/-! SUPPORT. The counters and the position watches as paths of moves, and what an event that raises or counts leaves of
the berths and the wait list: a due cycle may start, and nothing else. -/

namespace Sys2Proof.Machine

open Config

section
variable {c : Core} {o : Owed} {s t : State}

/-! ### Counters (R141 to R147) -/

protected theorem Reach.offerEvent {ev : CounterEvent} (h : Reach c o s.core) : Reach c o (offerEvent ev s).core :=
  h.counterTake.counterTake.counterTake.counterTake

protected theorem Reach.expiryEvent {i : Idx4} {ev : CounterEvent} (h : Reach c o s.core) :
    Reach c o (expiryEvent i ev s).core := by
  unfold Machine.expiryEvent
  split
  · exact h.counterTake
  · exact h

theorem Counter.reload_setup (before after : Travel) (d : Int) (k : Counter) : (k.reload before after d).setup = k.setup := by
  unfold Counter.reload
  split <;> rfl

theorem Counter.legal_iff_setup {i : Idx4} (k : Counter) : k.legal i ↔ k.setup.legal i := Iff.rfl

protected theorem Reach.countersTravel (h : Reach c o s.core) : Reach c o (countersTravel s).core := by
  have same : (s.counters.units.map (Counter.reload s.update.before s.update.t s.update.d)).map Counter.setup =
      s.counters.units.map Counter.setup := Quad.ext_get fun i => by simp [Counter.reload_setup]
  have travelled : Reach c o { s with counters := {
      units := s.counters.units.map (Counter.reload s.update.before s.update.t s.update.d),
      heldT := s.update.t, heldV := s.update.v } }.core := by
    refine h.edit ?_
    simp only [State.core, same]
  unfold Machine.countersTravel
  simp only []
  split
  · exact travelled.offerEvent
  · exact travelled

theorem counterOf_legal {i : Idx4} {r : CounterRequest} {q : Qualifier} {a : CounterAction}
    (h : counterInRange i r = true) : (counterOf r q a).legal i := by
  simp only [counterInRange, Bool.and_eq_true, Bool.or_eq_true, Bool.not_eq_true', decide_eq_true_eq,
    decide_eq_false_iff_not, List.isEmpty_eq_false_iff] at h
  obtain ⟨⟨⟨⟨⟨⟨⟨hevent, hlow⟩, hhigh⟩, hmask⟩, h4⟩, h6⟩, hwindow⟩, hchain⟩ := h
  refine ⟨hevent, ⟨hlow, hhigh⟩, fun h => hmask.resolve_left h, fun (h : r.event = 4) => ?_, fun (h : r.event = 6) => ?_,
    fun (n4 : r.event ≠ 4) (n6 : r.event ≠ 6) => ?_, hwindow, fun h => ?_⟩
  · simpa [counterOf, h] using h4.resolve_left (absurd h)
  · simpa [counterOf, h] using h6.resolve_left (absurd h)
  · simp [counterOf, n4, n6]
  · exact hchain.resolve_right (absurd h)

theorem Reach.setCounter_tested {i : Idx4} {k : Counter} (h : Reach c o s.core)
    (legal : (s.counter i).legal i → k.legal i) : Reach c o (counterCeilingTest (s.setCounter i k)).core := by
  refine h.counterCeilingTest (s := s.setCounter i k) rfl fun hl j => ?_
  rw [State.counter_eq]
  simp only [State.setCounter_fields, Quad.get_set]
  split
  · rename_i e
    exact e ▸ legal (counters_legal_core.mp (hl i))
  · exact counters_legal_core.mp (hl j)

protected theorem Reach.doSetCounter {n : Nat} {r : CounterRequest} (h : Reach c o s.core) :
    Reach c o (doSetCounter n r s).1.core := by
  unfold Machine.doSetCounter
  split
  · split
    · rename_i range
      exact h.setCounter_tested fun _ => counterOf_legal range
    · exact h
  · exact h

protected theorem Reach.doArmCounter {n : Nat} (h : Reach c o s.core) : Reach c o (doArmCounter n s).1.core := by
  unfold Machine.doArmCounter
  split
  · refine h.counterCeilingTest rfl fun hl i => ?_
    simpa [State.counter_eq, Counter.arm, Counter.legal] using counters_legal_core.mp (hl i)
  · split
    · exact h.setCounter_tested fun hl => by simpa [Counter.arm, Counter.legal] using hl
    · exact h

/-! ### Position watches (R148 to R155) -/

theorem core_eq_of_exempt {f : RosterRec → RosterRec} (hf : ∀ r, (f r).carrier = r.carrier) :
    { s with roster := { s.roster with records := s.roster.records.map f } }.core = s.core := by
  simp [State.core, Function.comp_def, hf]

protected theorem Reach.offerHits {ms : List WatchMatch} (h : Reach c o s.core) : Reach c o (offerHits ms s).core := by
  induction ms generalizing s with
  | nil => exact h
  | cons m ms ih => exact ih h.offerEvent

theorem exemptRecord_carrier (m : WatchMatch) (r : RosterRec) : (exemptRecord m r).carrier = r.carrier := by
  unfold exemptRecord
  split <;> rfl

protected theorem Reach.stopMatches {ms : List WatchMatch} (h : Reach c o s.core) :
    Reach c o (stopMatches ms s).core := by
  induction ms generalizing s with
  | nil => exact h
  | cons m ms ih =>
    unfold Machine.stopMatches
    split
    · exact ih (Reach.raise (h.edit (core_eq_of_exempt (exemptRecord_carrier m))))
    · exact ih h

theorem hitWatch_window (ms : List WatchMatch) (i : Idx4) (w : Watch) :
    (hitWatch ms i w).base = w.base ∧ (hitWatch ms i w).size = w.size ∧
      ∀ g, (hitWatch ms i w).slows i g = w.slows i g := by
  unfold hitWatch
  split
  · exact ⟨rfl, rfl, fun _ => rfl⟩
  · exact ⟨rfl, rfl, fun _ => rfl⟩

theorem hitWatches_get (ms : List WatchMatch) (q : Quad Watch) (i : Idx4) :
    (hitWatches ms q).get i = hitWatch ms i (q.get i) := by cases i <;> rfl

/-- Watches replaced by ones with the same windows that call for the Watch ceiling as the others did. -/
theorem Reach.sameWatches {w : Watches} (h : Reach c o s.core)
    (same : ∀ i, (w.units.get i).base = (s.watches.units.get i).base ∧
      (w.units.get i).size = (s.watches.units.get i).size ∧
      (w.units.get i).slows i w.given = (s.watches.units.get i).slows i s.watches.given) :
    Reach c o { s with watches := w }.core := by
  refine h.edit ?_
  have windows : w.units.map (fun x : Watch => (x.base, x.size)) =
      s.watches.units.map fun x : Watch => (x.base, x.size) := Quad.ext_get fun i => by simp [same i]
  have slow : w.slow = s.watches.slow := by
    unfold Watches.slow
    congr 1
    funext i
    exact (same i).2.2
  simp only [State.core, windows, slow]

protected theorem Reach.occasion {ms : List WatchMatch} (h : Reach c o s.core) : Reach c o (occasion ms s).core := by
  unfold Machine.occasion
  split
  · refine Reach.stopMatches (Reach.offerHits (Reach.queueReport (h.sameWatches fun i => ?_)))
    obtain ⟨hbase, hsize, hslow⟩ := hitWatch_window ms i (s.watches.units.get i)
    simp only [hitWatches_get]
    exact ⟨hbase, hsize, hslow _⟩
  · exact h

protected theorem Reach.towerOccasion {e : TowerEvent} (h : Reach c o s.core) :
    Reach c o (towerOccasion e s).core := h.occasion

protected theorem Reach.watchesTravel (h : Reach c o s.core) : Reach c o (watchesTravel s).core := by
  unfold Machine.watchesTravel
  exact Reach.testedWatches ((h.occasion (ms := carrierMatches s)).edit
    (core_eq_of_exempt (f := dropExemptions (occasion (carrierMatches s) s).watches.units) fun _ => rfl))
    fun legal i => legal i

protected theorem Reach.placeWatch {i : Idx4} {w : Watch} (h : Reach c o s.core) (legal : w.legal) :
    Reach c o (placeWatch i w s).core := by
  have placed : ∀ {u : State} {g : List Given}, Reach c o u.core → u.watches = s.watches → Reach c o
      (watchCeilingTest { u with watches := {
        units := s.watches.units.set i { w with hit := (s.watches.units.get i).hit }, given := g } }).core := by
    intro u g hu e
    refine hu.testedWatches fun hl j => ?_
    rw [e] at hl
    simp only [Quad.get_set]
    split
    · exact legal
    · exact hl j
  unfold Machine.placeWatch
  simp only []
  split
  · exact placed h rfl
  · exact placed (h.edit (core_eq_of_exempt (f := fun r => { r with exempt := removeIdx i r.exempt }) fun _ => rfl)) rfl

theorem watchInRange_legal {r : WatchRequest} (h : watchInRange r = true) :
    r.base ≤ 18000 ∧ (r.size = 16 ∨ r.size = 64 ∨ r.size = 256 ∨ r.size = 1024) := by
  simpa [watchInRange, or_assoc] using h

protected theorem Reach.doSetWatch {n : Nat} {r : WatchRequest} (h : Reach c o s.core) :
    Reach c o (doSetWatch n r s).1.core := by
  unfold Machine.doSetWatch
  split
  · split
    · rename_i range
      exact h.placeWatch (watchInRange_legal range)
    · exact h
  · exact h

protected theorem Reach.doClearHits {n : Nat} (h : Reach c o s.core) : Reach c o (doClearHits n s).1.core := by
  unfold Machine.doClearHits
  split
  · exact h.sameWatches fun i => by rw [Quad.get_map]; exact ⟨rfl, rfl, rfl⟩
  · split
    · refine h.sameWatches fun i => ?_
      simp only [Quad.get_set]
      split
      · rename_i e
        exact e ▸ ⟨rfl, rfl, rfl⟩
      · exact ⟨rfl, rfl, rfl⟩
    · exact h

/-! ### What an event leaves of the berths -/

/-- A berth after an event that may start its due cycle: the same, or at the start of a cycle from Locked (R82). -/
def Berth.Cycled (b d : Berth) : Prop := d = b ∨ (b.due = true ∧ b.timer = none) ∧ d = b.cycleStart

theorem Berth.locked_of_due {b : Berth} (h : b.due = true) : b.state = .locked := by
  simp only [due, Bool.and_eq_true, decide_eq_true_eq] at h
  exact h.1.1.1

theorem Berth.Cycled.trans {a b d : Berth} (h : a.Cycled b) (k : b.Cycled d) : a.Cycled d := by
  rcases h with rfl | ⟨idle, rfl⟩
  · exact k
  · rcases k with rfl | ⟨⟨again, -⟩, -⟩
    · exact .inr ⟨idle, rfl⟩
    · exact absurd (locked_of_due again) (by simp [cycleStart, unlocking])

/-- The berths after an event that may start their due cycles. -/
def Cycles (s t : State) : Prop := ∀ i, (s.berth i).Cycled (t.berth i)

theorem Cycles.trans {u : State} (h : Cycles s t) (k : Cycles t u) : Cycles s u := fun i => (h i).trans (k i)

theorem Cycles.of_berths (h : t.berths = s.berths) : Cycles s t := fun i => .inl (by rw [State.berth_eq, h]; rfl)

theorem Cycles.berth {i : Idx4} (h : Cycles s t) (free : (s.berth i).state ≠ .locked) : t.berth i = s.berth i :=
  (h i).elim id fun k => absurd (Berth.locked_of_due k.1.1) free

/-- A berth whose timer runs, or whose cycle is not due, starts none (R82). -/
theorem Cycles.berth_of_timer {i : Idx4} (h : Cycles s t) (runs : (s.berth i).timer ≠ none) : t.berth i = s.berth i :=
  (h i).elim id fun k => absurd k.1.2 runs

theorem Cycles.berth_of_undue {i : Idx4} (h : Cycles s t) (undue : (s.berth i).due = false) : t.berth i = s.berth i :=
  (h i).elim id fun k => absurd k.1.1 (by simp [undue])

/-- What only reads the berths on the way, and leaves them, leaves what an event did to them. -/
theorem Cycles.congr {u : State} (h : Cycles s t) (e : u.berths = t.berths) : Cycles s u := h.trans (.of_berths e)

theorem cycles_cycleTest (i : Idx4) (s : State) : Cycles s (cycleTest i s) := by
  unfold cycleTest
  split
  · rename_i ready
    simp only [cycleReady, Bool.and_eq_true, decide_eq_true_eq, Option.isNone_iff_eq_none] at ready
    obtain ⟨⟨⟨⟨⟨⟨due, -⟩, timer⟩, -⟩, -⟩, -⟩, -⟩ := ready
    intro j
    rw [State.berth_eq (changeBerth _ _ _), changeBerth_berths, Quad.get_set]
    split
    · rename_i e
      subst e
      exact .inr ⟨⟨due, timer⟩, rfl⟩
    · exact .inl rfl
  · exact .of_berths rfl

theorem cycles_cycleTests (s : State) : Cycles s (cycleTests s) :=
  (((cycles_cycleTest _ _).trans (cycles_cycleTest _ _)).trans (cycles_cycleTest _ _)).trans (cycles_cycleTest _ _)

theorem indexTest_berths (s : State) : (indexTest s).berths = s.berths := by simp

theorem giveClass_berths (s : State) : (giveClass s).berths = s.berths := by simp

theorem cycles_enterState (n : RunState) (k : Cause) (s : State) : Cycles s (enterState n k s) := by
  unfold enterState
  simp only []
  refine Cycles.congr ?_ (indexTest_berths _)
  refine Cycles.trans (.of_berths ?_) (cycles_cycleTests _)
  split <;> simp

theorem cycles_raise (src : Source) (s : State) : Cycles s (raise src s) := by
  unfold raise
  split
  · exact .of_berths rfl
  · refine Cycles.congr ?_ (giveClass_berths _)
    rcases demandTransition_cases src (queueReport (.stopDemand src src.cls)
      { s with run := { s.run with demands := addSource src s.run.demands } }) with h | ⟨n, -, h⟩
    · rw [h]
      exact .of_berths (by simp)
    · rw [h]
      exact Cycles.trans (.of_berths (by simp)) (cycles_enterState _ _ _)

theorem cycles_counterTake (i : Idx4) (ev : CounterEvent) (s : State) : Cycles s (counterTake i ev s) := by
  unfold counterTake
  split
  · split
    · unfold expire fireAction
      simp only []
      split
      · exact .of_berths (by simp)
      · exact .of_berths (by simp [counterCeilingTest])
      · exact Cycles.trans (.of_berths (by simp)) (cycles_raise _ _)
    · exact .of_berths (by simp)
  · exact .of_berths rfl

theorem cycles_offerEvent (ev : CounterEvent) (s : State) : Cycles s (offerEvent ev s) :=
  (((cycles_counterTake _ _ _).trans (cycles_counterTake _ _ _)).trans (cycles_counterTake _ _ _)).trans
    (cycles_counterTake _ _ _)

theorem offerEvent_supply (ev : CounterEvent) (s : State) : (offerEvent ev s).supply = s.supply :=
  offerEvent_touches ev s .supply (by decide)

end

end Sys2Proof.Machine
end

section
/-! SUPPORT. The berth controller as paths of moves: each operation of the doors keeps them sound, and a berth that no
event names, that is not Locked and does not wait, stays as it is through the grants of the others. -/

namespace Sys2Proof.Machine

open Config

section
variable {c : Core} {o : Owed} {s t : State} {i j : Idx4} {b : Berth}

@[simp] theorem setBerth_berth_same (i : Idx4) (b : Berth) (s : State) : (s.setBerth i b).berth i = b := by
  simp [State.berth_eq]

@[simp] theorem changeBerth_berth_same (i : Idx4) (b : Berth) (s : State) : (changeBerth i b s).berth i = b := by
  simp [State.berth_eq]

theorem changeBerth_supply (i : Idx4) (b : Berth) (s : State) : (changeBerth i b s).supply = s.supply := by
  simp [changeBerth]

/-! ### Sound doors (R80, R93, R94) -/

theorem grantHolders_length (s : State) : (grantHolders s).length = (s.berth .i1).grant.toNat +
    (s.berth .i2).grant.toNat + (s.berth .i3).grant.toNat + (s.berth .i4).grant.toNat := by
  unfold grantHolders Idx4.all
  simp only [List.filter_cons, List.filter_nil, ← State.berth_eq]
  split_ifs <;> simp_all

/-- A berth's record replaced: the doors stay sound where its new record suits what waits for it and holds no grant
beyond the two. -/
theorem DoorsSound.setBerth (hd : DoorsSound s)
    (waiting : ∀ e ∈ s.supply.wait, e.1 = i → b.grant = false ∧ e.2.suits b.state = true) (sound : b.grantSound)
    (held : b.grant = true → (s.berth i).grant = true ∨ (grantHolders s).length < grants)
    (locked : s.track.step.isSome = true → b.state = .locked) : DoorsSound (s.setBerth i b) := by
  obtain ⟨hgrants, hsound, hnodup, hwait, hstep⟩ := hd
  have other : ∀ j, (s.setBerth i b).berth j = if j = i then b else s.berth j := fun j => by
    simp [State.berth_eq, Quad.get_set]
  refine ⟨?_, fun j => ?_, by simpa using hnodup, fun e he => ?_, fun hs j => ?_⟩
  · have bound : b.grant.toNat + (grantHolders s).length ≤ grants + (s.berth i).grant.toNat := by
      cases hb : b.grant
      · simp only [Bool.toNat_false]
        omega
      · rcases held hb with h | h
        · simp only [h]
          omega
        · simp only [Bool.toNat_true]
          omega
    rw [grantHolders_length] at bound ⊢
    cases i <;> simp [other] at bound ⊢ <;> omega
  · rw [other]
    split
    · exact sound
    · exact hsound j
  · simp only [State.setBerth_fields] at he
    rw [other]
    split
    · exact waiting e he ‹_›
    · exact hwait e he
  · simp only [State.setBerth_fields] at hs
    rw [other]
    split
    · exact locked hs
    · exact hstep hs j

theorem DoorsSound.setWait {w : List (Idx4 × Motion)} (hd : DoorsSound s) (nodup : (w.map Prod.fst).Nodup)
    (fits : ∀ e ∈ w, e ∈ s.supply.wait ∨ (s.berth e.1).grant = false ∧ e.2.suits (s.berth e.1).state = true) :
    DoorsSound { s with supply := { s.supply with wait := w } } := by
  obtain ⟨hgrants, hsound, -, hwait, hstep⟩ := hd
  exact ⟨hgrants, hsound, nodup, fun e he => (fits e he).elim (hwait e) id, hstep⟩

theorem DoorsSound.fewerWait {w : List (Idx4 × Motion)} (hd : DoorsSound s) (sub : w.Sublist s.supply.wait) :
    DoorsSound { s with supply := { s.supply with wait := w } } :=
  hd.setWait ((sub.map Prod.fst).nodup hd.2.2.1) fun _ he => .inl (sub.subset he)

/-- Out of Locked no index step is in flight (R56). -/
theorem DoorsSound.still (hd : DoorsSound s) (h : (s.berth i).state ≠ .locked) : s.track.step.isSome = true → False :=
  fun hs => h (hd.2.2.2.2 hs i)

theorem DoorsSound.step_none (hd : DoorsSound s) (h : (s.berth i).state ≠ .locked) : s.track.step = none :=
  Option.not_isSome_iff_eq_none.mp (hd.still h)

/-- Only in Unlocked, Closed, Open and Homing does a berth wait for a grant (R93). -/
theorem DoorsSound.not_waiting (hd : DoorsSound s) (h : ∀ m, Motion.suits m (s.berth i).state = false) :
    ∀ e ∈ s.supply.wait, e.1 ≠ i := by
  rintro e he rfl
  simpa [h] using (hd.2.2.2.1 e he).2

theorem DoorsSound.ungranted (hd : DoorsSound s)
    (h : (s.berth i).state ≠ .opening ∧ (s.berth i).state ≠ .closing ∧ (s.berth i).state ≠ .homing) :
    (s.berth i).grant = false := by
  have := (hd.2.1 i).2
  cases hg : (s.berth i).grant
  · rfl
  · simpa [h] using this hg

theorem DoorsSound.granted_not_waiting (hd : DoorsSound s) (h : (s.berth i).grant = true) :
    ∀ e ∈ s.supply.wait, e.1 ≠ i := by
  rintro e he rfl
  simpa [h] using (hd.2.2.2.1 e he).1

/-! ### The moves of doors and wait list -/

/-- A move of doors and wait list that keeps them sound. -/
theorem Reach.door (h : Reach c o s.core)
    (e : t.core = { s.core with doors := t.core.doors, wait := t.core.wait })
    (sound : c.DoorsSound → DoorsSound s → DoorsSound t) : Reach c o t.core := by
  have allowed : c.DoorsSound → t.core.DoorsSound := fun hc =>
    (doorsSound_core t).mp (sound hc ((doorsSound_core s).mpr (h.doorsSound hc)))
  rw [e] at allowed ⊢
  exact h.doors _ _ allowed

theorem Reach.sound (h : Reach c o s.core) (hc : c.DoorsSound) : DoorsSound s :=
  (doorsSound_core s).mpr (h.doorsSound hc)

theorem Reach.setBerth (h : Reach c o s.core) (hocc : b.occupied = (s.berth i).occupied)
    (hset : b.settings = (s.berth i).settings)
    (sound : c.DoorsSound → DoorsSound s → DoorsSound (s.setBerth i b)) : Reach c o (s.setBerth i b).core :=
  h.door (by rw [setBerth_core hocc hset]) sound

theorem Reach.setWait {w : List (Idx4 × Motion)} (h : Reach c o s.core)
    (sound : c.DoorsSound → DoorsSound s → DoorsSound { s with supply := { s.supply with wait := w } }) :
    Reach c o { s with supply := { s.supply with wait := w } }.core := h.door rfl sound

theorem Reach.changeStill (h : Reach c o s.core) (hocc : b.occupied = (s.berth i).occupied)
    (hset : b.settings = (s.berth i).settings) (hdoor : b.door = (s.berth i).door) :
    Reach c o (changeBerth i b s).core := Reach.offerBerth (h.setStill hocc hset hdoor)

/-! ### The wait list (R93) -/

theorem withdraw_sublist (i : Idx4) (w : List (Idx4 × Motion)) : (withdraw i w).Sublist w := List.filter_sublist

theorem mem_withdraw {e : Idx4 × Motion} {w : List (Idx4 × Motion)} : e ∈ withdraw i w ↔ e ∈ w ∧ e.1 ≠ i := by
  simp [withdraw]

theorem mem_insertWait {e : Idx4 × Motion} {m : Motion} {w : List (Idx4 × Motion)} :
    e ∈ insertWait i m w ↔ e = (i, m) ∨ e ∈ w := by
  simp only [insertWait, List.mem_append, List.mem_cons, List.mem_filter]
  by_cases h : e.2.priority ≤ m.priority
  all_goals simp only [h, decide_true, decide_false, Bool.not_true, Bool.not_false, and_true]; tauto

theorem insertWait_perm (j : Idx4) (m : Motion) (v : List (Idx4 × Motion)) : (insertWait j m v).Perm ((j, m) :: v) :=
  List.perm_middle.trans ((List.filter_append_perm _ v).cons _)

theorem nodup_insertWait {m : Motion} {w : List (Idx4 × Motion)} (h : (w.map Prod.fst).Nodup)
    (fresh : ∀ e ∈ w, e.1 ≠ i) : ((insertWait i m w).map Prod.fst).Nodup := by
  refine ((insertWait_perm i m w).map Prod.fst).nodup_iff.mpr (List.nodup_cons.mpr ⟨fun hmem => ?_, h⟩)
  obtain ⟨e, he, hi⟩ := List.mem_map.mp hmem
  exact fresh e he hi

protected theorem Reach.withdrawRequest (h : Reach c o s.core) : Reach c o (withdrawRequest i s).core :=
  h.setWait fun _ hd => hd.fewerWait (withdraw_sublist _ _)

/-- A request is put on the wait list for a berth that holds no grant, in a state that asks for it (R93). -/
protected theorem Reach.queueRequest {m : Motion} (h : Reach c o s.core)
    (fits : c.DoorsSound → (s.berth i).grant = false ∧ m.suits (s.berth i).state = true) :
    Reach c o (queueRequest i m s).core := by
  unfold Machine.queueRequest
  split
  · exact h
  · refine h.setWait fun hc hd => hd.setWait ?_ fun e he => ?_
    · exact nodup_insertWait (((withdraw_sublist i _).map _).nodup hd.2.2.1) fun e he => (mem_withdraw.mp he).2
    · rcases mem_insertWait.mp he with rfl | hold
      · exact .inr (fits hc)
      · exact .inl (mem_withdraw.mp hold).1

/-! ### A berth aside -/

/-- Berth `i` stands as `b`, not Locked; its entries on the wait list are `w`. -/
structure Stands (i : Idx4) (b : Berth) (w : List (Idx4 × Motion)) (s : State) : Prop where
  berth : s.berth i = b
  unlocked : b.state ≠ .locked
  entries : (s.supply.wait.filter fun e => decide (e.1 = i)).Perm w

/-- Berth `i` stands as `b`, not Locked and without an entry on the wait list. -/
abbrev Rests (i : Idx4) (b : Berth) (s : State) : Prop := Stands i b [] s

section
variable {w : List (Idx4 × Motion)}

theorem Rests.of (berth : s.berth i = b) (unlocked : b.state ≠ .locked) (unasked : ∀ e ∈ s.supply.wait, e.1 ≠ i) :
    Rests i b s := ⟨berth, unlocked, by simpa using unasked⟩

theorem Stands.unasked (h : Rests i b s) : ∀ e ∈ s.supply.wait, e.1 ≠ i := by
  simpa using h.entries

theorem Stands.cycles (h : Stands i b w s) (hb : Cycles s t) (hs : t.supply = s.supply) : Stands i b w t :=
  ⟨(hb.berth (by rw [h.berth]; exact h.unlocked)).trans h.berth, h.unlocked, by rw [hs]; exact h.entries⟩

theorem Stands.congr (h : Stands i b w s) (hb : t.berths = s.berths) (hs : t.supply = s.supply) : Stands i b w t :=
  h.cycles (.of_berths hb) hs

theorem Stands.offerEvent (h : Stands i b w s) (ev : CounterEvent) : Stands i b w (offerEvent ev s) :=
  h.cycles (cycles_offerEvent ev s) (offerEvent_supply ev s)

theorem Stands.other {d : Berth} (h : Stands i b w s) (hne : j ≠ i) : Stands i b w (changeBerth j d s) :=
  ⟨by rw [State.berth_eq, changeBerth_berths, Quad.get_set_ne _ _ (Ne.symm hne)]; exact h.berth, h.unlocked,
    by simpa [changeBerth] using h.entries⟩

theorem Stands.setOther {d : Berth} (h : Stands i b w s) (hne : j ≠ i) : Stands i b w (s.setBerth j d) :=
  ⟨by rw [State.berth_eq, State.setBerth]; exact (Quad.get_set_ne _ _ (Ne.symm hne)).trans h.berth, h.unlocked,
    h.entries⟩

theorem Stands.setSupply {p : Supply} (h : Stands i b w s)
    (same : (p.wait.filter fun e => decide (e.1 = i)).Perm (s.supply.wait.filter fun e => decide (e.1 = i))) :
    Stands i b w { s with supply := p } := ⟨h.berth, h.unlocked, same.trans h.entries⟩

theorem filter_withdraw_ne (hne : j ≠ i) (v : List (Idx4 × Motion)) :
    ((withdraw j v).filter fun e => decide (e.1 = i)) = v.filter fun e => decide (e.1 = i) := by
  rw [withdraw, List.filter_filter]
  refine List.filter_congr fun e _ => ?_
  by_cases h : e.1 = i
  · simp [h, Ne.symm hne]
  · simp [h]

theorem Stands.queueRequest {m : Motion} (h : Stands i b w s) (hne : j ≠ i) : Stands i b w (queueRequest j m s) := by
  unfold Machine.queueRequest
  split
  · exact h
  · refine h.setSupply (((insertWait_perm j m _).filter _).trans (List.Perm.of_eq ?_))
    rw [List.filter_cons_of_neg (by simpa using hne), filter_withdraw_ne hne]

theorem Stands.faultBerth {reason : FaultReason} (h : Stands i b w s) (hne : j ≠ i) :
    Stands i b w (faultBerth j reason s) :=
  Stands.other (h.setSupply (p := { s.supply with wait := _ }) (.of_eq (filter_withdraw_ne hne _))) hne

theorem Stands.limitTest (h : Stands i b w s) (hne : j ≠ i) : Stands i b w (limitTest j s) := by
  unfold Machine.limitTest
  split
  · exact h.other hne
  · exact h

theorem Stands.countReversal (h : Stands i b w s) (hne : j ≠ i) : Stands i b w (countReversal j s) :=
  ((h.setOther hne).offerEvent _).limitTest hne

/-- A grant to another berth; `test` is the test of the motion supply that a release in between makes. -/
theorem Stands.grantOther {test : State → State} {P : State → Prop} {k : Idx4} {m : Motion}
    {rest : List (Idx4 × Motion)} (htest : ∀ u, Stands i b w u → P (test u)) (here : ∀ u, Stands i b w u → P u)
    (counted : ∀ u, P u → P (Machine.countReversal k u)) (asked : ∀ u, P u → P (Machine.queueRequest k .closing u))
    (h : Stands i b w s) (hwait : s.supply.wait = (k, m) :: rest) (hne : k ≠ i) : P (grantHead test s) := by
  have left : Stands i b w { s with supply := { s.supply with wait := rest, sinceGrant := some 0 } } :=
    h.setSupply (by rw [hwait, List.filter_cons_of_neg (by simpa using hne)])
  unfold Machine.grantHead
  rw [hwait]
  cases m with
  | opening => exact here _ (left.other hne)
  | homing =>
    simp only [grantHoming]
    split
    · exact here _ (left.faultBerth hne)
    · exact here _ (left.setOther hne)
  | closing =>
    simp only [grantClose]
    split
    · have reversed := counted _ (htest _ left)
      split
      · exact asked _ reversed
      · exact reversed
    · exact here _ (left.other hne)

end

theorem Rests.grantHead {test : State → State} (htest : ∀ u, Rests i b u → Rests i b (test u)) (h : Rests i b s) :
    Rests i b (grantHead test s) := by
  cases hwait : s.supply.wait with
  | nil => simpa [Machine.grantHead, hwait] using h
  | cons e rest =>
    have hne : e.1 ≠ i := h.unasked e (by simp [hwait])
    exact Stands.grantOther (P := Rests i b) htest (fun _ => id) (fun _ hu => hu.countReversal hne)
      (fun _ hu => hu.queueRequest hne) h hwait hne

theorem Rests.supplyLoop (n : Nat) (h : Rests i b s) : Rests i b (supplyLoop n s) := by
  induction n generalizing s with
  | zero => exact h
  | succ n ih =>
    unfold Machine.supplyLoop
    split
    · exact ih (h.grantHead fun u hu => ih hu)
    · exact h

theorem Rests.supplyTest (h : Rests i b s) : Rests i b (supplyTest s) := h.supplyLoop 32

/-! ### Reversals and faults (R88 to R90) -/

protected theorem Reach.limitTest (h : Reach c o s.core) : Reach c o (limitTest i s).core := by
  unfold Machine.limitTest
  split
  · exact h.changeStill rfl rfl rfl
  · exact h

protected theorem Reach.countReversal (h : Reach c o s.core) : Reach c o (countReversal i s).core :=
  (Reach.offerEvent (h.setStill (b := { s.berth i with reopens := min ((s.berth i).reopens + 1) 255 })
    rfl rfl rfl)).limitTest

/-- A reversal counted leaves the wait list, and of a berth out of Locked its doors. -/
theorem countReversal_door (h : (s.berth i).state ≠ .locked) :
    ((countReversal i s).berth i).door = (s.berth i).door ∧ (countReversal i s).supply = s.supply := by
  have counted := cycles_offerEvent (reopenEvent s i)
    (s.setBerth i { s.berth i with reopens := min ((s.berth i).reopens + 1) 255 })
  have berth := counted.berth (i := i) (by simpa [State.berth_eq] using h)
  have supply := offerEvent_supply (reopenEvent s i)
    (s.setBerth i { s.berth i with reopens := min ((s.berth i).reopens + 1) 255 })
  unfold countReversal limitTest
  split
  · refine ⟨?_, by simpa [changeBerth] using supply⟩
    rw [State.berth_eq, changeBerth_berths, Quad.get_set_same, berth]
    simp [State.berth_eq, Berth.door]
  · refine ⟨?_, by simpa using supply⟩
    rw [berth]
    simp [State.berth_eq, Berth.door]

/-- The entry to Fault, the doors' motion and request ended (R90). -/
protected theorem Reach.faultBerth {reason : FaultReason} (h : Reach c o s.core)
    (still : c.DoorsSound → s.track.step = none) : Reach c o (faultBerth i reason s).core := by
  refine Reach.offerBerth (Reach.setBerth (h.withdrawRequest (i := i)) rfl rfl fun hc hd => ?_)
  refine hd.setBerth (fun e he hi => absurd hi (mem_withdraw.mp he).2) ?_ (fun h => nomatch h) fun hs => ?_
  · exact ⟨fun h => by simp [Berth.faulted] at h, fun h => nomatch h⟩
  · simp [withdrawRequest, still hc] at hs

/-! ### The motion supply (R94, R95) -/

theorem DoorsSound.head {k : Idx4} {m : Motion} {rest : List (Idx4 × Motion)} (hd : DoorsSound s)
    (hwait : s.supply.wait = (k, m) :: rest) : (s.berth k).grant = false ∧ m.suits (s.berth k).state = true ∧
      (∀ e ∈ rest, e.1 ≠ k) ∧ (s.berth k).state ≠ .locked := by
  obtain ⟨-, -, hnodup, hfits, -⟩ := hd
  obtain ⟨free, suits⟩ := hfits (k, m) (by simp [hwait])
  rw [hwait, List.map_cons, List.nodup_cons] at hnodup
  refine ⟨free, suits, ?_, ?_⟩
  · rintro e he rfl
    exact hnodup.1 (List.mem_map.mpr ⟨e, he, rfl⟩)
  · intro locked
    cases m <;> simp [Motion.suits, locked] at suits

/-- A berth that moves by its grant holds no entry any more, and takes one of the two grants. -/
theorem DoorsSound.granted {st : BerthState} (hd : DoorsSound s) (unasked : ∀ e ∈ s.supply.wait, e.1 ≠ i)
    (hgrant : b.grant = true) (hstate : b.state = st) (moves : st = .opening ∨ st = .closing ∨ st = .homing)
    (room : (grantHolders s).length < grants) (unlocked : (s.berth i).state ≠ .locked) :
    DoorsSound (s.setBerth i b) := by
  refine hd.setBerth (fun e he hi => absurd hi (unasked e he)) ⟨fun _ => hgrant, fun _ => hstate ▸ moves⟩
    (fun _ => .inr room) fun hs => (hd.still unlocked hs).elim

protected theorem Reach.grantHead {test : State → State} (htest : ∀ u, Reach c o u.core → Reach c o (test u).core)
    (hrests : ∀ k d u, Rests k d u → Rests k d (test u)) (h : Reach c o s.core) (ready : supplyReady s = true) :
    Reach c o (grantHead test s).core := by
  have room : (grantHolders s).length < grants := by
    simp only [supplyReady, Bool.and_eq_true, decide_eq_true_eq] at ready
    exact ready.1.1.1
  unfold Machine.grantHead
  split
  · exact h
  · rename_i k m rest hwait
    have facts : c.DoorsSound → _ := fun hc => (h.sound hc).head hwait
    have left : Reach c o { s with supply := { s.supply with wait := rest, sinceGrant := some 0 } }.core :=
      (h.setWait (w := rest) fun _ hd => hd.fewerWait (hwait ▸ List.sublist_cons_self _ _)).edit rfl
    have rests : c.DoorsSound → Rests k (s.berth k)
        { s with supply := { s.supply with wait := rest, sinceGrant := some 0 } } := fun hc => by
      obtain ⟨-, -, unasked, unlocked⟩ := facts hc
      exact .of rfl unlocked unasked
    cases m with
    | opening =>
      refine Reach.offerBerth (left.setBerth rfl rfl fun hc hd => ?_)
      exact hd.granted (rests hc).unasked rfl rfl (.inl rfl) room (rests hc).unlocked
    | homing =>
      simp only [grantHoming]
      split
      · exact left.faultBerth fun hc => (h.sound hc).step_none (rests hc).unlocked
      · refine left.setBerth rfl rfl fun hc hd => ?_
        exact hd.granted (rests hc).unasked rfl rfl (.inr (.inr rfl)) room (rests hc).unlocked
    | closing =>
      simp only [grantClose]
      split
      · have counted := (htest _ left).countReversal (i := k)
        split
        · refine counted.queueRequest fun hc => ?_
          obtain ⟨free, suits, -, -⟩ := facts hc
          have after := hrests _ _ _ (rests hc)
          have door := (countReversal_door (by rw [after.berth]; exact after.unlocked)).1
          rw [after.berth] at door
          exact ⟨(congrArg Prod.snd door).trans free, by rw [show Berth.state _ = _ from congrArg Prod.fst door]; exact suits⟩
        · exact counted
      · refine Reach.offerBerth (left.setBerth rfl rfl fun hc hd => ?_)
        exact hd.granted (rests hc).unasked rfl rfl (.inr (.inl rfl)) room (rests hc).unlocked

protected theorem Reach.supplyLoop {n : Nat} (h : Reach c o s.core) : Reach c o (supplyLoop n s).core := by
  induction n generalizing s with
  | zero => exact h
  | succ n ih =>
    unfold Machine.supplyLoop
    split
    · rename_i ready
      exact ih (h.grantHead (fun _ hu => ih hu) (fun _ _ _ hu => hu.supplyLoop n) ready)
    · exact h

protected theorem Reach.supplyTest (h : Reach c o s.core) : Reach c o (supplyTest s).core := h.supplyLoop

protected theorem Reach.request {m : Motion} (h : Reach c o s.core)
    (fits : c.DoorsSound → (s.berth i).grant = false ∧ m.suits (s.berth i).state = true) :
    Reach c o (request i m s).core := (h.queueRequest fits).supplyTest

protected theorem Reach.fault {reason : FaultReason} (h : Reach c o s.core)
    (still : c.DoorsSound → s.track.step = none) : Reach c o (fault i reason s).core := by
  unfold Machine.fault
  split
  · exact (h.faultBerth still).supplyTest
  · exact h.faultBerth still

/-- A fault of a berth out of Locked (R56, R90). -/
theorem Reach.faultMoving {reason : FaultReason} (h : Reach c o s.core) (unlocked : (s.berth i).state ≠ .locked) :
    Reach c o (Machine.fault i reason s).core := h.fault fun hc => (h.sound hc).step_none unlocked

end

end Sys2Proof.Machine
end

section
/-! SUPPORT. The door cycle, the senses, the freeze and the berth requests as paths of moves. -/

namespace Sys2Proof.Machine

open Config

section
variable {c : Core} {o : Owed} {s t : State} {i j : Idx4} {b : Berth}

/-! ### Notices (R4, R59, R81) -/

protected theorem Reach.wakingTest (h : Reach c o s.core) : Reach c o (wakingTest s).core := by
  unfold Machine.wakingTest
  split
  · split
    · exact h.enterState trivial
    · rename_i calm
      exact h.enterState (.inr calm)
  · exact h

theorem addCycle_key (i : Idx4) (n : Nat) (r : CarrierRec) : (addCycle i n r).key = r.key := rfl

protected theorem Reach.cycleNotice {ran : Bool} {n : Nat} (h : Reach c o s.core) :
    Reach c o (cycleNotice i ran n s).core := by
  unfold Machine.cycleNotice
  split
  · have same : (s.track.berths.set i ((s.track.berths.get i).map (addCycle i n))).map (Option.map CarrierRec.key) =
        s.track.berths.map (Option.map CarrierRec.key) := Quad.ext_get fun j => by
      simp only [Quad.get_map, Quad.get_set]
      split
      · rename_i e
        subst e
        cases s.track.berths.get j <;> rfl
      · rfl
    refine Reach.indexTest (h.edit ?_)
    simp only [State.core, same]
  · exact h.indexTest

protected theorem Reach.lockedNotice {done : Bool} (h : Reach c o s.core) : Reach c o (lockedNotice i done s).core := by
  unfold Machine.lockedNotice
  split
  · exact h.cycleNotice.wakingTest
  · exact h.indexTest.wakingTest

/-! ### The door cycle (R82 to R87) -/

/-- A berth without grant or entry moves to another state, its motion over (R83 to R87). -/
theorem Reach.moveUnasked (h : Reach c o s.core) (hocc : b.occupied = (s.berth i).occupied)
    (hset : b.settings = (s.berth i).settings) (free : c.DoorsSound → b.grant = false)
    (asks : b.state ≠ .opening ∧ b.state ≠ .closing)
    (unasked : c.DoorsSound → ∀ e ∈ s.supply.wait, e.1 ≠ i)
    (locked : c.DoorsSound → s.track.step.isSome = true → b.state = .locked) :
    Reach c o (changeBerth i b s).core := by
  refine Reach.offerBerth (h.setBerth hocc hset fun hc hd => ?_)
  refine hd.setBerth (fun e he hi => absurd hi (unasked hc e he)) ⟨fun h => (h.elim asks.1 asks.2).elim, fun h => ?_⟩
    (fun h => ?_) (locked hc)
  all_goals simp [free hc] at h

protected theorem Reach.lockBerth (h : Reach c o s.core) (free : c.DoorsSound → (s.berth i).grant = false)
    (unasked : c.DoorsSound → ∀ e ∈ s.supply.wait, e.1 ≠ i) : Reach c o (lockBerth i s).core :=
  Reach.cycleTest (Reach.lockedNotice (h.moveUnasked rfl rfl free (by simp) unasked fun _ _ => rfl))

protected theorem Reach.startLocking (h : Reach c o s.core) (free : c.DoorsSound → (s.berth i).grant = false)
    (unasked : c.DoorsSound → ∀ e ∈ s.supply.wait, e.1 ≠ i) (unlocked : c.DoorsSound → (s.berth i).state ≠ .locked) :
    Reach c o (startLocking i s).core := by
  have locking : Reach c o (changeBerth i
      { s.berth i with state := .locking, timer := some (.lock, (s.berth i).settings.tLock) } s).core :=
    h.moveUnasked rfl rfl free (by simp) unasked fun hc hs => ((h.sound hc).still (unlocked hc) hs).elim
  unfold Machine.startLocking
  simp only []
  split
  · refine locking.lockBerth (fun hc => ?_) fun hc => ?_
    · simpa using free hc
    · simpa [changeBerth_supply] using unasked hc
  · exact locking

protected theorem Reach.recoveryExpired (h : Reach c o s.core) : Reach c o (recoveryExpired i s).core := by
  unfold Machine.recoveryExpired
  split
  · exact Reach.cycleTest (h.setStill rfl rfl rfl)
  · exact h

protected theorem Reach.unlockExpired (h : Reach c o s.core) : Reach c o (unlockExpired i s).core := by
  unfold Machine.unlockExpired
  split
  · rename_i cond
    obtain ⟨state, -⟩ := cond
    have free : c.DoorsSound → (s.berth i).grant = false := fun hc => (h.sound hc).ungranted (by simp [state])
    have unlocked : Reach c o (changeBerth i { s.berth i with state := .unlocked, timer := none } s).core :=
      h.moveUnasked rfl rfl free (by simp)
        (fun hc => (h.sound hc).not_waiting fun m => by cases m <;> simp [Motion.suits, state])
        fun hc hs => ((h.sound hc).still (i := i) (by simp [state]) hs).elim
    simp only []
    split
    · exact h.faultMoving (by simp [state])
    · split
      · exact unlocked.request fun hc => by simp [Motion.suits, free hc]
      · exact unlocked
  · exact h

/-- An open door asks for its closing, a closed one for its opening. -/
theorem Reach.requestRested {m : Motion} (h : Reach c o s.core) (rests : c.DoorsSound → Rests i b s)
    (free : b.grant = false) (suits : m.suits b.state = true) : Reach c o (request i m s).core :=
  h.request fun hc => by rw [(rests hc).berth]; exact ⟨free, suits⟩

protected theorem Reach.openEntered (h : Reach c o s.core) (rests : c.DoorsSound → Rests i b s)
    (free : b.grant = false) (opened : b.state = .opened) : Reach c o (openEntered i s).core := by
  unfold Machine.openEntered
  simp only []
  split
  · split
    · exact h.setStill rfl rfl rfl
    · exact h.requestRested rests free (by simp [opened, Motion.suits])
  · exact h

/-- The end of a motion gives its grant back, with the test of the motion supply (R84, R86, R95). -/
theorem Reach.endMotion (h : Reach c o s.core) (hocc : b.occupied = (s.berth i).occupied)
    (hset : b.settings = (s.berth i).settings) (free : b.grant = false)
    (ended : b.state = .opened ∨ b.state = .closed) (moves : (s.berth i).state = .opening ∨ (s.berth i).state = .closing) :
    Reach c o (supplyTest (changeBerth i b s)).core ∧
      (c.DoorsSound → Rests i b (supplyTest (changeBerth i b s))) := by
  have unasked : c.DoorsSound → ∀ e ∈ s.supply.wait, e.1 ≠ i := fun hc =>
    (h.sound hc).not_waiting fun m => by cases m <;> rcases moves with e | e <;> simp [Motion.suits, e]
  have unlocked : (s.berth i).state ≠ .locked := by rcases moves with e | e <;> simp [e]
  refine ⟨(h.moveUnasked hocc hset (fun _ => free) ?_ unasked fun hc hs =>
    ((h.sound hc).still unlocked hs).elim).supplyTest, fun hc => Rests.supplyTest (.of ?_ ?_ ?_)⟩
  · rcases ended with e | e <;> simp [e]
  · simp
  · rcases ended with e | e <;> simp [e]
  · simpa [changeBerth_supply] using unasked hc

protected theorem Reach.openingExpired (h : Reach c o s.core) : Reach c o (openingExpired i s).core := by
  unfold Machine.openingExpired
  split
  · rename_i cond
    obtain ⟨state, -⟩ := cond
    split
    · obtain ⟨ended, rests⟩ := h.endMotion (i := i)
        (b := { s.berth i with state := .opened, grant := false, timer := none }) rfl rfl rfl (.inl rfl) (.inl state)
      exact ended.openEntered rests rfl rfl
    · exact h.faultMoving (by simp [state])
  · exact h

protected theorem Reach.dwellExpired (h : Reach c o s.core) : Reach c o (dwellExpired i s).core := by
  unfold Machine.dwellExpired
  split
  · rename_i cond
    obtain ⟨state, -⟩ := cond
    refine Reach.request (h.setStill rfl rfl rfl) fun hc => ?_
    have free := (h.sound hc).ungranted (i := i) (by simp [state])
    simp [free, state, Motion.suits]
  · exact h

protected theorem Reach.closingExpired (h : Reach c o s.core) : Reach c o (closingExpired i s).core := by
  unfold Machine.closingExpired
  split
  · rename_i cond
    obtain ⟨state, -⟩ := cond
    split
    · obtain ⟨ended, rests⟩ := h.endMotion (i := i)
        (b := { s.berth i with state := .closed, grant := false, timer := none }) rfl rfl rfl (.inr rfl) (.inr state)
      simp only []
      split
      · refine ended.offerEvent.startLocking (fun hc => ?_) (fun hc => ((rests hc).offerEvent _).unasked) fun hc => ?_
        · rw [((rests hc).offerEvent _).berth]
        · rw [((rests hc).offerEvent _).berth]
          simp
      · exact ended.offerEvent
    · exact h.faultMoving (by simp [state])
  · exact h

protected theorem Reach.lockExpired (h : Reach c o s.core) : Reach c o (lockExpired i s).core := by
  unfold Machine.lockExpired
  split
  · rename_i cond
    obtain ⟨state, -⟩ := cond
    exact h.faultMoving (by simp [state])
  · exact h

protected theorem Reach.homingExpired (h : Reach c o s.core) : Reach c o (homingExpired i s).core := by
  unfold Machine.homingExpired
  simp only []
  split
  · rename_i cond
    obtain ⟨state, grant, -⟩ := cond
    split
    · exact h.setStill rfl rfl rfl
    · split
      · refine Reach.cycleTest (Reach.lockedNotice (Reach.supplyTest (h.moveUnasked rfl rfl (fun _ => rfl) (by simp)
          (fun hc => ?_) fun _ _ => rfl)))
        exact (h.sound hc).granted_not_waiting grant
      · exact h.faultMoving (by simp [state])
  · exact h

protected theorem Reach.gapExpired (h : Reach c o s.core) : Reach c o (gapExpired s).core := by
  unfold Machine.gapExpired
  split
  · exact h
  · exact Reach.supplyTest (h.edit rfl)

/-! ### Senses (R79, R84 to R91, R98) -/

protected theorem Reach.motionCompleteSense {on : Bool} (h : Reach c o s.core) :
    Reach c o (motionCompleteSense i on s).core := by
  unfold Machine.motionCompleteSense
  simp only []
  split <;> exact h.setStill rfl rfl rfl

protected theorem Reach.lockConfirmSense {on : Bool} (h : Reach c o s.core) :
    Reach c o (lockConfirmSense i on s).core := by
  have sensed : ∀ d : Senses, Reach c o (s.setBerth i { s.berth i with senses := d }).core := fun d =>
    h.setStill rfl rfl rfl
  unfold Machine.lockConfirmSense
  simp only []
  split
  · rename_i arrival
    have state : (s.berth i).state = .locking := by simp_all
    refine Reach.lockBerth (sensed _) (fun hc => ?_) fun hc => ?_
    · simpa using (h.sound hc).ungranted (i := i) (by simp [state])
    · simpa using (h.sound hc).not_waiting (i := i) fun m => by cases m <;> simp [Motion.suits, state]
  · exact sensed _

/-- A Closing reversed into Opening, its grant kept (R88, R95). -/
protected theorem Reach.reverse (h : Reach c o s.core) (closing : (s.berth i).state = .closing) :
    Reach c o (reverse i s).core := by
  refine Reach.countReversal (Reach.offerBerth (h.setBerth rfl rfl fun hc hd => ?_))
  have granted : (s.berth i).grant = true := (hd.2.1 i).1 (.inr closing)
  exact hd.setBerth (fun e he hi => absurd hi (hd.granted_not_waiting granted e he))
    ⟨fun _ => granted, fun _ => .inl rfl⟩ (fun _ => .inl granted)
    fun hs => (hd.still (i := i) (by simp [closing]) hs).elim

protected theorem Reach.obstructionSense {on : Bool} (h : Reach c o s.core) :
    Reach c o (obstructionSense i on s).core := by
  have sensed : ∀ d : Senses, Reach c o (s.setBerth i { s.berth i with senses := d }).core := fun d =>
    h.setStill rfl rfl rfl
  unfold Machine.obstructionSense
  simp only []
  split
  · split
    · rename_i closing
      exact Reach.reverse (sensed _) (by simpa using closing)
    · split
      · rename_i cond
        exact Reach.faultMoving (sensed _) (by simp [cond.1])
      · exact sensed _
  · exact sensed _

protected theorem Reach.driveFaultChange {on : Bool} (h : Reach c o s.core) :
    Reach c o (driveFaultChange i on s).core := by
  have sensed : ∀ d : Senses, Reach c o (s.setBerth i { s.berth i with senses := d }).core := fun d =>
    h.setStill rfl rfl rfl
  unfold Machine.driveFaultChange
  simp only []
  split
  · split
    · split
      · exact sensed _
      · exact Reach.changeStill (sensed _) rfl rfl rfl
    · rename_i free
      refine Reach.fault (sensed _) fun hc => ?_
      by_cases locked : (s.berth i).state = .locked
      · simpa [locked] using free
      · simpa using (h.sound hc).step_none locked
  · exact sensed _

end

end Sys2Proof.Machine
end

section
/-! SUPPORT. Faults that wait for the end of an index step, Park and Wake, the freeze, and the berth requests as paths of
moves. -/

namespace Sys2Proof.Machine

open Config

section
variable {c : Core} {o : Owed} {s t : State} {i j : Idx4} {b : Berth}

/-! ### Faults pending (R91) -/

/-- No index step is in flight and no grant is held, as at the end of an index step (R56, R58). -/
def AtRest (s : State) : Prop := s.track.step = none ∧ ∀ i, (s.berth i).grant = false

theorem AtRest.pendingFault (h : AtRest s) (i : Idx4) : AtRest (pendingFault i s) := by
  unfold Machine.pendingFault
  split
  · rw [fault, if_neg (by simp [h.2])]
    refine ⟨by simpa [faultBerth, changeBerth, withdrawRequest] using h.1, fun j => ?_⟩
    simp only [faultBerth, State.berth_eq, changeBerth_berths, Quad.get_set]
    split
    · rfl
    · exact h.2 j
  · exact h

protected theorem Reach.pendingFault (h : Reach c o s.core) (rest : c.DoorsSound → AtRest s) :
    Reach c o (pendingFault i s).core := by
  unfold Machine.pendingFault
  split
  · exact h.fault fun hc => (rest hc).1
  · exact h

protected theorem Reach.pendingFaults (h : Reach c o s.core) (rest : c.DoorsSound → AtRest s) :
    Reach c o (pendingFaults s).core := by
  have r1 := fun hc => (rest hc).pendingFault .i1
  have r2 := fun hc => (r1 hc).pendingFault .i2
  have r3 := fun hc => (r2 hc).pendingFault .i3
  exact (((h.pendingFault rest).pendingFault r1).pendingFault r2).pendingFault r3

/-! ### Park and Wake (R97) -/

protected theorem Reach.changeBerths {q : Quad Berth} (h : Reach c o { s with berths := q }.core) :
    Reach c o (changeBerths q s).core := by
  unfold Machine.changeBerths
  split
  · exact h
  · exact h.offerBerth

/-- Every berth replaced by one with the same occupancy and settings, and the wait list replaced. -/
theorem Reach.allDoors {f : Berth → Berth} {w : List (Idx4 × Motion)} (h : Reach c o s.core)
    (hocc : ∀ b, (f b).occupied = b.occupied) (hset : ∀ b, (f b).settings = b.settings)
    (sound : DoorsSound s → DoorsSound
      { s with berths := s.berths.map f, supply := { s.supply with wait := w } }) :
    Reach c o (changeBerths (s.berths.map f) { s with supply := { s.supply with wait := w } }).core := by
  refine Reach.changeBerths (h.door ?_ fun _ => sound)
  have occupied : (s.berths.map f).map Berth.occupied = s.berths.map Berth.occupied :=
    Quad.ext_get fun i => by simp [hocc]
  have settings : (s.berths.map f).map Berth.settings = s.berths.map Berth.settings :=
    Quad.ext_get fun i => by simp [hset]
  simp only [State.core, occupied, settings]

theorem Berth.park_state (b : Berth) : b.park.state = .parked ∨ b.park.state = .fault := by
  unfold Berth.park
  split
  · exact .inr rfl
  · split
    · exact .inr ‹_›
    · exact .inl rfl

theorem Berth.park_grant (h : b.grantSound) : b.park.grant = false := by
  unfold Berth.park
  split
  · rfl
  · split
    · rename_i fault
      have := h.2
      simpa [fault] using this
    · rfl

protected theorem Reach.parkBerths (h : Reach c o s.core) (still : s.track.step = none) :
    Reach c o (parkBerths s).core := by
  refine h.allDoors (fun b => ?_) (fun b => ?_) fun hd => ?_
  iterate 2
    unfold Berth.park Berth.faulted
    (repeat' split) <;> rfl
  have get : ∀ i, State.berth { s with berths := s.berths.map Berth.park, supply := { s.supply with wait := [] } } i =
      (s.berth i).park := fun i => by simp [State.berth_eq]
  have free : ∀ i, (s.berth i).park.grant = false := fun i => Berth.park_grant (hd.2.1 i)
  refine ⟨?_, fun i => ?_, List.nodup_nil, fun e he => (List.not_mem_nil he).elim, fun hs => by simp [still] at hs⟩
  · rw [grantHolders_length]
    simp [get, free, grants]
  · rw [get]
    refine ⟨fun moving => ?_, fun granted => ?_⟩
    · rcases Berth.park_state (s.berth i) with e | e <;> simp [e] at moving
    · simp [free] at granted

theorem Berth.home_grant (b : Berth) : b.home.grant = b.grant := by
  unfold Berth.home
  split <;> rfl

theorem Berth.home_state (b : Berth) : b.home.state = if b.state = .parked then .homing else b.state := by
  unfold Berth.home
  split <;> rfl

theorem homingWaits_fst (q : Quad Berth) :
    (homingWaits q).map Prod.fst = Idx4.all.filter fun i => decide ((q.get i).state = .parked) := by
  simp [homingWaits, Function.comp_def]

/-- The Homing requests of the entry to Waking join the wait list, their berths Homing (R97). -/
theorem DoorsSound.homing (hd : DoorsSound s) : DoorsSound { s with
    berths := s.berths.map Berth.home, supply := { s.supply with wait := s.supply.wait ++ homingWaits s.berths } } := by
  have get : ∀ i, State.berth { s with
      berths := s.berths.map Berth.home
      supply := { s.supply with wait := s.supply.wait ++ homingWaits s.berths } } i = (s.berth i).home := fun i => by
    simp [State.berth_eq]
  have unasked : ∀ i, (s.berth i).state = .parked → ∀ e ∈ s.supply.wait, e.1 ≠ i := fun i parked =>
    hd.not_waiting fun m => by cases m <;> simp [Motion.suits, parked]
  have waiting : ∀ e ∈ homingWaits s.berths, (s.berth e.1).state = .parked ∧ e.2 = .homing := by
    intro e he
    simp only [homingWaits, List.mem_map, List.mem_filter, decide_eq_true_eq] at he
    obtain ⟨i, ⟨-, parked⟩, rfl⟩ := he
    exact ⟨parked, rfl⟩
  have unparked := hd
  obtain ⟨hgrants, hsound, hnodup, hwait, hstep⟩ := hd
  refine ⟨?_, fun i => ?_, ?_, fun e he => ?_, fun hs i => ?_⟩
  · rw [grantHolders_length] at hgrants ⊢
    simpa [get, Berth.home_grant] using hgrants
  · rw [get, Berth.grantSound, Berth.home_grant, Berth.home_state]
    split
    · rename_i parked
      exact ⟨fun h => by simp at h, fun _ => .inr (.inr rfl)⟩
    · exact hsound i
  · rw [List.map_append, List.nodup_append, homingWaits_fst]
    refine ⟨hnodup, (by decide : Idx4.all.Nodup).filter _, fun i hi k hk => ?_⟩
    obtain ⟨e, he, rfl⟩ := List.mem_map.mp hi
    simp only [List.mem_filter, decide_eq_true_eq] at hk
    exact unasked k hk.2 e he
  · rw [get, Berth.home_grant, Berth.home_state]
    rcases List.mem_append.mp he with old | new
    · rw [if_neg fun parked => unasked e.1 parked e old rfl]
      exact hwait e old
    · obtain ⟨parked, kind⟩ := waiting e new
      refine ⟨unparked.ungranted (by simp [parked]), ?_⟩
      rw [if_pos parked, kind]
      rfl
  · rw [get, Berth.home_state]
    have locked := hstep hs i
    rw [if_neg (by simp [locked])]
    exact locked

protected theorem Reach.homeBerths (h : Reach c o s.core) : Reach c o (homeBerths s).core := by
  refine Reach.supplyTest (h.allDoors (fun b => ?_) (fun b => ?_) DoorsSound.homing)
  all_goals
    unfold Berth.home
    split <;> rfl

protected theorem Reach.thaw (h : Reach c o s.core) : Reach c o (thaw s).core := h.supplyTest.cycleTests.indexTest

/-! ### Requests to the berth controller (R78, R94, R99 to R102) -/

theorem berthSettings_legal {role : Role} {r : BerthRequest} (h : berthInRange r = true) :
    (berthSettings role r).legal := by
  simp only [berthInRange, Bool.and_eq_true, decide_eq_true_eq] at h
  simp only [BerthSettings.legal, berthSettings]
  omega

/-- One berth's settings replaced, its doors as they stand (R78). -/
theorem Reach.setSettings (h : Reach c o s.core) (hocc : b.occupied = (s.berth i).occupied)
    (hdoor : b.door = (s.berth i).door) (legal : b.settings.legal) : Reach c o (s.setBerth i b).core := by
  have moved := h.berths (s.core.berths.set i b.settings) fun hl j => by
    rw [Quad.get_set]
    split
    · exact legal
    · exact hl j
  have doors : (s.berths.set i b).map Berth.door = s.berths.map Berth.door := by
    rw [Quad.map_set, hdoor, State.berth_eq, ← Quad.get_map Berth.door]
    exact Quad.set_get _ _
  have occupied : (s.berths.set i b).map Berth.occupied = s.berths.map Berth.occupied := by
    rw [Quad.map_set, hocc, State.berth_eq, ← Quad.get_map Berth.occupied]
    exact Quad.set_get _ _
  unfold State.core State.setBerth
  simp only [doors, occupied]
  rw [Quad.map_set]
  exact moved

protected theorem Reach.placeSettings {set : BerthSettings} (h : Reach c o s.core) (legal : set.legal) :
    Reach c o (placeSettings i set s).core := by
  unfold Machine.placeSettings
  simp only []
  split
  · exact Reach.cycleNotice (h.setSettings rfl rfl legal)
  · exact h.setSettings rfl rfl legal

protected theorem Reach.doSetBerth {n : Nat} {r : BerthRequest} (h : Reach c o s.core) :
    Reach c o (doSetBerth n r s).1.core := by
  unfold Machine.doSetBerth
  split
  · split
    · rename_i range
      split
      · exact h.placeSettings (berthSettings_legal range)
      · exact h
    · exact h
  · exact h

protected theorem Reach.doSetMotion {g : Nat} (h : Reach c o s.core) : Reach c o (doSetMotion g s).1.core := by
  unfold Machine.doSetMotion
  split
  · rename_i range
    exact Reach.supplyTest (h.gap g range)
  · exact h

protected theorem Reach.commandUnlock (h : Reach c o s.core) : Reach c o (commandUnlock i s).1.core := by
  unfold Machine.commandUnlock
  simp only []
  split
  · rename_i cond
    obtain ⟨locked, -, -, still⟩ := cond
    split
    · exact h
    · refine h.moveUnasked rfl rfl (fun hc => (h.sound hc).ungranted (by simp [locked])) (by simp [Berth.unlocking])
        (fun hc => (h.sound hc).not_waiting fun m => by cases m <;> simp [Motion.suits, locked])
        fun _ hs => by simp [still] at hs
  · exact h

theorem DoorsSound.rested (hd : DoorsSound s) (h : (s.berth i).state = .unlocked ∨ (s.berth i).state = .closed ∨
    (s.berth i).state = .opened) : (s.berth i).grant = false :=
  hd.ungranted (by rcases h with e | e | e <;> simp [e])

protected theorem Reach.commandOpen (h : Reach c o s.core) : Reach c o (commandOpen i s).1.core := by
  unfold Machine.commandOpen
  simp only []
  split
  · rename_i cond
    exact h.request fun hc => ⟨(h.sound hc).rested (by tauto), by simp [Motion.suits, cond.1]⟩
  · exact h

theorem clearHoldOpen_door (s : State) : ((clearHoldOpen i s).berth i).door = (s.berth i).door := by
  unfold clearHoldOpen
  split
  · simp [Berth.door]
  · rfl

protected theorem Reach.clearHoldOpen (h : Reach c o s.core) : Reach c o (clearHoldOpen i s).core := by
  unfold Machine.clearHoldOpen
  split
  · exact h.changeStill rfl rfl rfl
  · exact h

/-- A berth whose doors stand in a state that asks for a motion is given its request (R93). -/
theorem Reach.requestAt {m : Motion} {d : BerthState} (h : Reach c o t.core)
    (door : c.DoorsSound → (t.berth i).door = (d, false)) (suits : m.suits d = true) :
    Reach c o (request i m t).core :=
  h.request fun hc => by
    obtain ⟨state, grant⟩ := Prod.mk.inj (door hc)
    exact ⟨grant, by rw [state]; exact suits⟩

protected theorem Reach.commandClose (h : Reach c o s.core) : Reach c o (commandClose i s).1.core := by
  unfold Machine.commandClose
  simp only []
  split
  · rename_i cond
    refine Reach.requestAt h.clearHoldOpen (d := .opened) (fun hc => ?_) rfl
    rw [clearHoldOpen_door, Berth.door, cond.1, (h.sound hc).rested (.inr (.inr cond.1))]
  · exact h

protected theorem Reach.commandLock (h : Reach c o s.core) : Reach c o (commandLock i s).1.core := by
  unfold Machine.commandLock
  simp only []
  split
  · rename_i cond
    refine Reach.startLocking (h.withdrawRequest (i := i)) (fun hc => (h.sound hc).rested (by tauto))
      (fun _ e he => (mem_withdraw.mp he).2) fun _ => ?_
    rcases cond.1 with e | e <;> exact ne_of_eq_of_ne e (by decide)
  · exact h

protected theorem Reach.commandHoldOpen (h : Reach c o s.core) : Reach c o (commandHoldOpen i s).1.core := by
  unfold Machine.commandHoldOpen
  simp only []
  split
  · split
    · exact h
    · split
      · exact Reach.changeStill (h.withdrawRequest (i := i)) rfl rfl rfl
      · exact h.changeStill rfl rfl rfl
  · exact h

protected theorem Reach.commandEndDwell (h : Reach c o s.core) : Reach c o (commandEndDwell i s).1.core := by
  unfold Machine.commandEndDwell
  simp only []
  split
  · rename_i opened
    split
    · exact h
    · refine Reach.requestAt (Reach.clearHoldOpen (h.setStill rfl rfl rfl)) (d := .opened) (fun hc => ?_) rfl
      rw [clearHoldOpen_door, setBerth_berth_same, Berth.door]
      exact Prod.ext opened ((h.sound hc).rested (.inr (.inr opened)))
  · exact h

protected theorem Reach.commandReopen (h : Reach c o s.core) : Reach c o (commandReopen i s).1.core := by
  unfold Machine.commandReopen
  simp only []
  split
  · exact h.reverse ‹_›
  · split
    · rename_i closed
      refine Reach.requestAt h.countReversal (d := .closed) (fun hc => ?_) rfl
      rw [(countReversal_door (by simp [closed])).1, Berth.door, closed, (h.sound hc).rested (.inr (.inl closed))]
    · exact h

protected theorem Reach.commandSkipCycle (h : Reach c o s.core) : Reach c o (commandSkipCycle i s).1.core := by
  unfold Machine.commandSkipCycle
  simp only []
  split
  · exact Reach.cycleNotice (h.setStill rfl rfl rfl)
  · exact h

protected theorem Reach.commandClearFault (h : Reach c o s.core) : Reach c o (commandClearFault i s).1.core := by
  unfold Machine.commandClearFault
  simp only []
  split
  · rename_i fault
    have cleared : ∀ d : Berth, d.occupied = (s.berth i).occupied → d.settings = (s.berth i).settings →
        d.grant = (s.berth i).grant → d.state ≠ .opening ∧ d.state ≠ .closing → Reach c o (changeBerth i d s).core :=
      fun d hocc hset hgrant asks => h.moveUnasked hocc hset
        (fun hc => hgrant.trans ((h.sound hc).ungranted (by simp [fault]))) asks
        (fun hc => (h.sound hc).not_waiting fun m => by cases m <;> simp [Motion.suits, fault])
        fun hc hs => ((h.sound hc).still (i := i) (by simp [fault]) hs).elim
    split
    · exact h
    · split
      · exact cleared _ rfl rfl rfl (by simp)
      · refine Reach.requestAt (cleared _ rfl rfl rfl (by simp)) (d := .homing) (fun hc => ?_) rfl
        rw [changeBerth_berth_same, Berth.door]
        exact Prod.ext rfl ((h.sound hc).ungranted (by simp [fault]))
  · exact h

protected theorem Reach.commandSetMode {m : BerthMode} (h : Reach c o s.core) :
    Reach c o (commandSetMode i m s).1.core := by
  unfold Machine.commandSetMode
  simp only []
  split
  · split
    · exact h
    · exact Reach.cycleTest (h.changeStill rfl rfl rfl)
  · exact h

protected theorem Reach.berthCommand {k : BerthCommand} {m : Option BerthMode} (h : Reach c o s.core) :
    Reach c o (berthCommand i k m s).1.core := by
  cases k with
  | unlock => exact h.commandUnlock
  | opening => exact h.commandOpen
  | closing => exact h.commandClose
  | lock => exact h.commandLock
  | holdOpen => exact h.commandHoldOpen
  | endDwell => exact h.commandEndDwell
  | reopen => exact h.commandReopen
  | skipCycle => exact h.commandSkipCycle
  | clearFault => exact h.commandClearFault
  | setMode =>
    cases m with
    | none => exact h
    | some mode => exact h.commandSetMode

protected theorem Reach.doBerthCommand {n k m : Nat} (h : Reach c o s.core) :
    Reach c o (doBerthCommand n k m s).1.core := by
  unfold Machine.doBerthCommand
  split
  · split
    · exact h
    · split
      · exact h
      · exact h.berthCommand
  · exact h

end

end Sys2Proof.Machine
end

section
/-! SUPPORT. The records of the track, of the launch and of the roster as paths of moves: how often a number stands
among them is counted place by place. -/

namespace Sys2Proof.Machine

open Config

/-! ### Numbers counted (R70) -/

theorem count_plain (l : List (Nat × Bool)) (m : Nat) :
    (Core.plain l).count m = if m = 0 then 0 else l.count (m, false) := by
  induction l with
  | nil => simp [Core.plain]
  | cons k l ih =>
    obtain ⟨n, d⟩ := k
    unfold Core.plain at ih ⊢
    rw [List.filterMap_cons]
    by_cases hn : n = 0
    · subst hn
      simp only [true_or, if_true, ih]
      split
      · rfl
      · rename_i hm
        rw [List.count_cons_of_ne (by simp [Ne.symm hm])]
    · cases d
      · simp only [hn, Bool.false_eq_true, or_self, if_false, List.count_cons, ih]
        by_cases hm : m = 0
        · subst hm
          simp [hn]
        · simp [hm]
      · simp [hn, ih]

/-- No number other than 0 stands twice among the records not marked Duplicate. -/
theorem Core.numbersUnique_iff (c : Core) :
    c.NumbersUnique ↔ ∀ m, m ≠ 0 → c.keys.count (m, false) ≤ 1 := by
  unfold Core.NumbersUnique
  rw [List.nodup_iff_count_le_one]
  refine forall_congr' fun m => ?_
  rw [count_plain]
  by_cases hm : m = 0 <;> simp [hm]

/-- How often a key stands in the berths. -/
def berthCount (p : Quad (Option (Nat × Bool))) (k : Nat × Bool) : Nat :=
  p.v1.toList.count k + p.v2.toList.count k + p.v3.toList.count k + p.v4.toList.count k

theorem count_berths (p : Quad (Option (Nat × Bool))) (k : Nat × Bool) :
    (Idx4.all.filterMap p.get).count k = berthCount p k := by
  obtain ⟨a, b, d, e⟩ := p
  have all : Idx4.all.filterMap (Quad.mk a b d e).get = a.toList ++ b.toList ++ d.toList ++ e.toList := by
    cases a <;> cases b <;> cases d <;> cases e <;> rfl
  rw [all]
  simp [berthCount, Nat.add_assoc]

theorem Core.count_keys (c : Core) (k : Nat × Bool) : c.keys.count k = c.buffer.count k + berthCount c.places k +
    c.launchBerth.toList.count k + c.launch.toList.count k + c.records.count k := by
  simp [Core.keys, count_berths, Nat.add_assoc]

/-- Records that hold no number more often than before hold none twice. -/
theorem Core.NumbersUnique.of_le {c d : Core} (h : c.NumbersUnique)
    (le : ∀ m, m ≠ 0 → d.keys.count (m, false) ≤ max 1 (c.keys.count (m, false))) : d.NumbersUnique := by
  rw [Core.numbersUnique_iff] at h ⊢
  intro m hm
  exact (le m hm).trans (max_le le_rfl (h m hm))

/-! ### The index step and the launch through an event -/

/-- Of the track an event that raises or counts touches the index step alone, which may start. -/
def SameTrack (s t : State) : Prop :=
  t.track = { s.track with step := t.track.step, indexCommand := t.track.indexCommand }

section
variable {c : Core} {o : Owed} {s t u : State} {i j : Idx4}

theorem SameTrack.of_eq (h : t.track = s.track) : SameTrack s t := by rw [SameTrack, h]

theorem SameTrack.trans (h : SameTrack s t) (k : SameTrack t u) : SameTrack s u := by
  unfold SameTrack at h k ⊢
  rw [k, h]

theorem sameTrack_indexTest (s : State) : SameTrack s (indexTest s) := by
  unfold indexTest SameTrack
  split <;> rfl

theorem sameTrack_enterState (n : RunState) (k : Cause) (s : State) : SameTrack s (enterState n k s) := by
  unfold enterState
  simp only []
  refine SameTrack.trans (.of_eq ?_) (sameTrack_indexTest _)
  split <;> simp

theorem sameTrack_raise (src : Source) (s : State) : SameTrack s (raise src s) := by
  unfold raise
  split
  · exact .of_eq rfl
  · refine SameTrack.trans ?_ (.of_eq (t := giveClass _) (giveClass_keeps _).2.2.2.1)
    rcases demandTransition_cases src (queueReport (.stopDemand src src.cls)
      { s with run := { s.run with demands := addSource src s.run.demands } }) with h | ⟨n, -, h⟩
    · rw [h]
      exact .of_eq (by simp)
    · rw [h]
      exact SameTrack.trans (.of_eq (by simp)) (sameTrack_enterState _ _ _)

theorem sameTrack_counterTake (i : Idx4) (ev : CounterEvent) (s : State) : SameTrack s (counterTake i ev s) := by
  unfold counterTake
  split
  · split
    · unfold expire fireAction
      simp only []
      split
      · exact .of_eq (by simp)
      · exact .of_eq (by simp [counterCeilingTest])
      · exact SameTrack.trans (.of_eq (by simp)) (sameTrack_raise _ _)
    · exact .of_eq (by simp)
  · exact .of_eq rfl

theorem sameTrack_offerEvent (ev : CounterEvent) (s : State) : SameTrack s (offerEvent ev s) :=
  (((sameTrack_counterTake _ _ _).trans (sameTrack_counterTake _ _ _)).trans (sameTrack_counterTake _ _ _)).trans
    (sameTrack_counterTake _ _ _)

theorem SameTrack.launch (h : SameTrack s t) : t.track.launch = s.track.launch := by rw [SameTrack.eq_1] at h; rw [h]

theorem SameTrack.launchBerth (h : SameTrack s t) : t.track.launchBerth = s.track.launchBerth := by
  rw [SameTrack.eq_1] at h; rw [h]

theorem SameTrack.buffer (h : SameTrack s t) : t.track.buffer = s.track.buffer := by
  rw [SameTrack.eq_1] at h; rw [h]

/-! ### The launch gate and the release (R60 to R62) -/

theorem core_records : s.core.records = s.roster.records.map fun r => r.carrier.key := rfl

protected theorem Reach.release {r : CarrierRec} (h : Reach c o s.core) (hberth : s.track.launchBerth = some r)
    (hnone : s.track.launch = none) (room : s.roster.records.length < rosterMax) :
    Reach c o (release r s).core := by
  refine Reach.indexTest (Reach.queueReport (Reach.offerEvent (Reach.offerControl ?_)))
  have key : CarrierRec.key { r with releaseTravel := some s.update.t } = r.key := rfl
  have launched := h.records s.core.buffer s.core.places none (some r.key) s.core.records s.core.occupied rfl
    (fun hp => ⟨hp.1, by simpa [State.core] using room⟩)
    (fun hn => hn.of_le fun m _ => ?_) (fun hn => hn)
  · refine launched.cast ?_
    simp [State.core, hnone, key]
  · refine le_max_of_le_right (le_of_eq ?_)
    simp [Core.count_keys, State.core, hberth, hnone]

protected theorem Reach.gateTest (h : Reach c o s.core) : Reach c o (gateTest s).core := by
  unfold Machine.gateTest
  split
  · rename_i r hberth
    split
    · rename_i gate
      simp only [gateOpen, Bool.and_eq_true, decide_eq_true_eq, Option.isNone_iff_eq_none] at gate
      exact h.release hberth gate.1.1.1.2 gate.1.1.2
    · exact h
  · exact h

/-- The release mark drawn forward is no more than another release mark (R61). -/
theorem markLimit_eq (s : State) :
    ∃ m, markLimit s = { s with track := { s.track with releaseMark := m } } := by
  unfold markLimit
  split
  · exact ⟨_, rfl⟩
  · exact ⟨s.track.releaseMark, rfl⟩

theorem markLimit_core (s : State) : (markLimit s).core = s.core := by
  obtain ⟨m, h⟩ := markLimit_eq s
  rw [h]
  rfl

/-! ### The launch in flight (R63 to R66, R73) -/

theorem duplicate_mem_removeMarks {ms set : List Mark} (h : Mark.duplicate ∉ ms) :
    Mark.duplicate ∈ removeMarks ms set ↔ Mark.duplicate ∈ set := by
  simp [removeMarks, h]

theorem Mark.mem_all (m : Mark) : m ∈ Mark.all := by cases m <;> decide

@[simp] theorem mem_addMark (x m : Mark) (set : List Mark) : x ∈ addMark m set ↔ x = m ∨ x ∈ set := by
  simp [addMark, Mark.mem_all]

theorem key_unmark {ms : List Mark} (r : CarrierRec) (h : Mark.duplicate ∉ ms) : (r.unmark ms).key = r.key := by
  simp [CarrierRec.key, CarrierRec.unmark, duplicate_mem_removeMarks h]

theorem key_mark {m : Mark} (r : CarrierRec) (h : m ≠ .duplicate) : (r.mark m).key = r.key := by
  simp [CarrierRec.key, CarrierRec.mark, Ne.symm h]

theorem key_tested (cls : GripClass) (force : Nat) (r : CarrierRec) : (tested cls force r).key = r.key := by
  have plain : CarrierRec.key { r.unmark [.marginal, .gripFail, .noTest] with force := some force } = r.key :=
    key_unmark r (by simp)
  cases cls with
  | marginal => exact (key_mark _ (by simp)).trans plain
  | fail => exact (key_mark _ (by simp)).trans plain
  | good | noTest | unexpected => exact plain

theorem key_untested (r : CarrierRec) : (untested r).key = r.key :=
  (key_mark _ (by simp)).trans (key_unmark r (by simp))

/-- The launch in flight leaves the track for the roster's tail (R64). -/
protected theorem Reach.completeLaunch {cls : GripClass} {r : CarrierRec} (h : Reach c o s.core)
    (hlaunch : s.track.launch.map CarrierRec.key = some r.key) : Reach c o (completeLaunch cls r s).core := by
  refine Reach.gateTest ?_
  have some : s.track.launch.isSome = true := by
    cases e : s.track.launch <;> simp [e] at hlaunch ⊢
  have joined := h.records s.core.buffer s.core.places s.core.launchBerth none (s.core.records ++ [r.key])
    s.core.occupied rfl (fun hp => ⟨hp.1, by simpa [State.core, some] using hp.2⟩)
    (fun hn => hn.of_le fun m _ => ?_) (fun hn => hn)
  · refine joined.cast ?_
    simp [State.core, some, rosterRecord, key_unmark]
  · refine le_max_of_le_right (le_of_eq ?_)
    have launch : s.core.launch = Option.some r.key := hlaunch
    simp [Core.count_keys, launch, Nat.add_assoc, Nat.add_comm, Nat.add_left_comm]

/-- A launch record replaced by one with the same number and the same Duplicate mark. -/
theorem Reach.setLaunch {r r' : CarrierRec} (h : Reach c o s.core) (hlaunch : s.track.launch = some r)
    (hkey : r'.key = r.key) : Reach c o { s with track := { s.track with launch := some r' } }.core := by
  refine h.edit ?_
  simp [State.core, hlaunch, hkey]

protected theorem Reach.gripEffect {cls : GripClass} {k : Option (Nat × Bool)} (h : Reach c o s.core) :
    Reach c o (gripEffect cls k s).core := by
  cases cls with
  | marginal => exact h.offerEvent
  | fail => exact h.raise
  | good | noTest | unexpected => exact h

theorem sameTrack_gripEffect (cls : GripClass) (k : Option (Nat × Bool)) (s : State) :
    SameTrack s (gripEffect cls k s) := by
  cases cls with
  | marginal => exact sameTrack_offerEvent _ _
  | fail => exact sameTrack_raise _ _
  | good | noTest | unexpected => exact .of_eq rfl

theorem sameTrack_queueReport (r : Report) (s : State) : SameTrack s (queueReport r s) := .of_eq (by simp)

protected theorem Reach.gripResult {n : Nat} (h : Reach c o s.core) : Reach c o (gripResult n s).core := by
  unfold Machine.gripResult
  split
  · exact Reach.queueReport (s := discardInput s) h
  · rename_i r hlaunch
    simp only []
    have set := h.setLaunch hlaunch (key_tested (gripClass s.track.settings (min n forceMax)) (min n forceMax) r)
    refine Reach.completeLaunch set.gripEffect.offerEvent.queueReport ?_
    rw [(((sameTrack_gripEffect _ _ _).trans (sameTrack_offerEvent _ _)).trans (sameTrack_queueReport _ _)).launch]
    rfl

protected theorem Reach.testRecord {l : List Byte} (h : Reach c o s.core) : Reach c o (testRecord l s).core := by
  unfold Machine.testRecord
  split
  · exact h.gripResult
  · exact h.edit rfl

protected theorem Reach.endUntested {on : Bool} {r : CarrierRec} (h : Reach c o s.core)
    (hlaunch : s.track.launch = some r) : Reach c o (endUntested on r s).core := by
  have set := h.setLaunch hlaunch (key_untested r)
  unfold Machine.endUntested
  simp only []
  split
  · refine Reach.completeLaunch set.raise.queueReport ?_
    rw [((sameTrack_raise _ _).trans (sameTrack_queueReport _ _)).launch]
    rfl
  · refine Reach.completeLaunch set.queueReport ?_
    rw [(sameTrack_queueReport _ _).launch]
    rfl

protected theorem Reach.lostLaunchTest (h : Reach c o s.core) : Reach c o (lostLaunchTest s).core := by
  unfold Machine.lostLaunchTest
  split
  · split
    · exact h.endUntested ‹_›
    · exact h
  · exact h

protected theorem Reach.trackTravel (h : Reach c o s.core) : Reach c o (trackTravel s).core :=
  (Reach.lostLaunchTest (h.edit (markLimit_core s))).gateTest

/-! ### The buffer count and the index step (R54, R57, R58) -/

protected theorem Reach.trackCeilingTest {n : Option Nat} (h : Reach c { o with buffer := n } s.core) :
    Reach c { o with buffer := none } (trackCeilingTest s).core := by
  have tested := h.trackCeiling
  unfold Machine.trackCeilingTest setCeiling
  refine Reach.updateCeilings (tested.cast ?_)
  simp [State.core, Governor.withCeiling]

protected theorem Reach.bufferChanged {n : Nat} (h : Reach c { o with buffer := some n } s.core) :
    Reach c { o with buffer := none } (bufferChanged n s).core := by
  unfold Machine.bufferChanged
  split
  · rename_i same
    exact h.uncounted n (by simpa [State.core] using same)
  · split
    · exact h.trackCeilingTest.raise
    · exact h.trackCeilingTest

protected theorem Reach.indexLimitExpired (h : Reach c o s.core) : Reach c o (indexLimitExpired s).core := by
  unfold Machine.indexLimitExpired
  split
  · rename_i st hstep
    split
    · exact h
    · refine Reach.raise (h.edit ?_)
      simp [State.core, hstep]
  · exact h

theorem Berth.occupy_keeps (got : Bool) (b : Berth) : (b.occupy got).occupied = got ∧
    (b.occupy got).settings = b.settings ∧ (b.occupy got).door = b.door := by
  unfold Berth.occupy
  split
  · split <;> simp_all [Berth.door]
  · simp_all [Berth.door]

theorem occupied_get (p : Quad (Option CarrierRec)) (q : Quad Berth) (i : Idx4) :
    (Machine.occupied p q).get i = (q.get i).occupy (p.get i).isSome := by cases i <;> rfl

theorem toList_tail_count {α : Type} [BEq α] (l : List α) (k : α) :
    l.head?.toList.count k + l.tail.count k = l.count k := by
  cases l with
  | nil => rfl
  | cons x l => simp [List.count_cons, Nat.add_comm]

/-- The places shifted by an index-done, with the occupancy of the berths (R58, R81). -/
theorem Reach.shifted (h : Reach c o s.core) (clear : o.buffer = none) :
    Reach c { o with buffer := some s.track.buffer.length } (occupyBerths { s with track := s.track.shift }).core := by
  have doors : (Machine.occupied s.track.shift.berths s.berths).map Berth.door = s.berths.map Berth.door :=
    Quad.ext_get fun i => by simp [occupied_get, Berth.occupy_keeps]
  have settings : (Machine.occupied s.track.shift.berths s.berths).map Berth.settings =
      s.berths.map Berth.settings := Quad.ext_get fun i => by simp [occupied_get, Berth.occupy_keeps]
  have moved := (h.recount (s.track.shift.buffer.map CarrierRec.key)
    (s.track.shift.berths.map (Option.map CarrierRec.key)) (s.track.shift.launchBerth.map CarrierRec.key)
    s.core.records ((Machine.occupied s.track.shift.berths s.berths).map Berth.occupied) clear
    (fun hp => ⟨?_, hp.2⟩) (fun hn => hn.of_le fun m _ => ?_) (fun _ i => ?_)).indexEnd
  · rw [show s.core.buffer.length = s.track.buffer.length by simp [State.core]] at moved
    refine Reach.changeBerths (moved.cast ?_)
    simp only [State.core, doors, settings]
    simp [Track.shift]
  · have := hp.1
    simp [State.core, Track.shift] at this ⊢
    omega
  · refine le_max_of_le_right ?_
    have tail := toList_tail_count s.core.buffer (m, false)
    have head : (s.track.buffer.head?.map CarrierRec.key) = s.core.buffer.head? := by simp [State.core]
    simp only [Core.count_keys, berthCount]
    simp only [Track.shift, Quad.map, head]
    rw [show (s.track.buffer.tail.map CarrierRec.key) = s.core.buffer.tail by simp [State.core]]
    simp only [State.core, Quad.map] at tail ⊢
    omega
  · simp [occupied_get, Berth.occupy_keeps]

/-- The index step ends with every berth Locked and without a grant (R56, R58). -/
theorem DoorsSound.atRest_shifted (hd : DoorsSound s) (hstep : s.track.step.isSome = true) :
    AtRest (occupyBerths { s with track := s.track.shift }) := by
  refine ⟨by simp [occupyBerths, Track.shift], fun i => ?_⟩
  have get : (occupyBerths { s with track := s.track.shift }).berth i =
      (s.berth i).occupy (s.track.shift.berths.get i).isSome := by
    unfold occupyBerths changeBerths
    split <;> simp [State.berth_eq, occupied_get]
  have locked := hd.2.2.2.2 hstep i
  rw [get, show Berth.grant _ = (s.berth i).grant from
    congrArg Prod.snd ((s.berth i).occupy_keeps (s.track.shift.berths.get i).isSome).2.2]
  exact hd.ungranted (by simp [locked])

protected theorem Reach.indexDone (h : Reach c o s.core) (clear : o.buffer = none) :
    Reach c o (indexDone s).core := by
  unfold Machine.indexDone
  split
  · exact h.edit rfl
  · rename_i st hstep
    have shifted := h.shifted clear
    have faulted := shifted.pendingFaults fun hc => (h.sound hc).atRest_shifted (by simp [hstep])
    have ended := faulted.cycleTests.bufferChanged.offerEvent (ev := { code := 16 }) |>.gateTest.indexTest
    have same : ({ o with buffer := none } : Owed) = o := by rw [← clear]
    rw [same] at ended
    exact ended

protected theorem Reach.cancelIndex (h : Reach c o s.core) : Reach c o (cancelIndex s).core := by
  unfold Machine.cancelIndex
  split
  · exact h
  · exact Reach.queueReport (h.indexEnd.cast rfl)

theorem cancelIndex_step (s : State) : (cancelIndex s).track.step = none := by
  unfold cancelIndex
  split
  · assumption
  · simp

end

end Sys2Proof.Machine
end

section
/-! SUPPORT. The requests that name a record, the roster and the valley entry as paths of moves. -/

namespace Sys2Proof.Machine

open Config

section
variable {c : Core} {o : Owed} {s t u : State} {i j : Idx4} {n : Nat}

/-! ### Records by number (R68 to R71) -/

theorem countP_bearers (n : Nat) (s : State) : s.core.keys.countP (fun k => decide (k.1 = n)) = (bearers n s).length := by
  rw [placed_keys, List.countP_map, bearers, List.countP_eq_length_filter]
  rfl

theorem lookup_bearers {p : Place × CarrierRec} (h : lookup n s = .ok p) : bearers n s = [p] := by
  unfold lookup at h
  split at h
  · simp at h
  · split at h <;> simp_all

/-- A key changed by `g` where it bears the number `n`. -/
def onKey (n : Nat) (g : Nat × Bool → Nat × Bool) (k : Nat × Bool) : Nat × Bool := if k.1 = n then g k else k

theorem key_onNumber {f : CarrierRec → CarrierRec} {g : Nat × Bool → Nat × Bool}
    (hf : ∀ r, r.number = n → (f r).key = g r.key) (r : CarrierRec) : (onNumber n f r).key = onKey n g r.key := by
  unfold onNumber onKey
  by_cases h : r.number = n
  · rw [if_pos h, if_pos (show r.key.1 = n from h), hf r h]
  · rw [if_neg h, if_neg (show ¬ r.key.1 = n from h)]

theorem modifyNamed_core {f : CarrierRec → CarrierRec} {g : Nat × Bool → Nat × Bool}
    (hf : ∀ r, r.number = n → (f r).key = g r.key) (s : State) : (modifyNamed n f s).core = { s.core with
      buffer := s.core.buffer.map (onKey n g), places := s.core.places.map (Option.map (onKey n g)),
      launchBerth := s.core.launchBerth.map (onKey n g), launch := s.core.launch.map (onKey n g),
      records := s.core.records.map (onKey n g) } := by
  have keyed : CarrierRec.key ∘ onNumber n f = onKey n g ∘ CarrierRec.key := funext (key_onNumber hf)
  have places : (s.track.berths.map (Option.map (onNumber n f))).map (Option.map CarrierRec.key) =
      (s.track.berths.map (Option.map CarrierRec.key)).map (Option.map (onKey n g)) :=
    Quad.ext_get fun i => by simp [Option.map_map, keyed]
  have records : (fun r : RosterRec => r.carrier.key) ∘ (fun x : RosterRec => { x with carrier := onNumber n f x.carrier }) =
      onKey n g ∘ fun r : RosterRec => r.carrier.key := funext fun x => key_onNumber hf x.carrier
  simp only [State.core, modifyNamed, List.map_map, Option.map_map, keyed, places, records]
  rfl

theorem onKey_id (n : Nat) : onKey n id = id := by
  funext k
  simp [onKey]

/-- A change of the record that bears a number which leaves its number and its Duplicate mark. -/
theorem Reach.modifyNamed {f : CarrierRec → CarrierRec} (h : Reach c o s.core) (hf : ∀ r, (f r).key = r.key) :
    Reach c o (modifyNamed n f s).core := by
  refine h.edit ?_
  rw [modifyNamed_core (g := id) fun r _ => hf r, onKey_id]
  have places : s.core.places.map id = s.core.places := Quad.ext_get fun i => by simp
  simp [places]

/-- The keys after a change of those that bear a number. -/
theorem keys_map (d : Core) (φ : Nat × Bool → Nat × Bool) : Core.keys { d with
    buffer := d.buffer.map φ, places := d.places.map (Option.map φ), launchBerth := d.launchBerth.map φ,
    launch := d.launch.map φ, records := d.records.map φ } = d.keys.map φ := by
  have places : Idx4.all.filterMap (d.places.map (Option.map φ)).get = (Idx4.all.filterMap d.places.get).map φ := by
    rw [List.map_filterMap]
    congr 1
    funext i
    simp
  simp only [Core.keys, places, List.map_append, Option.toList_map]

/-- The one record that bears a number may take another that no record bears, and lose its Duplicate mark (R70, R71). -/
theorem Reach.renamed {f : CarrierRec → CarrierRec} {g : Nat × Bool → Nat × Bool} {new : Nat}
    (h : Reach c o s.core) (hf : ∀ r, r.number = n → (f r).key = g r.key) (hg : ∀ k, k.1 = n → (g k).1 = new)
    (one : (bearers n s).length = 1) (fresh : new = n ∨ bearers new s = []) :
    Reach c o (Machine.modifyNamed n f s).core := by
  rw [modifyNamed_core hf]
  have moved := h.records (s.core.buffer.map (onKey n g)) (s.core.places.map (Option.map (onKey n g)))
    (s.core.launchBerth.map (onKey n g)) (s.core.launch.map (onKey n g)) (s.core.records.map (onKey n g))
    s.core.occupied (by simp) (fun hp => ?_) (fun hn => ?_) (fun ho j => ?_)
  · refine moved.cast ?_
    simp
  · simpa [Core.PlacesBounded] using hp
  · refine hn.of_le fun m _ => ?_
    rw [keys_map, List.count_eq_countP, List.countP_map]
    by_cases hm : m = new
    · refine le_max_of_le_left ?_
      rw [← one, ← countP_bearers]
      refine List.countP_mono_left fun k hk heq => ?_
      simp only [Function.comp_apply, onKey, beq_iff_eq] at heq
      by_cases hkn : k.1 = n
      · simpa using hkn
      · rw [if_neg hkn] at heq
        rcases fresh with rfl | none
        · simp [heq, hm] at hkn
        · have absent := countP_bearers new s
          rw [none, List.length_nil, List.countP_eq_zero] at absent
          exact absurd (by simp [heq, hm]) (absent k hk)
    · refine le_max_of_le_right ?_
      rw [List.count_eq_countP]
      refine List.countP_mono_left fun k _ heq => ?_
      simp only [Function.comp_apply, onKey, beq_iff_eq] at heq ⊢
      by_cases hkn : k.1 = n
      · rw [if_pos hkn] at heq
        have number := hg k hkn
        rw [heq] at number
        exact absurd number hm
      · rwa [if_neg hkn] at heq
  · simpa using ho j

protected theorem Reach.gateTestAt {p : Place} (h : Reach c o s.core) : Reach c o (gateTestAt p s).core := by
  unfold Machine.gateTestAt
  split
  · exact h.gateTest
  · exact h

/-- A request that names a carrier either is refused or acts on the one record that bears the number (R68). -/
theorem Reach.withNamed {act : Place → CarrierRec → State × ReplyResult} (h : Reach c o s.core)
    (hact : ∀ p r, bearers n s = [(p, r)] → Reach c o (act p r).1.core) : Reach c o (withNamed n s act).1.core := by
  unfold Machine.withNamed
  split
  · exact hact _ _ (lookup_bearers ‹_›)
  · exact h

protected theorem Reach.doHold (h : Reach c o s.core) : Reach c o (doHold n s).1.core := by
  refine h.withNamed fun p r _ => ?_
  split
  · exact h
  · split
    · exact h
    · exact Reach.gateTestAt (Reach.queueReport (h.modifyNamed fun r => key_mark r (by decide)))

protected theorem Reach.doRelease (h : Reach c o s.core) : Reach c o (doRelease n s).1.core := by
  refine h.withNamed fun p r one => Reach.gateTestAt (Reach.queueReport ?_)
  refine h.renamed (g := fun k => (k.1, false)) (new := n) (fun x _ => ?_) (fun k hk => hk) (by simp [one]) (.inl rfl)
  simp [CarrierRec.key, CarrierRec.unmark, removeMarks]

protected theorem Reach.doRenumber {new : Nat} (h : Reach c o s.core) : Reach c o (doRenumber n new s).1.core := by
  refine h.withNamed fun p r one => ?_
  split
  · exact h
  · split
    · exact h
    · split
      · exact h
      · rename_i free
        refine Reach.gateTestAt (Reach.queueReport ?_)
        refine h.renamed (g := fun k => (new, k.2)) (new := new) (fun x _ => ?_) (fun k _ => rfl) (by simp [one])
          (.inr (by simpa using free))
        simp [CarrierRec.key, CarrierRec.unmark, removeMarks]

protected theorem Reach.doMark (h : Reach c o s.core) : Reach c o (doMark n s).1.core :=
  h.withNamed fun _ _ _ => h.modifyNamed fun r => key_mark r (by decide)

protected theorem Reach.doUnmark (h : Reach c o s.core) : Reach c o (doUnmark n s).1.core :=
  h.withNamed fun _ _ _ => h.modifyNamed fun r => key_unmark r (by decide)

/-! ### The launch berth and the launch (R72, R73) -/

protected theorem Reach.doGarage (h : Reach c o s.core) : Reach c o (doGarage s).1.core := by
  unfold Machine.doGarage
  split
  · exact h
  · refine Reach.indexTest (Reach.queueReport ?_)
    have moved := h.records s.core.buffer s.core.places none s.core.launch s.core.records s.core.occupied rfl id
      (fun hn => hn.of_le fun m _ => le_max_of_le_right ?_) id
    · refine moved.cast ?_
      simp [State.core]
    · simp only [Core.count_keys, Option.toList_none, List.count_nil]
      omega

protected theorem Reach.doInhibit {on : Bool} (h : Reach c o s.core) : Reach c o (doInhibit on s).1.core := by
  cases on
  · exact Reach.indexTest (Reach.gateTest (h.edit rfl))
  · exact h.edit rfl

protected theorem Reach.doAbandon (h : Reach c o s.core) : Reach c o (doAbandon s).1.core := by
  unfold Machine.doAbandon
  split
  · split
    · exact h
    · split
      · exact h.endUntested ‹_›
      · exact h
  · exact h

/-! ### Declare (R73) -/

theorem Berth.declared_keeps (before after : Bool) (b : Berth) :
    (b.declared before after).occupied = (if before = after then b.occupied else after) ∧
      (b.declared before after).settings = b.settings ∧ (b.declared before after).door = b.door := by
  unfold Berth.declared
  split
  · simp
  · cases after <;> simp_all [Berth.door]

theorem declareBerths_get (p q : Quad (Option CarrierRec)) (b : Quad Berth) (i : Idx4) :
    (declareBerths p q b).get i = (b.get i).declared (p.get i).isSome (q.get i).isSome := by cases i <;> rfl

/-- The places a Declare can name (R195). -/
theorem declarePlace?_cases {place : Nat} {p : Place} (h : declarePlace? place = some p) :
    p = .buffer ∨ (∃ i, p = .berth i) ∨ p = .launchBerth := by
  unfold declarePlace? at h
  split at h <;> simp only [Option.some.injEq, reduceCtorEq] at h <;> subst h <;> simp

theorem count_filter_number (l : List CarrierRec) (n m : Nat) :
    ((l.filter fun r => !decide (r.number = n)).map CarrierRec.key).count (m, false) =
      if m = n then 0 else (l.map CarrierRec.key).count (m, false) := by
  induction l with
  | nil => simp
  | cons r l ih =>
    rw [List.filter_cons]
    by_cases hr : r.number = n
    · simp only [hr, decide_true, Bool.not_true, Bool.false_eq_true, if_false, ih, List.map_cons]
      split
      · rfl
      · rename_i hm
        rw [List.count_cons_of_ne]
        simp [CarrierRec.key, hr, Ne.symm hm]
    · simp only [hr, decide_false, Bool.not_false, if_true, List.map_cons, List.count_cons, ih]
      by_cases hm : m = n
      · subst hm
        simp [CarrierRec.key, hr]
      · simp [hm]

theorem count_filter_option (x : Option CarrierRec) (n m : Nat) :
    (((x.filter fun r => !decide (r.number = n)).map CarrierRec.key).toList).count (m, false) =
      if m = n then 0 else (x.map CarrierRec.key).toList.count (m, false) := by
  have := count_filter_number x.toList n m
  cases x with
  | none => simp
  | some r => by_cases hr : r.number = n <;> simpa [hr, Option.filter] using this

theorem berthCount_set (q : Quad (Option (Nat × Bool))) (i : Idx4) (x : Option (Nat × Bool)) (k : Nat × Bool) :
    berthCount (q.set i x) k + (q.get i).toList.count k = berthCount q k + x.toList.count k := by
  cases i <;> simp only [berthCount, Quad.set, Quad.get] <;> omega

theorem berthCount_without (q : Quad (Option CarrierRec)) (n m : Nat) :
    berthCount ((q.map fun x => x.filter fun r => !decide (r.number = n)).map (Option.map CarrierRec.key)) (m, false) =
      if m = n then 0 else berthCount (q.map (Option.map CarrierRec.key)) (m, false) := by
  simp only [berthCount, Quad.map, count_filter_option]
  split <;> rfl

theorem launchedBears_counts (h : launchedBears n s = false) :
    s.core.launch.toList.count (n, false) = 0 ∧ s.core.records.count (n, false) = 0 := by
  simp only [launchedBears, List.any_eq_false, bearers, List.mem_filter, decide_eq_true_eq, Bool.or_eq_true] at h
  constructor
  · rw [List.count_eq_zero]
    intro hmem
    obtain ⟨r, hr, hk⟩ : ∃ r, s.track.launch = some r ∧ r.key = (n, false) := by
      simpa [State.core] using hmem
    exact h (.launchRecord, r) ⟨by simp [placed, hr], congrArg Prod.fst hk⟩ (.inl rfl)
  · rw [List.count_eq_zero]
    intro hmem
    obtain ⟨x, hx, hk⟩ := List.mem_map.mp hmem
    refine h (.roster, x.carrier) ⟨?_, congrArg Prod.fst hk⟩ (.inr rfl)
    simp only [placed, List.mem_append, List.mem_map]
    exact .inr ⟨x, hx, rfl⟩

theorem count_singleton_key (r : CarrierRec) (m : Nat) :
    [r.key].count (m, false) ≤ if m = r.number then 1 else 0 := by
  rw [List.count_singleton]
  by_cases hm : m = r.number
  · simp only [hm, if_true]
    split <;> omega
  · simp [CarrierRec.key, hm, Ne.symm hm]

/-- How often a key stands in the eleven places of the track. -/
def Track.keyCount (k : Track) (x : Nat × Bool) : Nat := (k.buffer.map CarrierRec.key).count x +
  berthCount (k.berths.map (Option.map CarrierRec.key)) x + (k.launchBerth.map CarrierRec.key).toList.count x

theorem Track.keyCount_without (n m : Nat) (k : Track) :
    (k.without n).keyCount (m, false) = if m = n then 0 else k.keyCount (m, false) := by
  unfold Track.keyCount Track.without
  simp only [count_filter_number, berthCount_without, count_filter_option]
  split <;> rfl

theorem Track.keyCount_put {p : Place} (hp : p = .buffer ∨ (∃ i, p = .berth i) ∨ p = .launchBerth) (r : CarrierRec)
    (k : Track) (x : Nat × Bool) : (k.put p r).keyCount x ≤ k.keyCount x + [r.key].count x := by
  rcases hp with rfl | ⟨i, rfl⟩ | rfl
  · simp only [Track.put, Track.keyCount, List.map_append, List.map_cons, List.map_nil, List.count_append]
    omega
  · have set := berthCount_set (k.berths.map (Option.map CarrierRec.key)) i (some r.key) x
    have places : (k.berths.set i (some r)).map (Option.map CarrierRec.key) =
        (k.berths.map (Option.map CarrierRec.key)).set i (some r.key) := Quad.map_set _ _ _ _
    simp only [Track.put, Track.keyCount, places]
    simp only [Option.toList_some] at set
    omega
  · simp only [Track.put, Track.keyCount, Option.map_some, Option.toList_some]
    omega

/-- An accepted Declare puts the one record of a number into a free place (R73). -/
theorem Reach.declared {p : Place} {r : CarrierRec} (h : Reach c o s.core) (clear : o.buffer = none)
    (hp : p = .buffer ∨ (∃ i, p = .berth i) ∨ p = .launchBerth) (hr : r.number = n)
    (free : launchedBears n s = false) (room : p = .buffer → s.track.buffer.length < bufferPlaces) :
    Reach c { o with buffer := some s.track.buffer.length } { s with
      track := (s.track.without n).put p r,
      berths := declareBerths s.track.berths ((s.track.without n).put p r).berths s.berths }.core := by
  obtain ⟨hlaunch, hrecords⟩ := launchedBears_counts free
  have kept : ((s.track.without n).put p r).launch = s.track.launch ∧
      ((s.track.without n).put p r).step = s.track.step ∧
      ((s.track.without n).put p r).indexCommand = s.track.indexCommand ∧
      ((s.track.without n).put p r).launchCommand = s.track.launchCommand ∧
      ((s.track.without n).put p r).settings = s.track.settings := by
    rcases hp with rfl | ⟨i, rfl⟩ | rfl <;> simp [Track.put, Track.without]
  have doors : (declareBerths s.track.berths ((s.track.without n).put p r).berths s.berths).map Berth.door =
      s.berths.map Berth.door := Quad.ext_get fun i => by simp [declareBerths_get, Berth.declared_keeps]
  have settings : (declareBerths s.track.berths ((s.track.without n).put p r).berths s.berths).map Berth.settings =
      s.berths.map Berth.settings := Quad.ext_get fun i => by simp [declareBerths_get, Berth.declared_keeps]
  have length : s.core.buffer.length = s.track.buffer.length := by simp [State.core]
  have moved := h.recount (((s.track.without n).put p r).buffer.map CarrierRec.key)
    (((s.track.without n).put p r).berths.map (Option.map CarrierRec.key))
    (((s.track.without n).put p r).launchBerth.map CarrierRec.key) s.core.records
    ((declareBerths s.track.berths ((s.track.without n).put p r).berths s.berths).map Berth.occupied) clear
    (fun hp' => ⟨?_, hp'.2⟩) (fun hn => hn.of_le fun m _ => ?_) (fun ho i => ?_)
  · rw [length] at moved
    refine moved.cast ?_
    simp only [State.core, doors, settings, kept]
  · have bound := hp'.1
    rw [length] at bound
    have fewer := List.length_filter_le (fun x : CarrierRec => !decide (x.number = n)) s.track.buffer
    rcases hp with rfl | ⟨i, rfl⟩ | rfl
    · have room := room rfl
      simp only [Track.put, Track.without, List.map_append, List.length_append, List.length_map, List.map_cons,
        List.map_nil, List.length_singleton]
      omega
    · simp only [Track.put, Track.without, List.length_map]
      omega
    · simp only [Track.put, Track.without, List.length_map]
      omega
  · have put := Track.keyCount_put hp r (s.track.without n) (m, false)
    rw [Track.keyCount_without] at put
    have single := count_singleton_key r m
    rw [hr] at single
    have before : s.core.keys.count (m, false) = s.track.keyCount (m, false) + s.core.launch.toList.count (m, false) +
        s.core.records.count (m, false) := Core.count_keys _ _
    rw [before, Core.count_keys]
    unfold Track.keyCount at put
    by_cases hm : m = n
    · subst hm
      simp only [if_true] at put single
      refine le_max_of_le_left ?_
      simp only [hlaunch, hrecords]
      omega
    · simp only [hm, if_false] at put single
      refine le_max_of_le_right ?_
      unfold Track.keyCount
      dsimp only
      omega
  · have same := ho i
    simp only [State.core, Quad.get_map, Option.isSome_map] at same
    simp only [Quad.get_map, declareBerths_get, Berth.declared_keeps, Option.isSome_map, same]
    split
    · assumption
    · rfl

theorem inPlaces_number {r : CarrierRec} (h : r ∈ inPlaces n s) : r.number = n := by
  simp only [inPlaces, bearers, List.mem_map, List.mem_filter, decide_eq_true_eq] at h
  obtain ⟨p, ⟨⟨-, hn⟩, -⟩, rfl⟩ := h
  exact hn

protected theorem Reach.placeDeclared {p : Place} (h : Reach c o s.core) (clear : o.buffer = none)
    (hp : p = .buffer ∨ (∃ i, p = .berth i) ∨ p = .launchBerth) (free : launchedBears n s = false)
    (room : p = .buffer → s.track.buffer.length < bufferPlaces) : Reach c o (placeDeclared p n s).core := by
  have number : (((inPlaces n s).head?).getD (declaredRecord n s.update.t)).number = n := by
    cases e : inPlaces n s with
    | nil => rfl
    | cons r rs => exact inPlaces_number (s := s) (by simp [e])
  have moved := (h.declared clear hp number free room).bufferChanged.gateTest.indexTest
  have same : ({ o with buffer := none } : Owed) = o := by rw [← clear]
  rw [same] at moved
  exact moved

protected theorem Reach.doDeclare {place : Nat} (h : Reach c o s.core) (clear : o.buffer = none) :
    Reach c o (doDeclare place n s).1.core := by
  unfold Machine.doDeclare
  split
  · exact h
  · split
    · exact h
    · rename_i p hp
      split
      · exact h
      · split
        · exact h
        · rename_i free
          split
          · exact h
          · rename_i room
            split
            · exact h
            · refine h.placeDeclared clear (declarePlace?_cases hp) ?_ fun hb => ?_
              · simpa using fun e => free (.inl e)
              · exact Nat.lt_of_not_le fun full => room ⟨hb, full⟩

/-! ### The track's settings (R74) -/

protected theorem Reach.doSetSpacing {g v : Nat} (h : Reach c o s.core) : Reach c o (doSetSpacing g v s).1.core := by
  unfold Machine.doSetSpacing
  split
  · rename_i range
    refine Reach.gateTest (h.trackSettings { s.track.settings with spacing := g, vMin := v } (fun legal => ?_) rfl)
    obtain ⟨-, -, hrest⟩ := legal
    exact ⟨⟨range.1, range.2.1⟩, range.2.2, hrest⟩
  · exact h

protected theorem Reach.doSetTrack {slow limit : Nat} {accept : Bool} (h : Reach c o s.core) (clear : o.buffer = none) :
    Reach c o (doSetTrack slow limit accept s).1.core := by
  unfold Machine.doSetTrack
  split
  · rename_i range
    have set := h.trackSlow { s.track.settings with slow := slow, limit := limit, acceptUnlisted := accept }
      (fun legal => ?_) range.1
    · have same : ({ o with buffer := none } : Owed) = o := by rw [← clear]
      rw [same] at set
      unfold trackCeilingTest setCeiling
      refine Reach.updateCeilings (set.cast ?_)
      simp [State.core, Governor.withCeiling]
    · obtain ⟨hspacing, hmin, -, -, hgrip⟩ := legal
      exact ⟨hspacing, hmin, ⟨range.1, range.2.1⟩, range.2.2, hgrip⟩
  · exact h

protected theorem Reach.doSetGrip {fMin fOk : Nat} (h : Reach c o s.core) : Reach c o (doSetGrip fMin fOk s).1.core := by
  unfold Machine.doSetGrip
  split
  · rename_i range
    refine h.trackSettings { s.track.settings with fMin := fMin, fOk := fOk } (fun legal => ?_) rfl
    obtain ⟨hspacing, hmin, hslow, hlimit, -⟩ := legal
    exact ⟨hspacing, hmin, hslow, hlimit, range.1, range.2.2.2.2, range.2.2.2.1⟩
  · exact h

end

end Sys2Proof.Machine
end

section
/-! SUPPORT. The roster, its passages and the valley entry as paths of moves. -/

namespace Sys2Proof.Machine

open Config

section
variable {c : Core} {o : Owed} {s t u : State} {i j : Idx4} {n : Nat}

/-! ### Travel (R107 to R110) -/

/-- Roster records replaced by ones with the same numbers and the same Duplicate marks, in their order. -/
theorem Reach.rosterWith {l : List RosterRec} (h : Reach c o s.core)
    (same : (l.map fun r => r.carrier.key) = s.roster.records.map fun r => r.carrier.key) :
    Reach c o (rosterWith l s).core := by
  refine h.edit ?_
  simp only [State.core, Machine.rosterWith, same]
  rfl

protected theorem Reach.reportOverdue {l : List RosterRec} (h : Reach c o s.core) :
    Reach c o (reportOverdue l s).core := by
  induction l generalizing s with
  | nil => exact h
  | cons r l ih => exact ih h.offerEvent.queueReport

theorem RosterRec.travel_carrier (k : Roster) (t : Travel) (r : RosterRec) : (r.travel k t).carrier = r.carrier := by
  unfold RosterRec.travel saturateAnchor
  split <;> rfl

protected theorem Reach.rosterTravel (h : Reach c o s.core) : Reach c o (rosterTravel s).core := by
  unfold Machine.rosterTravel
  simp only []
  have moved : Reach c o (reportOverdue ((s.roster.records.map (RosterRec.travel s.roster s.update.t)).filter
      (newlyOverdue s.roster)) (Machine.rosterWith ((s.roster.records.map (RosterRec.travel s.roster s.update.t)).map
        fun r => if newlyOverdue s.roster r then { r with overdue := true } else r) s)).core := by
    refine Reach.reportOverdue (h.rosterWith ?_)
    rw [List.map_map, List.map_map]
    refine List.map_congr_left fun r _ => ?_
    simp only [Function.comp_apply]
    split <;> simp [RosterRec.travel_carrier]
  refine Reach.watchesTravel ?_
  split
  · exact moved.raise
  · exact moved

/-! ### Passages (R111 to R114) -/

/-- What a search for the first record of a kind finds. -/
theorem splitFirst_eq_some {p : RosterRec → Bool} {l before behind : List RosterRec} {r : RosterRec}
    (h : splitFirst p l = some (before, r, behind)) : l = before ++ r :: behind ∧ p r = true := by
  induction l generalizing before with
  | nil => simp [splitFirst] at h
  | cons x l ih =>
    unfold splitFirst at h
    split at h
    · rename_i found
      obtain ⟨rfl, rfl, rfl⟩ : before = [] ∧ x = r ∧ l = behind := by simpa [eq_comm] using h
      exact ⟨rfl, found⟩
    · obtain ⟨⟨b, y, a⟩, hsplit, hpair⟩ := Option.map_eq_some_iff.mp h
      obtain ⟨rfl, rfl, rfl⟩ : x :: b = before ∧ y = r ∧ a = behind := by simpa using hpair
      obtain ⟨rfl, found⟩ := ih hsplit
      exact ⟨rfl, found⟩

theorem key_skipLeg (leg : Leg) (r : RosterRec) : (skipLeg leg r).carrier.key = r.carrier.key := by
  unfold skipLeg
  split
  · exact key_mark _ (by decide)
  · rfl

protected theorem Reach.reportSkipped {l : List RosterRec} (h : Reach c o s.core) :
    Reach c o (reportSkipped l s).core := by
  induction l generalizing s with
  | nil => exact h
  | cons r l ih => exact ih h.queueReport

protected theorem Reach.passedOver {leg : Leg} {l : List RosterRec} (h : Reach c o s.core) :
    Reach c o (passedOver leg l s).core := by
  unfold Machine.passedOver
  split
  · exact h.reportSkipped.raise
  · exact h

theorem key_arrive (l : Nat) (r : RosterRec) : (r.arrive l).carrier.key = r.carrier.key := key_unmark _ (by decide)

theorem key_depart (l : Nat) (t : Travel) (m : Nat) (r : RosterRec) :
    (r.depart l t m).carrier.key = r.carrier.key := by
  simp only [RosterRec.depart]
  split
  · exact key_unmark _ (by decide)
  · rfl

protected theorem Reach.arrived (h : Reach c o s.core) : Reach c o (arrived n s).core := by
  unfold Machine.arrived
  split
  · rename_i before r behind found
    split at found
    · cases found
    · obtain ⟨records, -⟩ := splitFirst_eq_some found
      refine Reach.passedOver (h.rosterWith ?_)
      simp [records, key_skipLeg, key_arrive]
  · exact h.queueReport.offerEvent

protected theorem Reach.departed {m : Nat} (h : Reach c o s.core) : Reach c o (departed n m s).core := by
  unfold Machine.departed
  split
  · rename_i before r behind found
    split at found
    · cases found
    · obtain ⟨records, -⟩ := splitFirst_eq_some found
      have moved : Reach c o
          (Machine.rosterWith (before ++ r.depart s.roster.lUp s.update.t m :: behind) s).core :=
        h.rosterWith (by simp [records, key_depart])
      simp only []
      split
      · exact moved.offerEvent.queueReport
      · exact moved
  · exact h.queueReport

/-! ### Valley entry (R52, R53, R116 to R119) -/

/-- A new record at the buffer's tail, with the roster's records as they then are. -/
theorem Reach.joinTail {r : CarrierRec} {l : List RosterRec} (h : Reach c o s.core) (clear : o.buffer = none)
    (room : s.track.buffer.length < bufferPlaces) (fewer : l.length ≤ s.roster.records.length)
    (numbers : ∀ m, m ≠ 0 →
      [r.key].count (m, false) + (l.map fun x => x.carrier.key).count (m, false) ≤ s.core.records.count (m, false) ∨
      s.core.keys.count (m, false) = 0 ∧ (l.map fun x => x.carrier.key).count (m, false) = 0)
    (ht : t.core = { s.core with
      buffer := s.core.buffer ++ [r.key], records := l.map fun x => x.carrier.key }) :
    Reach c { o with buffer := some s.track.buffer.length } t.core := by
  have length : s.core.buffer.length = s.track.buffer.length := by simp [State.core]
  have moved := h.recount (s.core.buffer ++ [r.key]) s.core.places s.core.launchBerth
    (l.map fun x => x.carrier.key) s.core.occupied clear (fun hp => ⟨?_, ?_⟩) (fun hn => hn.of_le fun m hm => ?_) id
  · rw [length] at moved
    exact moved.cast ht
  · simpa [length] using room
  · have := hp.2
    simp only [State.core, List.length_map] at this fewer ⊢
    omega
  · have single : [r.key].count (m, false) ≤ 1 := by
      rw [List.count_singleton]
      split <;> omega
    simp only [Core.count_keys, List.count_append] at numbers ⊢
    rcases numbers m hm with le | ⟨absent, none⟩
    · exact le_max_of_le_right (by omega)
    · exact le_max_of_le_left (by omega)

theorem setTail_append (r r' : CarrierRec) (s : State) :
    setTail r' { s with track := { s.track with buffer := s.track.buffer ++ [r] } } =
      { s with track := { s.track with buffer := s.track.buffer ++ [r'] } } := by
  simp [setTail]

theorem key_adopt {unread : Bool} {x : RosterRec} {r : CarrierRec} (h : r.marks = []) :
    (adopt unread x r).key = x.carrier.key := by
  have given : Mark.duplicate ∉ (if unread then [Mark.skipped] else [.skipped, .unread, .inferred]) := by
    cases unread <;> decide
  have joined : CarrierRec.key { r with
      number := x.carrier.number, marks := unionMarks r.marks
        (removeMarks (if unread then [.skipped] else [.skipped, .unread, .inferred]) x.carrier.marks),
      force := x.carrier.force } = x.carrier.key := by
    simp [CarrierRec.key, unionMarks, h, Mark.mem_all, duplicate_mem_removeMarks given]
  cases unread with
  | true => exact (key_mark _ (by decide)).trans ((key_mark _ (by decide)).trans joined)
  | false => exact joined

theorem SameTrack.passedOver (leg : Leg) (l : List RosterRec) (s : State) : SameTrack s (passedOver leg l s) := by
  have skipped : ∀ (k : List RosterRec) (u : State), SameTrack u (reportSkipped k u) := by
    intro k
    induction k with
    | nil => exact fun u => .of_eq rfl
    | cons r k ih => exact fun u => (sameTrack_queueReport _ u).trans (ih _)
  unfold Machine.passedOver
  split
  · exact (skipped _ s).trans (sameTrack_raise _ _)
  · exact .of_eq rfl

theorem offerControl_track (f : ControlFrame) (s : State) : (offerControl f s).track = s.track := by simp

theorem gateTest_buffer (s : State) : (gateTest s).track.buffer = s.track.buffer := by
  unfold gateTest
  split
  · split
    · unfold release
      simp only []
      rw [(((sameTrack_offerEvent _ _).trans (sameTrack_queueReport _ _)).trans (sameTrack_indexTest _)).buffer,
        offerControl_track]
    · rfl
  · rfl

/-- The record that the matching of an entry leaves at the buffer's tail, the others of the buffer as they were. -/
def TailOf (s t : State) : Prop := ∃ y, t.track.buffer = s.track.buffer ++ [y]

/-- A matched roster record leaves the roster for the buffer's tail (R116, R118). -/
theorem Reach.takeMatch {unread : Bool} {before behind : List RosterRec} {x : RosterRec} {r : CarrierRec}
    (h : Reach c o s.core) (clear : o.buffer = none) (room : s.track.buffer.length < bufferPlaces)
    (hr : r.marks = []) (records : s.roster.records = before ++ x :: behind) :
    Reach c { o with buffer := some s.track.buffer.length } (takeMatch unread before x behind r
      { s with track := { s.track with buffer := s.track.buffer ++ [r] } }).core ∧
    TailOf s (takeMatch unread before x behind r
      { s with track := { s.track with buffer := s.track.buffer ++ [r] } }) := by
  have kept : ((if unread then before else before.map (skipLeg .inbound)).map fun y => y.carrier.key) =
      before.map fun y => y.carrier.key := by
    split <;> simp [key_skipLeg]
  have keyed := key_adopt (unread := unread) (x := x) hr
  unfold Machine.takeMatch
  simp only [setTail_append]
  generalize adopt unread x r = r' at keyed
  have joined : Reach c { o with buffer := some s.track.buffer.length }
      (Machine.rosterWith ((if unread then before else before.map (skipLeg .inbound)) ++ behind)
        { s with track := { s.track with buffer := s.track.buffer ++ [r'] } }).core := by
    refine h.joinTail (r := r') (l := (if unread then before else before.map (skipLeg .inbound)) ++ behind)
      clear room ?_ (fun m _ => .inl ?_) ?_
    · rw [records]
      have := congrArg List.length kept
      simp only [List.length_map] at this
      simp only [List.length_append, List.length_cons, this]
      omega
    · rw [List.map_append, kept, core_records, records]
      simp only [keyed, List.map_append, List.map_cons, List.count_append, List.count_cons, List.count_nil]
      omega
    · simp [State.core, Machine.rosterWith]
      rfl
  cases unread with
  | true => exact ⟨joined.gateTest, r', by simp [gateTest_buffer, Machine.rosterWith]⟩
  | false =>
    refine ⟨joined.passedOver.gateTest, r', ?_⟩
    simp only [Bool.false_eq_true, if_false]
    rw [gateTest_buffer, (SameTrack.passedOver _ _ _).buffer]
    rfl

theorem not_borne_count (h : borne n s = false) : s.core.keys.count (n, false) = 0 := by
  have none : bearers n s = [] := by simpa [borne] using h
  have absent := countP_bearers n s
  rw [none, List.length_nil, List.countP_eq_zero] at absent
  rw [List.count_eq_zero]
  exact fun hmem => absent _ hmem (by simp)

/-- The new record joins unmatched, with number 0, a number that no record bears, or as a Duplicate (R117, R119). -/
theorem Reach.joinUnmatched {r : CarrierRec} (h : Reach c o s.core) (clear : o.buffer = none)
    (room : s.track.buffer.length < bufferPlaces)
    (new : r.key.1 = 0 ∨ r.key.2 = true ∨ borne r.key.1 s = false) :
    Reach c { o with buffer := some s.track.buffer.length }
      { s with track := { s.track with buffer := s.track.buffer ++ [r] } }.core := by
  refine h.joinTail (r := r) (l := s.roster.records) clear room le_rfl (fun m hm => ?_) (by simp [State.core])
  by_cases hk : r.key = (m, false)
  · rw [hk] at new
    have free : borne m s = false := by simpa [hm] using new
    have absent := not_borne_count free
    refine .inr ⟨absent, ?_⟩
    rw [Core.count_keys, core_records] at absent
    omega
  · left
    rw [List.count_singleton, if_neg (by simpa using hk), core_records]
    omega

theorem Reach.matchEntry {r : CarrierRec} (h : Reach c o s.core) (clear : o.buffer = none)
    (room : s.track.buffer.length < bufferPlaces) (hr : r.marks = []) :
    Reach c { o with buffer := some s.track.buffer.length } (matchEntry (borne r.number s) r
      { s with track := { s.track with buffer := s.track.buffer ++ [r] } }).core ∧
    TailOf s (matchEntry (borne r.number s) r
      { s with track := { s.track with buffer := s.track.buffer ++ [r] } }) := by
  have unmatched : ∀ r' : CarrierRec, r'.key.1 = 0 ∨ r'.key.2 = true ∨ borne r'.key.1 s = false →
      Reach c { o with buffer := some s.track.buffer.length }
        { s with track := { s.track with buffer := s.track.buffer ++ [r'] } }.core ∧
      TailOf s { s with track := { s.track with buffer := s.track.buffer ++ [r'] } } := fun r' new =>
    ⟨h.joinUnmatched clear room new, r', rfl⟩
  unfold Machine.matchEntry
  split
  · rename_i zero
    split
    · rename_i before x behind found
      exact h.takeMatch clear room hr (splitFirst_eq_some found).1
    · rw [setTail_append]
      exact unmatched _ (.inl zero)
  · split
    · rename_i before x behind found
      exact h.takeMatch clear room hr (splitFirst_eq_some found).1
    · split
      · rw [setTail_append]
        exact unmatched _ (.inr (.inl (by simp [CarrierRec.key, CarrierRec.mark])))
      · rename_i free
        have free : borne r.number s = false := by simpa using free
        split
        · exact unmatched r (.inr (.inr free))
        · rw [setTail_append]
          exact unmatched _ (.inr (.inr free))

theorem key_entryMarks (stuck : Bool) (r : CarrierRec) : (entryMarks stuck r).key = r.key := by
  have held : (if Mark.gripFail ∈ r.marks ∨ Mark.noTest ∈ r.marks then r.mark .held else r).key = r.key := by
    split
    · exact key_mark _ (by decide)
    · rfl
  unfold entryMarks
  simp only []
  split
  · exact (key_mark _ (by decide)).trans held
  · exact held

/-- The record at the buffer's tail replaced by one with the same number and the same Duplicate mark. -/
theorem Reach.setTail {r f : CarrierRec} (h : Reach c o t.core) (tail : TailOf s t)
    (hr : r.key = (tailRecord f t).key) : Reach c o (setTail r t).core := by
  obtain ⟨y, hy⟩ := tail
  have key : r.key = y.key := by simpa [tailRecord, hy] using hr
  refine h.edit ?_
  simp [State.core, Machine.setTail, hy, key]

theorem setTail_length {r : CarrierRec} (tail : TailOf s t) :
    TailOf s (Machine.setTail r t) := by
  obtain ⟨y, hy⟩ := tail
  exact ⟨r, by simp [Machine.setTail, hy]⟩

protected theorem Reach.entry {tag : Nat} {stuck : Bool} (h : Reach c o s.core) (clear : o.buffer = none) :
    Reach c o (entry tag stuck s).core := by
  unfold Machine.entry
  simp only []
  split
  · exact h.raise.queueReport
  · rename_i full
    obtain ⟨matched, tail⟩ := h.matchEntry (r := entryRecord (entryTag tag) stuck s.update.t) clear
      (Nat.lt_of_not_le full) rfl
    have marked := matched.setTail tail (f := entryRecord (entryTag tag) stuck s.update.t)
      (key_entryMarks stuck _)
    have same : ({ o with buffer := none } : Owed) = o := by rw [← clear]
    have raised : ∀ u : State, Reach c { o with buffer := some s.track.buffer.length } u.core →
        Reach c { o with buffer := some s.track.buffer.length } (if stuck then raise .gripStuck u else u).core := by
      intro u hu
      split
      · exact hu.raise
      · exact hu
    have ended := fun ev r => ((raised _ marked).bufferChanged.offerEvent (ev := ev)).queueReport (r := r) |>.indexTest
    rw [same] at ended
    exact ended _ _

/-! ### Requests to the roster (R120, R121) -/

protected theorem Reach.doRemoveCarrier (h : Reach c o s.core) : Reach c o (doRemoveCarrier n s).1.core := by
  unfold Machine.doRemoveCarrier
  split
  · split
    · exact h
    · split
      · exact h
      · rename_i before r behind found
        obtain ⟨records, -⟩ := splitFirst_eq_some found
        refine Reach.gateTest (Reach.queueReport ?_)
        have moved := h.records s.core.buffer s.core.places s.core.launchBerth s.core.launch
          ((before ++ behind).map fun x => x.carrier.key) s.core.occupied rfl (fun hp => ⟨hp.1, ?_⟩)
          (fun hn => hn.of_le fun m _ => le_max_of_le_right ?_) id
        · refine moved.cast ?_
          simp [State.core, Machine.rosterWith]
          rfl
        · have := hp.2
          simp only [core_records, records, List.length_map, List.length_append, List.length_cons] at this ⊢
          omega
        · simp only [Core.count_keys, core_records, records, List.map_append, List.map_cons, List.count_append,
            List.count_cons]
          omega
  · exact h

protected theorem Reach.doSetGeometry {l d k : Nat} (h : Reach c o s.core) :
    Reach c o (doSetGeometry l d k s).1.core := by
  unfold Machine.doSetGeometry
  split
  · split
    · rename_i range
      refine (h.geometry l d k ⟨⟨range.1, range.2.1⟩, ⟨range.2.2.1, range.2.2.2.1⟩, range.2.2.2.2⟩).cast ?_
      have carriers : (s.roster.records.map (placeSummit l)).map (fun r => r.carrier.key) =
          s.roster.records.map fun r => r.carrier.key := by
        rw [List.map_map]
        refine List.map_congr_left fun r _ => ?_
        simp only [Function.comp_apply, placeSummit]
        split <;> rfl
      simp only [State.core, done, carriers]
      rfl
    · exact h
  · exact h

end

end Sys2Proof.Machine
end

section
/-! SUPPORT. The tower scanner as paths of moves: what the Tower ceiling and the tower table read of the slots changes
with codes, deadline states and addresses alone. -/

namespace Sys2Proof.Machine

open Config

section
variable {c : Core} {o : Owed} {s t u : State} {n : Nat} {x b : Slot}

/-! ### Slots -/

theorem slotAt_eq_some (h : slotAt n s = some b) : 1 ≤ n ∧ s.scanner.slots[n - 1]? = some b := by
  unfold slotAt at h
  split at h
  · cases h
  · exact ⟨by omega, h⟩

theorem set_keys_of_eq {l : List Slot} {m : Nat} (h : l[m]? = some b) (hk : x.key = b.key) :
    (l.set m x).map Slot.key = l.map Slot.key := by
  rw [List.map_set, hk]
  refine List.ext_getElem? fun k => ?_
  rw [List.getElem?_set]
  split
  · rename_i e
    subst e
    rw [List.getElem?_map, h, if_pos (by simpa using (List.getElem?_eq_some_iff.mp h).1)]
    rfl
  · rfl

/-- A slot's record replaced by one with its address, its coordinate and its call for the Tower ceiling. -/
theorem Reach.setSlotSame (h : Reach c o s.core) (hb : slotAt n s = some b) (hk : x.key = b.key) :
    Reach c o (setSlot n x s).core := by
  refine h.edit ?_
  have keys := set_keys_of_eq (slotAt_eq_some hb).2 hk
  simp only [State.core, setSlot, keys]
  rfl

/-- A slot's record replaced by one with its address and its coordinate. -/
protected theorem Reach.setSlot (h : Reach c o s.core) (hb : slotAt n s = some b)
    (ha : x.address = b.address) (hc : x.coord = b.coord) :
    Reach c { o with tower := true } (setSlot n x s).core := by
  refine (h.slots ((s.scanner.slots.set (n - 1) x).map Slot.key) ?_).cast rfl
  have at' := (slotAt_eq_some hb).2
  simp only [State.core, List.map_map, List.map_set]
  refine List.ext_getElem? fun k => ?_
  rw [List.getElem?_set]
  split
  · rename_i e
    subst e
    rw [List.getElem?_map, at', if_pos (by simpa using (List.getElem?_eq_some_iff.mp at').1)]
    simp [Slot.key, ha, hc]
  · rfl

/-- A path that owes no test of the Tower ceiling may be taken to owe one. -/
theorem Reach.owing {d : Core} (h : Reach c o d) : Reach c { o with tower := true } d := h.slots d.slots rfl

protected theorem Reach.towerCeilingTest (h : Reach c { o with tower := true } s.core) :
    Reach c o (towerCeilingTest s).core := by
  have tested := h.tower
  unfold Machine.towerCeilingTest setCeiling
  refine Reach.updateCeilings (tested.cast ?_)
  simp only [State.core, Governor.withCeiling, List.any_map]
  rfl

/-! ### The schedule (R126, R128, R130) -/

theorem markExtra_key (x : Slot) : (markExtra x).key = x.key := rfl

theorem Scanner.turn_keys (k : Scanner) :
    k.turn.slots.map Slot.key = k.slots.map Slot.key ∧ k.turn.deadline = k.deadline := by
  unfold Scanner.turn
  split
  · exact ⟨rfl, rfl⟩
  · exact ⟨by simp [Function.comp_def, markExtra_key], rfl⟩
  · exact ⟨rfl, rfl⟩

theorem Scanner.advance_keys (k : Scanner) :
    k.advance.slots.map Slot.key = k.slots.map Slot.key ∧ k.advance.deadline = k.deadline :=
  ⟨k.turn.turn_keys.1.trans k.turn_keys.1, k.turn.turn_keys.2.trans k.turn_keys.2⟩

/-- A scanner replaced by one with the slots, as far as the promises read them, and the deadline of the other. -/
theorem Reach.setScanner {k : Scanner} (h : Reach c o s.core)
    (hk : k.slots.map Slot.key = s.scanner.slots.map Slot.key ∧ k.deadline = s.scanner.deadline) :
    Reach c o { s with scanner := k }.core := by
  refine h.edit ?_
  simp only [State.core, hk]

protected theorem Reach.startRound (h : Reach c o s.core) : Reach c o (startRound s).core := by
  unfold Machine.startRound
  simp only []
  split
  · exact h.setScanner s.scanner.advance_keys
  · exact h

protected theorem Reach.endTransaction (h : Reach c o s.core) : Reach c o (endTransaction s).core := by
  unfold Machine.endTransaction
  simp only []
  split
  · exact h.setScanner ⟨rfl, rfl⟩
  · exact h.setScanner (Scanner.advance_keys _)

protected theorem Reach.endUnread (h : Reach c o s.core) : Reach c o (endUnread n s).core := by
  unfold Machine.endUnread
  split
  · rename_i hx
    exact Reach.endTransaction (h.setSlotSame hx rfl)
  · exact h.endTransaction

protected theorem Reach.pollSent (h : Reach c o s.core) : Reach c o (pollSent s).core := by
  unfold Machine.pollSent
  split
  · exact h.setScanner ⟨rfl, rfl⟩
  · exact h

protected theorem Reach.replyExpired (h : Reach c o s.core) : Reach c o (replyExpired s).core := by
  unfold Machine.replyExpired
  split
  · exact h.setScanner ⟨rfl, rfl⟩
  · exact h.endUnread
  · exact h

protected theorem Reach.transactionDue (h : Reach c o s.core) : Reach c o (transactionDue s).core := by
  unfold Machine.transactionDue
  split
  · exact h
  · exact h.startRound

protected theorem Reach.parkedPoll (h : Reach c o s.core) : Reach c o (parkedPoll s).core := by
  unfold Machine.parkedPoll
  split
  · simp only []
    split <;> exact h.setScanner ⟨rfl, rfl⟩
  · exact h

/-! ### Replies (R127, R129, R131 to R133) -/

protected theorem Reach.offerTowerEvent {k : TowerKind} {p : Option Nat} (h : Reach c o s.core) :
    Reach c o (offerTowerEvent k n p x s).core := h.towerOccasion

protected theorem Reach.latchPoint {i : Idx4} {l : Latch} (h : Reach c o s.core) :
    Reach c o (latchPoint n i l s).core := by
  unfold Machine.latchPoint
  split
  · rename_i y hy
    simp only []
    split
    · exact Reach.offerTower (Reach.offerTowerEvent (Reach.raise (h.setSlotSame hy rfl)))
    · split
      · exact h
      · exact Reach.offerTower (h.setSlotSame hy rfl)
  · exact h

protected theorem Reach.pointOffset {i : Idx4} (h : Reach c o s.core) : Reach c o (pointOffset n b x s i).core := by
  unfold Machine.pointOffset
  split
  · exact h.offerEvent
  · exact h

protected theorem Reach.pointEvents {i : Idx4} (h : Reach c o s.core) : Reach c o (pointEvents n b x s i).core := by
  unfold Machine.pointEvents
  split
  · exact h.offerTowerEvent
  · split
    · exact h.latchPoint
    · exact h

theorem Reach.foldl {α : Type} {f : State → α → State} (l : List α)
    (hf : ∀ u a, Reach c o u.core → Reach c o (f u a).core) (h : Reach c o s.core) : Reach c o (l.foldl f s).core := by
  induction l generalizing s with
  | nil => exact h
  | cons a l ih => exact ih (hf s a h)

protected theorem Reach.replyEvents (h : Reach c o s.core) : Reach c o (replyEvents n b x s).core :=
  Reach.foldl _ (fun _ _ hu => hu.pointEvents) (Reach.foldl _ (fun _ _ hu => hu.pointOffset) h)

protected theorem Reach.hearTower (h : Reach c o s.core) : Reach c o (hearTower n s).core := by
  unfold Machine.hearTower
  split
  · rename_i hx
    split
    · exact Reach.wakingTest (h.setSlotSame hx rfl)
    · exact h
  · exact h

protected theorem Reach.replyChange (h : Reach c o s.core) : Reach c o (replyChange n b s).core := by
  unfold Machine.replyChange
  split
  · split
    · exact h
    · exact h.offerTower
  · exact h

protected theorem Reach.acceptReply {k : Quad Nat} (h : Reach c o s.core) : Reach c o (acceptReply n k s).core := by
  unfold Machine.acceptReply
  split
  · rename_i before hb
    exact (h.setSlot (x := before.take k) hb rfl rfl).replyEvents.towerCeilingTest.hearTower.replyChange.endTransaction
  · exact h.endTransaction

protected theorem Reach.lateReply (h : Reach c o s.core) : Reach c o (lateReply n s).core :=
  Reach.offerEvent (h.setScanner ⟨rfl, rfl⟩)

protected theorem Reach.towerFrame {f : TowerFrame} (h : Reach c o s.core) : Reach c o (towerFrame f s).core := by
  unfold Machine.towerFrame
  split
  · exact h.lateReply
  · split
    · exact h.lateReply
    · split
      · exact h.acceptReply
      · exact h

protected theorem Reach.towerBytes {l : List Byte} (h : Reach c o s.core) : Reach c o (towerBytes l s).core := by
  unfold Machine.towerBytes
  split
  · exact h
  · split
    · exact h.towerFrame
    · exact h

/-! ### Ages and deadlines (R135, R136) -/

protected theorem Reach.becomeStale (h : Reach c o s.core) (hb : slotAt n s = some x) :
    Reach c o (becomeStale n x s).core :=
  (h.setSlot (x := { x with deadline := .stale, age := max x.age (s.scanner.deadline + 1) }) hb rfl
    rfl).offerEvent.offerTowerEvent.towerCeilingTest.offerTower

protected theorem Reach.becomeSilent (h : Reach c o s.core) (hb : slotAt n s = some x) :
    Reach c o (becomeSilent n x s).core :=
  (h.setSlot (x := { x with deadline := .silent, age := max x.age (2 * s.scanner.deadline + 1) }) hb rfl
    rfl).raise.towerCeilingTest.offerTower

protected theorem Reach.staleEvent (h : Reach c o s.core) : Reach c o (staleEvent n s).core := by
  unfold Machine.staleEvent
  split
  · split
    · exact h.becomeStale ‹_›
    · exact h
  · exact h

protected theorem Reach.silentEvent (h : Reach c o s.core) : Reach c o (silentEvent n s).core := by
  unfold Machine.silentEvent
  split
  · split
    · exact h.becomeSilent ‹_›
    · exact h
  · exact h

protected theorem Reach.comparePassed (h : Reach c o s.core) : Reach c o (comparePassed n s).core := by
  have staled : ∀ u : State, Reach c o u.core → Reach c o (match slotAt n u with
      | some x => if x.used ∧ x.deadline = Deadline.stale ∧ 2 * s.scanner.deadline < x.age then becomeSilent n x u else u
      | none => u).core := by
    intro u hu
    split
    · split
      · exact hu.becomeSilent ‹_›
      · exact hu
    · exact hu
  unfold Machine.comparePassed
  refine staled _ ?_
  split
  · split
    · exact h.becomeStale ‹_›
    · exact h
  · exact h

protected theorem Reach.compareSlot {p : State × Nat} (h : Reach c { o with tower := true } p.1.core) :
    Reach c { o with tower := true } (compareSlot n p).1.core := by
  unfold Machine.compareSlot
  split
  · rename_i hx
    simp only []
    split
    · exact Reach.setSlot (o := { o with tower := true }) h hx rfl rfl
    · exact h.comparePassed
  · exact h

protected theorem Reach.offerTowers (h : Reach c o s.core) : Reach c o (offerTowers n s).core := by
  induction n generalizing s with
  | zero => exact h
  | succ n ih => exact ih h.offerTower

theorem Reach.foldCompare (l : List Nat) {p : State × Nat} (h : Reach c { o with tower := true } p.1.core) :
    Reach c { o with tower := true } (l.foldl (fun p n => Machine.compareSlot (n + 1) p) p).1.core := by
  induction l generalizing p with
  | nil => exact h
  | cons a l ih => exact ih h.compareSlot

protected theorem Reach.compareSlots (h : Reach c o s.core) : Reach c o (compareSlots s).core :=
  (Reach.foldCompare (p := (s, 0)) (List.range towerSlots) h.owing).towerCeilingTest.offerTowers

/-! ### The entries to Waking and Parked (R130) -/

protected theorem Reach.wakeTowers (h : Reach c o s.core) : Reach c o (wakeTowers s).core := by
  have woken : Reach c o { s with scanner := { s.scanner with
      slots := s.scanner.slots.map fun x : Slot => if x.used then { x with heard := false, age := 0 } else x
      parkedTimer := none, pass := .main, passSlot := 0 } }.core := by
    refine h.setScanner ⟨?_, rfl⟩
    rw [List.map_map]
    refine List.map_congr_left fun x _ => ?_
    simp only [Function.comp_apply]
    split <;> rfl
  unfold Machine.wakeTowers
  simp only []
  split
  · exact woken.startRound
  · exact woken

protected theorem Reach.parkTowers (h : Reach c o s.core) : Reach c o (parkTowers s).core := by
  have parked : Reach c { o with tower := true } { s with scanner := { s.scanner with
      slots := s.scanner.slots.map fun x : Slot => if x.used then { x with heard := false, deadline := .within } else x
      parkedTimer := some parkedPollMs, pauseTimer := none } }.core := by
    refine (h.slots ((s.scanner.slots.map fun x : Slot =>
      if x.used then { x with heard := false, deadline := .within } else x).map Slot.key) ?_).cast rfl
    simp only [State.core, List.map_map]
    refine List.map_congr_left fun x _ => ?_
    simp only [Function.comp_apply]
    split <;> rfl
  unfold Machine.parkTowers
  simp only []
  split
  · exact parked.towerCeilingTest
  · exact parked.towerCeilingTest.offerTower

/-! ### Requests to the scanner (R125, R133, R136) -/

theorem mem_slotNumbers {p : Slot → Bool} {l : List Slot} {k m : Nat} {y : Slot} (hy : l[m]? = some y)
    (hp : p y = true) : k + m ∈ slotNumbers p k l := by
  induction l generalizing k m with
  | nil => simp at hy
  | cons z l ih =>
    unfold slotNumbers
    cases m with
    | zero =>
      obtain rfl : z = y := by simpa using hy
      simp [hp]
    | succ m =>
      have tail := ih (k := k + 1) (by simpa using hy)
      rw [show k + (m + 1) = k + 1 + m by omega]
      split
      · exact List.mem_cons_of_mem _ tail
      · exact tail

theorem Slot.fresh_key (x : Slot) : x.fresh.key.1 = x.address ∧ x.fresh.key.2.1 = x.coord := ⟨rfl, rfl⟩

protected theorem Reach.placeSlot {address coordinate enables : Nat} (h : Reach c o s.core)
    (hb : slotAt n s = some b) (range : ¬ (63 < address ∨ 18000 < coordinate))
    (free : addressTaken n address s = false) :
    Reach c o (placeSlot n (slotOf address coordinate enables) s).core := by
  obtain ⟨hn, -⟩ := slotAt_eq_some hb
  have moved := h.slot (n - 1) (slotOf address coordinate enables).fresh.key ?_ ?_
  · refine Reach.offerTower (Reach.towerCeilingTest ?_)
    have set : Reach c { o with tower := true } (Machine.setSlot n (slotOf address coordinate enables).fresh s).core := by
      refine moved.cast ?_
      simp only [State.core, Machine.setSlot, List.map_set]
      rfl
    unfold endIfTo
    split
    · split
      · exact set.endTransaction
      · exact set
    · exact set
  · refine ⟨fun a ha => ?_, ?_⟩
    · simp only [Slot.fresh_key, slotOf] at ha
      split at ha
      · cases ha
      · obtain rfl : address = a := by simpa using ha
        omega
    · simp only [Slot.fresh_key, slotOf]
      omega
  · intro a ha m hm taken
    simp only [Slot.fresh_key, slotOf] at ha
    split at ha
    · cases ha
    · rename_i nonzero
      obtain rfl : address = a := by simpa using ha
      obtain ⟨y, hy, hya⟩ : ∃ y, s.scanner.slots[m]? = some y ∧ y.address = some address := by
        simp only [State.core, List.getElem?_map] at taken
        cases e : s.scanner.slots[m]? with
        | none => simp [e] at taken
        | some y => exact ⟨y, rfl, by simpa [e, Slot.key] using taken⟩
      simp only [addressTaken, Bool.and_eq_false_iff, Bool.not_eq_false', decide_eq_true_eq, nonzero, false_or,
        List.any_eq_false] at free
      have at' := free _ (mem_slotNumbers (p := fun x => decide (x.address = some address)) (k := 1) hy (by simp [hya]))
      simp only [Bool.not_eq_true', decide_eq_false_iff_not, not_not] at at'
      omega

protected theorem Reach.doSetTower {a k e : Nat} (h : Reach c o s.core) : Reach c o (doSetTower n a k e s).1.core := by
  unfold Machine.doSetTower
  split
  · exact h
  · rename_i x hx
    split
    · exact h
    · rename_i range
      split
      · exact h
      · split
        · exact h
        · rename_i free
          split
          · exact h
          · exact h.placeSlot hx range (by simpa using free)

protected theorem Reach.doSetScan (h : Reach c o s.core) : Reach c o (doSetScan n s).1.core := by
  unfold Machine.doSetScan
  split
  · rename_i range
    have set : Reach c o { s with scanner := { s.scanner with deadline := n } }.core := (h.deadline n range).cast rfl
    split
    · exact set
    · simp only [done]
      exact set.compareSlots
  · exact h

protected theorem Reach.clearLatches {l : List Idx4} (h : Reach c o s.core) : Reach c o (clearLatches n l s).core := by
  induction l generalizing s with
  | nil => exact h
  | cons i l ih =>
    unfold Machine.clearLatches
    split
    · rename_i hx
      split
      · exact ih h
      · exact ih (Reach.offerTower (h.setSlotSame hx rfl))
    · exact h

protected theorem Reach.doAckTower {p : Nat} (h : Reach c o s.core) : Reach c o (doAckTower n p s).1.core := by
  unfold Machine.doAckTower
  split
  · split
    · exact h
    · split
      · exact h
      · exact h.clearLatches
  · exact h

end

end Sys2Proof.Machine
end

section
/-! SUPPORT. Run control and the speed governor as paths of moves. -/

namespace Sys2Proof.Machine

open Config

section
variable {c : Core} {o : Owed} {s t u : State} {n : Nat}

/-! ### Run control (R3 to R8, R12, R15 to R17) -/

protected theorem Reach.enterParked (h : Reach c o s.core) : Reach c o (enterParked s).core :=
  ((Reach.enterState (n := .parked) h trivial).cancelIndex.parkBerths (cancelIndex_step _)).parkTowers

protected theorem Reach.done (h : Reach c o s.core) : Reach c o (done s).1.core := by
  simp only [Machine.done]
  exact h

protected theorem Reach.doWake (h : Reach c o s.core) : Reach c o (doWake s).1.core := by
  unfold Machine.doWake
  split
  · rename_i parked
    exact Reach.done (Reach.enterState (n := .waking) h parked).homeBerths.wakeTowers
  · exact h

protected theorem Reach.doPark (h : Reach c o s.core) : Reach c o (doPark s).1.core := by
  unfold Machine.doPark
  split
  iterate 2 exact Reach.done h.enterParked
  · split
    · exact Reach.done h.enterParked
    · exact h
  · exact h

protected theorem Reach.doRun (h : Reach c o s.core) : Reach c o (doRun s).1.core := by
  unfold Machine.doRun
  split
  · exact h
  · split
    · exact h
    · rename_i clear
      split
      · exact Reach.enterState h (not_not.mp clear)
      · exact h

protected theorem Reach.doResetTrip (h : Reach c o s.core) : Reach c o (doResetTrip s).1.core := by
  unfold Machine.doResetTrip
  split
  · exact h
  · split
    · exact h
    · rename_i calm
      split
      · exact Reach.enterState h (.inr calm)
      · exact h

protected theorem Reach.clearSource {src : Source} (h : Reach c o s.core) : Reach c o (clearSource src s).core := by
  refine (h.clear src).cast ?_
  unfold clearSource giveClass
  split
  · rename_i same
    simp only [State.core, same]
  · rfl

protected theorem Reach.doClearStop (h : Reach c o s.core) : Reach c o (doClearStop n s).1.core := by
  unfold Machine.doClearStop
  split
  · exact h
  · split
    · split
      · exact h
      · exact h.clearSource
    · exact h

protected theorem Reach.platformInput {on : Bool} (h : Reach c o s.core) : Reach c o (platformInput on s).core := by
  have noted : Reach c o { s with run := { s.run with platformStop := on } }.core := h.edit rfl
  unfold Machine.platformInput
  simp only []
  split
  · exact h
  · split
    · exact noted.raise
    · exact noted.thaw

protected theorem Reach.loopInput {on : Bool} (h : Reach c o s.core) : Reach c o (loopInput on s).core := by
  have noted : Reach c o { s with run := { s.run with loopOpen := on } }.core := h.edit rfl
  unfold Machine.loopInput
  simp only []
  split
  · exact h
  · split
    · exact noted.raise
    · exact noted

/-! ### The window end (R19 to R37) -/

/-- What the promises read of a governor. -/
def Governor.kept (g k : Governor) : Prop := k.settings = g.settings ∧ k.desk = g.desk ∧ k.wind = g.wind ∧
  k.band = g.band ∧ k.lineCeiling = g.lineCeiling ∧ k.towerCeiling = g.towerCeiling ∧
  k.trackCeiling = g.trackCeiling ∧ k.counterCeiling = g.counterCeiling ∧ k.watchCeiling = g.watchCeiling

theorem Governor.kept.trans {g k l : Governor} (h : g.kept k) (h' : k.kept l) : g.kept l := by
  obtain ⟨a1, a2, a3, a4, a5, a6, a7, a8, a9⟩ := h
  obtain ⟨b1, b2, b3, b4, b5, b6, b7, b8, b9⟩ := h'
  exact ⟨b1.trans a1, b2.trans a2, b3.trans a3, b4.trans a4, b5.trans a5, b6.trans a6, b7.trans a7, b8.trans a8,
    b9.trans a9⟩

/-- A governor replaced by one that the promises see alike but for the reference. -/
theorem Governor.kept.core {g : Governor} (h : s.gov.kept g) :
    { s with gov := g }.core = { s.core with reference := g.reference } := by
  obtain ⟨a1, a2, a3, a4, a5, a6, a7, a8, a9⟩ := h
  simp only [State.core, a1, a2, a3, a4, a5, a6, a7, a8, a9]

theorem Reach.setGov {g : Governor} (h : Reach c o s.core) (kept : s.gov.kept g)
    (same : g.reference = s.gov.reference) : Reach c o { s with gov := g }.core := by
  rw [kept.core, same]
  exact h

theorem Governor.measure_kept (g : Governor) : g.kept g.measure ∧ g.measure.reference = g.reference := by
  unfold Governor.measure
  simp only []
  split <;> exact ⟨⟨rfl, rfl, rfl, rfl, rfl, rfl, rfl, rfl, rfl⟩, rfl⟩

theorem Governor.supervise_kept (rs : RunState) (d : Int) (g : Governor) : g.kept (g.supervise rs d) :=
  ⟨rfl, rfl, rfl, rfl, rfl, rfl, rfl, rfl, rfl⟩

theorem Governor.aim_kept (rs : RunState) (g : Governor) : g.kept (g.aim rs) := by
  cases rs <;> exact ⟨rfl, rfl, rfl, rfl, rfl, rfl, rfl, rfl, rfl⟩

theorem Governor.ramp_kept (rs : RunState) (g : Governor) : g.kept (g.ramp rs) := by
  unfold Governor.ramp
  split <;> exact ⟨rfl, rfl, rfl, rfl, rfl, rfl, rfl, rfl, rfl⟩

theorem Governor.exchange_kept (g : Governor) : g.kept g.exchange ∧ g.exchange.reference = g.reference := by
  unfold Governor.exchange
  simp only []
  split
  · exact ⟨⟨rfl, rfl, rfl, rfl, rfl, rfl, rfl, rfl, rfl⟩, rfl⟩
  · split <;> exact ⟨⟨rfl, rfl, rfl, rfl, rfl, rfl, rfl, rfl, rfl⟩, rfl⟩

/-- The Max ceiling is always present, so that no lowest ceiling lies above it (R29). -/
theorem Governor.lowest_le_max (g : Governor) : g.lowest ≤ g.settings.max := by
  unfold Governor.lowest
  have present : g.settings.max ∈ Ceiling.all.filterMap g.ceiling :=
    List.mem_filterMap.mpr ⟨.max, by decide, rfl⟩
  cases hmin : (Ceiling.all.filterMap g.ceiling).min? with
  | none => exact Nat.zero_le _
  | some m => exact (List.min?_eq_some_iff.mp hmin).2 _ present

theorem rampStep_le {r target up down bound : Nat} (hr : r ≤ bound) (ht : target ≤ bound) :
    rampStep r target up down ≤ bound := by
  unfold rampStep
  split
  · omega
  · split <;> omega

/-- After aim and ramp the reference stays at most Max, and is 0 out of motion (R29, R30). -/
theorem Governor.ramped_reference (rs : RunState) (g : Governor) :
    (g.reference ≤ g.settings.max → ((g.aim rs).ramp rs).reference ≤ g.settings.max) ∧
      (runMoves rs = false → ((g.aim rs).ramp rs).reference = 0) := by
  cases rs <;> simp [Governor.aim, Governor.ramp, runMoves]
  · exact fun h => rampStep_le h g.lowest_le_max
  · exact fun h => rampStep_le h g.lowest_le_max
  · exact fun h => rampStep_le h (Nat.zero_le _)

protected theorem Reach.offerTarget (h : Reach c o s.core) : Reach c o (offerTarget n s).core := by
  unfold Machine.offerTarget
  split
  · exact h
  · exact h.offerGovernor

protected theorem Reach.driveExchange (h : Reach c o s.core) : Reach c o (driveExchange s).core := by
  obtain ⟨kept, same⟩ := s.gov.exchange_kept
  unfold Machine.driveExchange
  split
  · exact (h.setGov kept same).offerGovernor
  · exact h.setGov kept same

/-- The tenth quiet window's transition, whatever the quiet count stands at (R10). -/
theorem Reach.ropeAtRest (h : Reach c o s.core) (stopping : s.run.state = .stopping) (q : Nat) :
    Reach c o (ropeAtRest { s with run := { s.run with quiet := q } }).core := by
  refine Reach.entered (s := { s with run := { s.run with quiet := q } }) ?_
  refine (h.transition .stopped (.inl stopping)).cast ?_
  exact enter_core .stopped { s.run with state := .stopped, quiet := 0 } rfl rfl rfl

protected theorem Reach.windowResult (h : Reach c o s.core) : Reach c o (windowResult s).core := by
  unfold Machine.windowResult
  split
  · rename_i starting
    split
    · exact (Reach.enterState (n := .running) h starting).gateTest
    · exact h
  · rename_i stopping
    split
    · simp only []
      split
      · exact h.ropeAtRest stopping _
      · rename_i short
        exact h.quiet (s.run.quiet + 1) stopping (Nat.lt_of_not_le short)
    · exact h.quiet 0 stopping (by decide)
  · exact h

protected theorem Reach.travelUpdate {v : TravelUpdate} (h : Reach c o s.core) :
    Reach c o (travelUpdate v s).core := by
  have given : Reach c o { s with update := v }.core := h.edit rfl
  exact given.trackTravel.rosterTravel.countersTravel

protected theorem Reach.windowEnd (h : Reach c o s.core) : Reach c o (windowEnd s).core := by
  have gov : s.gov.kept (((s.gov.measure.supervise s.run.state s.gov.increment).aim s.run.state).ramp s.run.state) :=
    s.gov.measure_kept.1.trans (((Governor.supervise_kept _ _ _).trans (Governor.aim_kept _ _)).trans
      (Governor.ramp_kept _ _))
  have ramped : Reach c o { s with
      gov := ((s.gov.measure.supervise s.run.state s.gov.increment).aim s.run.state).ramp s.run.state }.core := by
    rw [gov.core]
    obtain ⟨bound, held⟩ := Governor.ramped_reference s.run.state
      (s.gov.measure.supervise s.run.state s.gov.increment)
    have same : (s.gov.measure.supervise s.run.state s.gov.increment).reference = s.gov.reference ∧
        (s.gov.measure.supervise s.run.state s.gov.increment).settings = s.gov.settings :=
      ⟨s.gov.measure_kept.2, s.gov.measure_kept.1.1⟩
    rw [same.1, same.2] at bound
    exact h.ramp _ bound held
  have result := (ramped.offerTarget (n := s.gov.target)).driveExchange.raiseAll
    (l := s.gov.measure.alarms s.run.state s.gov.increment) |>.windowResult
  unfold Machine.windowEnd
  simp only []
  split
  · exact result.raise.travelUpdate
  · exact result.travelUpdate

/-! ### The supervision counts' last windows, the drive and the wind (R25, R27, R34, R35, R38 to R42) -/

theorem Governor.kept.refl (g : Governor) : g.kept g := ⟨rfl, rfl, rfl, rfl, rfl, rfl, rfl, rfl, rfl⟩

protected theorem Reach.encoderPulse {back : Bool} (h : Reach c o s.core) : Reach c o (encoderPulse back s).core := by
  unfold Machine.encoderPulse
  split <;> exact h.setGov ⟨rfl, rfl, rfl, rfl, rfl, rfl, rfl, rfl, rfl⟩ rfl

protected theorem Reach.overspeedReached (h : Reach c o s.core) : Reach c o (overspeedReached s).core := by
  unfold Machine.overspeedReached
  split
  · exact Reach.raise (h.setGov ⟨rfl, rfl, rfl, rfl, rfl, rfl, rfl, rfl, rfl⟩ rfl)
  · exact h

protected theorem Reach.encoderLossReached (h : Reach c o s.core) : Reach c o (encoderLossReached s).core := by
  unfold Machine.encoderLossReached
  split
  · exact Reach.raise (h.setGov ⟨rfl, rfl, rfl, rfl, rfl, rfl, rfl, rfl, rfl⟩ rfl)
  · exact h

protected theorem Reach.quietReached (h : Reach c o s.core) : Reach c o (quietReached s).core := by
  unfold Machine.quietReached
  split
  · rename_i quiet
    have stopping : s.run.state = .stopping := by
      simp only [quietNow, Bool.and_eq_true, decide_eq_true_eq] at quiet
      exact quiet.1.1.1
    exact h.ropeAtRest stopping s.run.quiet
  · exact h

protected theorem Reach.missedReached (h : Reach c o s.core) : Reach c o (missedReached s).core := by
  unfold Machine.missedReached
  split
  · exact Reach.raise (Reach.offerGovernor (h.setGov ⟨rfl, rfl, rfl, rfl, rfl, rfl, rfl, rfl, rfl⟩ rfl))
  · exact h

protected theorem Reach.takeStatus {d : DriveStatus} (h : Reach c o s.core) : Reach c o (takeStatus d s).core := by
  have set : Reach c o { s with gov := { s.gov with status := d, missed := 0, statusSeen := true } }.core :=
    h.setGov ⟨rfl, rfl, rfl, rfl, rfl, rfl, rfl, rfl, rfl⟩ rfl
  have offered : Reach c o (if d = s.gov.status then
      { s with gov := { s.gov with status := d, missed := 0, statusSeen := true } } else
      offerGovernor { s with gov := { s.gov with status := d, missed := 0, statusSeen := true } }).core := by
    split
    · exact set
    · exact set.offerGovernor
  unfold Machine.takeStatus
  simp only []
  split
  · exact offered.raise
  · exact offered

protected theorem Reach.driveRecord {l : List Byte} (h : Reach c o s.core) : Reach c o (driveRecord l s).core := by
  unfold Machine.driveRecord
  split
  · exact h.takeStatus
  · exact h

theorem highestBand_le (w : Nat) (bands : List WindBand) : highestBand w bands ≤ bands.length := by
  unfold highestBand
  have bound : ∀ (l : List (WindBand × Nat)) (m k : Nat), m ≤ k → (∀ p ∈ l, p.2 < k) →
      l.foldl (fun m p => if p.1.entry ≤ w then p.2 + 1 else m) m ≤ k := by
    intro l
    induction l with
    | nil => exact fun _ _ h _ => h
    | cons p l ih =>
      intro m k hm hl
      refine ih _ k ?_ fun q hq => hl q (List.mem_cons_of_mem _ hq)
      simp only []
      split
      · exact hl p List.mem_cons_self
      · exact hm
  exact bound _ _ _ (Nat.zero_le _) fun p hp => by simpa using List.snd_lt_of_mem_zipIdx hp

/-- A change of the wind band (R42). -/
protected theorem Reach.enterBand {g : Governor} (h : Reach c o s.core) (kept : s.gov.kept { g with band := s.gov.band })
    (same : g.reference = s.gov.reference) (bound : g.band ≤ s.gov.band ∨ g.band ≤ s.gov.wind.bands.length) :
    Reach c o (enterBand g s).core := by
  have set : Reach c o { s with gov := g }.core := by
    refine (h.band g.band bound).cast ?_
    obtain ⟨a1, a2, a3, a4, a5, a6, a7, a8, a9⟩ := kept
    dsimp only at a1 a2 a3 a5 a6 a7 a8 a9
    simp only [State.core, a1, a2, a3, a5, a6, a7, a8, a9, same]
  unfold Machine.enterBand
  simp only []
  split
  · exact set.offerGovernor.raise
  · exact set.offerGovernor

theorem Governor.runHold_kept (g : Governor) : g.kept g.runHold ∧ g.runHold.reference = g.reference := by
  unfold Governor.runHold
  split <;> exact ⟨⟨rfl, rfl, rfl, rfl, rfl, rfl, rfl, rfl, rfl⟩, rfl⟩

theorem Governor.pauseHold_kept (g : Governor) : g.kept g.pauseHold ∧ g.pauseHold.reference = g.reference := by
  unfold Governor.pauseHold
  split <;> exact ⟨⟨rfl, rfl, rfl, rfl, rfl, rfl, rfl, rfl, rfl⟩, rfl⟩

protected theorem Reach.takeReading (h : Reach c o s.core) : Reach c o (takeReading n s).core := by
  unfold Machine.takeReading
  simp only []
  split
  · exact h.enterBand ⟨rfl, rfl, rfl, rfl, rfl, rfl, rfl, rfl, rfl⟩ rfl (.inr (highestBand_le _ _))
  · split
    · exact h.setGov s.gov.runHold_kept.1 s.gov.runHold_kept.2
    · exact h.setGov ⟨rfl, rfl, rfl, rfl, rfl, rfl, rfl, rfl, rfl⟩ rfl

protected theorem Reach.pauseWind (h : Reach c o s.core) : Reach c o (pauseWind s).core :=
  h.setGov s.gov.pauseHold_kept.1 s.gov.pauseHold_kept.2

protected theorem Reach.takeWind {w : Option Nat} (h : Reach c o s.core) : Reach c o (takeWind w s).core := by
  unfold Machine.takeWind
  split
  · exact h.takeReading
  · exact h.pauseWind

protected theorem Reach.holdExpired (h : Reach c o s.core) : Reach c o (holdExpired s).core := by
  have entered : ∀ k ms, Reach c o (Machine.enterBand
      { s.gov with band := s.gov.band - 1, holdMs := ms, hold := k } s).core := fun k ms =>
    h.enterBand ⟨rfl, rfl, rfl, rfl, rfl, rfl, rfl, rfl, rfl⟩ rfl (.inl (Nat.sub_le _ _))
  unfold Machine.holdExpired
  split
  · have either : ∀ low : Bool, Reach c o (Machine.enterBand
        (if low then { s.gov with band := s.gov.band - 1, holdMs := 0 }
          else { s.gov with band := s.gov.band - 1, holdMs := 0, hold := .stopped }) s).core := by
      intro low
      cases low
      · exact entered _ _
      · exact entered s.gov.hold _
    exact either _
  · exact h

/-! ### Requests to the governor (R43 to R45) -/

protected theorem Reach.doSetGovernor {g : GovernorSettings} (h : Reach c o s.core) :
    Reach c o (doSetGovernor g s).1.core := by
  unfold Machine.doSetGovernor
  split
  · rename_i held
    have held : runMoves s.run.state = false := by
      simp only [heldState, Bool.or_eq_true, decide_eq_true_eq] at held
      rcases held with e | e <;> rw [e] <;> rfl
    split
    · rename_i range
      exact Reach.updateCeilings ((h.govern g range held).cast rfl)
    · exact h
  · exact h

protected theorem Reach.doSetSpeed (h : Reach c o s.core) : Reach c o (doSetSpeed n s).1.core :=
  Reach.updateCeilings ((h.desk n).cast rfl)

theorem pairwise_of_increasing {l : List Nat} (h : increasing l = true) : l.Pairwise (· < ·) := by
  rw [← List.isChain_iff_pairwise]
  induction l with
  | nil => exact List.isChain_nil
  | cons a l ih =>
    cases l with
    | nil => exact List.isChain_singleton a
    | cons b l =>
      simp only [increasing, Bool.and_eq_true, decide_eq_true_eq] at h
      exact List.isChain_cons_cons.mpr ⟨h.1, ih h.2⟩

theorem windInRange_legal {bands : List (Nat × Nat)} {hysteresis hold : Nat}
    (h : windInRange bands hysteresis hold = true) :
    WindConfig.legal { bands := bands.map bandOf, hysteresis := hysteresis, hold := hold } := by
  simp only [windInRange, Bool.and_eq_true, decide_eq_true_eq, List.all_eq_true, Bool.or_eq_true, Bool.not_eq_true',
    decide_eq_false_iff_not] at h
  obtain ⟨⟨⟨⟨⟨⟨⟨hlength, hentry⟩, hrise⟩, hceiling⟩, hlast⟩, hh⟩, hlow⟩, hhigh⟩ := h
  refine ⟨by simpa using hlength, fun b hb => ?_, ?_, fun b hb => ?_, hh, hlow, hhigh⟩
  · obtain ⟨p, hp, rfl⟩ := List.mem_map.mp hb
    refine ⟨(hentry p hp).1, (hentry p hp).2, fun x hx => ?_⟩
    unfold bandOf at hx
    by_cases zero : p.2 = 0
    · simp [zero] at hx
    · obtain rfl : p.2 = x := by simpa [zero] using hx
      exact (hceiling p hp).resolve_left zero
  · have rising := pairwise_of_increasing hrise
    rw [List.pairwise_map] at rising ⊢
    exact rising
  · rw [← List.map_dropLast] at hb
    obtain ⟨p, hp, rfl⟩ := List.mem_map.mp hb
    simp [bandOf, hlast p hp]

protected theorem Reach.doSetWind {bands : List (Nat × Nat)} {hysteresis hold : Nat} (h : Reach c o s.core) :
    Reach c o (doSetWind bands hysteresis hold s).1.core := by
  unfold Machine.doSetWind
  split
  · split
    · rename_i range
      have set : Reach c o { s with gov := { s.gov.stopHold with
          wind := { bands := bands.map bandOf, hysteresis := hysteresis, hold := hold }, band := 0 } }.core :=
        (h.wind _ (windInRange_legal range)).cast rfl
      simp only []
      split
      · exact set.done
      · exact set.offerGovernor.done
    · exact h
  · exact h

end

end Sys2Proof.Machine
end

section
/-! SUPPORT. The summit line and the call unit as paths of moves. -/

namespace Sys2Proof.Machine

open Config

section
variable {c : Core} {o : Owed} {s t u : State} {n : Nat}

/-! ### The transmitter (R157, R162 to R166) -/

/-- What the promises read of the line controller. -/
def Line.kept (l k : Line) : Prop := k.stopClass = l.stopClass ∧ k.miss = l.miss ∧ k.voice.length ≤ l.voice.length ∧
  k.control.length ≤ l.control.length ∧ k.bulk.length ≤ l.bulk.length ∧ k.inbox.length ≤ l.inbox.length

/-- The line controller replaced by one whose queues hold no more. -/
theorem Reach.setLine {l : Line} (h : Reach c o s.core) (kept : s.line.kept l) : Reach c o { s with line := l }.core := by
  obtain ⟨hclass, hmiss, hvoice, hcontrol, hbulk, hinbox⟩ := kept
  refine (h.line l.voice.length l.control.length l.bulk.length l.inbox.length hvoice.trans hcontrol.trans
    hbulk.trans hinbox.trans).cast ?_
  simp only [State.core, hclass, hmiss]

theorem Line.kept_same {l k : Line} (hclass : k.stopClass = l.stopClass) (hmiss : k.miss = l.miss)
    (hvoice : k.voice = l.voice) (hcontrol : k.control = l.control) (hbulk : k.bulk = l.bulk)
    (hinbox : k.inbox = l.inbox) : l.kept k :=
  ⟨hclass, hmiss, by rw [hvoice], by rw [hcontrol], by rw [hbulk], by rw [hinbox]⟩

/-- The line controller replaced by one with the same queues. -/
theorem Reach.sameLine {l : Line} (h : Reach c o s.core) (hclass : l.stopClass = s.line.stopClass)
    (hmiss : l.miss = s.line.miss) (hvoice : l.voice = s.line.voice) (hcontrol : l.control = s.line.control)
    (hbulk : l.bulk = s.line.bulk) (hinbox : l.inbox = s.line.inbox) : Reach c o { s with line := l }.core :=
  h.setLine (Line.kept_same hclass hmiss hvoice hcontrol hbulk hinbox)

protected theorem Reach.startControlFrame {f : ControlFrame} {rest : List ControlFrame} (h : Reach c o s.core)
    (head : s.line.control = f :: rest) : Reach c o (startControlFrame f rest s).core := by
  have started : Reach c o { s with line := { s.line with control := rest, transmit := .start (.control f) } }.core :=
    h.setLine ⟨rfl, rfl, le_rfl, by rw [head]; exact Nat.le_succ _, le_rfl, le_rfl⟩
  unfold Machine.startControlFrame
  simp only []
  split
  · exact Reach.offerLine (started.sameLine rfl rfl rfl rfl rfl rfl)
  · exact started

protected theorem Reach.startNext (h : Reach c o s.core) : Reach c o (startNext s).core := by
  unfold Machine.startNext
  split
  · exact h.sameLine rfl rfl rfl rfl rfl rfl
  · rename_i _ head
    exact h.setLine ⟨rfl, rfl, by rw [head]; exact Nat.le_succ _, le_rfl, le_rfl, le_rfl⟩
  · exact h.startControlFrame ‹_›
  · exact h.sameLine rfl rfl rfl rfl rfl rfl
  · exact h

protected theorem Reach.sendFlags (h : Reach c o s.core) : Reach c o (sendFlags s).core :=
  h.sameLine rfl rfl rfl rfl rfl rfl

protected theorem Reach.flagSent (h : Reach c o s.core) : Reach c o (flagSent s).core := by
  unfold Machine.flagSent
  split
  · exact h.startNext
  · exact h.sendFlags.startNext
  · exact h

protected theorem Reach.frameSent (h : Reach c o s.core) : Reach c o (frameSent s).core := by
  unfold Machine.frameSent
  split
  · refine Reach.startNext (Reach.sendFlags (h.setLine ⟨rfl, rfl, le_rfl, le_rfl, ?_, le_rfl⟩))
    simp
  · exact h.sendFlags.startNext
  · exact h

protected theorem Reach.abortSent (h : Reach c o s.core) : Reach c o (abortSent s).core := by
  unfold Machine.abortSent
  split
  · exact h.sendFlags.startNext
  · exact h.sendFlags.startNext
  · exact h

protected theorem Reach.offerBeat (h : Reach c o s.core) : Reach c o (offerBeat s).core :=
  h.sameLine rfl rfl rfl rfl rfl rfl

protected theorem Reach.beatExpired (h : Reach c o s.core) : Reach c o (beatExpired s).core :=
  Reach.offerBeat (h.sameLine rfl rfl rfl rfl rfl rfl)

/-! ### Summit beats (R167 to R170) -/

protected theorem Reach.countLine {f : LineCounts → LineCounts} (h : Reach c o s.core) :
    Reach c o (countLine f s).core := h.sameLine rfl rfl rfl rfl rfl rfl

protected theorem Reach.offerLineIf {b : LineSnapshot} (h : Reach c o s.core) : Reach c o (offerLineIf b s).core := by
  unfold Machine.offerLineIf
  split
  · exact h
  · exact h.offerLine

protected theorem Reach.offerMissed (h : Reach c o s.core) : Reach c o (offerMissed n s).core := by
  induction n generalizing s with
  | zero => exact h
  | succ n ih => exact ih h.offerEvent

protected theorem Reach.gapTest (h : Reach c o s.core) : Reach c o (gapTest n s).core := by
  unfold Machine.gapTest
  split
  · exact h.offerMissed.countLine
  · exact h

/-- The miss count and the Line ceiling taken together (R168). -/
theorem Reach.missed {m : Nat} {p : Option Nat} {on : Bool} (h : Reach c o s.core) (hon : on = decide (2 ≤ m)) :
    Reach c o (setCeiling .line on { s with line := { s.line with miss := m, supervision := p } }).core := by
  unfold setCeiling
  refine Reach.updateCeilings ((h.miss on).cast ?_)
  simp only [State.core, Governor.withCeiling, hon]

protected theorem Reach.heardBeat (h : Reach c o s.core) : Reach c o (heardBeat n s).core := by
  have heard : Reach c o (if s.line.heard then { s with line := { s.line with lastBeat := some n, heard := true } }
      else offerLine { s with line := { s.line with lastBeat := some n, heard := true } }).core := by
    have set : Reach c o { s with line := { s.line with lastBeat := some n, heard := true } }.core :=
      h.sameLine rfl rfl rfl rfl rfl rfl
    split
    · exact set
    · exact set.offerLine
  exact Reach.offerLineIf (heard.missed rfl)

protected theorem Reach.beatDemands {b : BeatFields} (h : Reach c o s.core) : Reach c o (beatDemands b s).core := by
  unfold Machine.beatDemands
  split
  · exact h.raise
  · split
    · exact h.raise
    · exact h

protected theorem Reach.takeFields {b : BeatFields} (h : Reach c o s.core) : Reach c o (takeFields b s).core := by
  have ceiling : Reach c o (Machine.updateCeilings { s.gov with summitCeiling := beatCeiling b } s).core :=
    Reach.updateCeilings (h.setGov ⟨rfl, rfl, rfl, rfl, rfl, rfl, rfl, rfl, rfl⟩ rfl)
  exact Reach.offerLineIf (Reach.sameLine ceiling.takeWind rfl rfl rfl rfl rfl rfl)

protected theorem Reach.summitBeat {b : BeatFields} (h : Reach c o s.core) : Reach c o (summitBeat b s).core :=
  h.countLine.gapTest.heardBeat.beatDemands.takeFields

/-- The miss count as the supervision timer's expiry leaves it (R168). -/
theorem Reach.missAction {m : Nat} {p : Option Nat} (h : Reach c o s.core)
    (same : m = 2 ∨ decide (2 ≤ m) = decide (2 ≤ s.line.miss)) :
    Reach c o (missAction m { s with line := { s.line with miss := m, supervision := p } }).core := by
  by_cases two : m = 2
  · subst two
    exact h.missed rfl
  · have counted : Reach c o { s with line := { s.line with miss := m, supervision := p } }.core := by
      refine h.edit ?_
      simp only [State.core, same.resolve_left two]
    unfold Machine.missAction
    split
    · exact counted.pauseWind
    · split
      · exact counted.raise
      · exact counted

protected theorem Reach.supervisionExpired (h : Reach c o s.core) : Reach c o (supervisionExpired s).core := by
  unfold Machine.supervisionExpired
  split
  · exact h
  · have acted : Reach c o (if min (s.line.miss + 1) 255 = s.line.miss then
        { s with line := { s.line with miss := min (s.line.miss + 1) 255, supervision := some supervisionNextMs } }
        else Machine.missAction (min (s.line.miss + 1) 255) { s with
          line := { s.line with miss := min (s.line.miss + 1) 255, supervision := some supervisionNextMs } }).core := by
      split
      · rename_i full
        exact h.sameLine rfl full rfl rfl rfl rfl
      · rename_i counts
        refine h.missAction ?_
        by_cases two : min (s.line.miss + 1) 255 = 2
        · exact .inl two
        · exact .inr (decide_eq_decide.mpr (by omega))
    simp only []
    split
    · exact acted
    · exact acted.offerLine

/-! ### Passages, errors and notices (R159, R172 to R174) -/

protected theorem Reach.passage {d : Bool} {m : Nat} (h : Reach c o s.core) : Reach c o (passage d n m s).core := by
  unfold Machine.passage
  simp only []
  cases d
  · exact h.countLine.arrived
  · exact h.countLine.departed

protected theorem Reach.frameError {e : FrameFault} (h : Reach c o s.core) : Reach c o (frameError e s).core := by
  cases e with
  | length => exact h.countLine
  | fcs => exact h.countLine.offerEvent
  | format => exact h.countLine

protected theorem Reach.offerNotice (h : Reach c o s.core) : Reach c o (offerNotice s).core := by
  unfold Machine.offerNotice
  split
  · exact h
  · exact Reach.queueReport (h.sameLine rfl rfl rfl rfl rfl rfl)

protected theorem Reach.takeNotice {l : List Byte} (h : Reach c o s.core) : Reach c o (takeNotice l s).core := by
  have received : Reach c o { countLine (fun c => { c with notices := satInc c.notices }) s with
      line := (countLine (fun c => { c with notices := satInc c.notices }) s).line.receive l }.core := by
    have counted := h.countLine (f := fun c => { c with notices := satInc c.notices })
    generalize countLine (fun c => { c with notices := satInc c.notices }) s = u at counted ⊢
    unfold Line.receive
    split
    · rename_i room
      refine (counted.line u.core.voice u.core.control u.core.bulk (u.line.inbox ++ [(⟨l, false⟩ : Notice)]).length
        id id id fun _ => ?_).cast rfl
      simpa using room
    · refine (counted.line u.core.voice u.core.control u.core.bulk (u.line.inbox.dropLast ++ [(⟨l, true⟩ : Notice)]).length
        id id id fun bound => ?_).cast rfl
      have bound : u.line.inbox.length ≤ noticeInbox := bound
      simp only [List.length_append, List.length_dropLast, List.length_singleton]
      simp only [noticeInbox] at bound ⊢
      omega
  unfold Machine.takeNotice
  simp only []
  split
  · exact received
  · exact received.offerNotice

protected theorem Reach.reportSent {b : Bool} (h : Reach c o s.core) : Reach c o (reportSent b s).core := by
  unfold Machine.reportSent
  split
  · refine Reach.offerNotice (h.setLine ⟨rfl, rfl, le_rfl, le_rfl, le_rfl, ?_⟩)
    simp
  · split
    · exact h.offerNotice
    · exact h

protected theorem Reach.doSendNotice {l : List Byte} (h : Reach c o s.core) : Reach c o (doSendNotice l s).1.core := by
  unfold Machine.doSendNotice
  split
  · exact h
  · split
    · exact h
    · rename_i full
      refine (h.line s.core.voice s.core.control (s.line.bulk ++ [l]).length s.core.notices id id
        (fun _ => ?_) id).cast rfl
      simpa using Nat.lt_of_not_le full

/-! ### The call unit (R177 to R185) -/

/-- The call unit replaced by one whose id and playout queue suit its state. -/
theorem Reach.setPhone {k : CallUnit} (h : Reach c o s.core)
    (held : s.core.CallHeld → (k.id.isSome = true ↔ k.state ≠ .idle) ∧ (k.state ≠ .talking → k.queue.length = 0))
    (playout : s.phone.queue.length ≤ playoutMax → k.queue.length ≤ playoutMax) :
    Reach c o { s with phone := k }.core := (h.call k.state k.id k.queue.length held playout).cast rfl

/-- The call unit replaced by one in the same state, with the same id and no more queued. -/
theorem Reach.samePhone {k : CallUnit} (h : Reach c o s.core) (hstate : k.state = s.phone.state)
    (hid : k.id = s.phone.id) (hqueue : k.queue.length ≤ s.phone.queue.length) :
    Reach c o { s with phone := k }.core := by
  refine h.setPhone (fun held => ?_) hqueue.trans
  rw [hid, hstate]
  obtain ⟨named, silent⟩ := held
  exact ⟨named, fun quiet => Nat.le_zero.mp (hqueue.trans (silent quiet).le)⟩

protected theorem Reach.enterTalking {how : CallEvent} (h : Reach c o s.core) :
    Reach c o (enterTalking n how s).core :=
  Reach.queueReport (h.setPhone (fun _ => ⟨by simp, fun _ => rfl⟩) fun _ => Nat.zero_le _)

protected theorem Reach.enterIdle {k : CallEvent} (h : Reach c o s.core) : Reach c o (enterIdle k s).core :=
  Reach.queueReport (h.setPhone (fun _ => ⟨by simp, fun _ => rfl⟩) fun _ => Nat.zero_le _)

protected theorem Reach.sendSignal {k : Signal} (h : Reach c o s.core) : Reach c o (sendSignal k n s).core :=
  h.offerControl

/-- Out of Talking the playout queue is empty, so that a call named anew holds nothing (R177, R185). -/
theorem Reach.namedCall {k : CallUnit} (h : Reach c o s.core) (quiet : s.phone.state ≠ .talking)
    (hid : k.id.isSome = true) (hstate : k.state ≠ .idle) (hqueue : k.queue = s.phone.queue) :
    Reach c o { s with phone := k }.core :=
  h.setPhone (fun held => ⟨⟨fun _ => hstate, fun _ => hid⟩, fun _ => by rw [hqueue]; exact held.2 quiet⟩)
    (by rw [hqueue]; exact id)

protected theorem Reach.ringIn (h : Reach c o s.core) (quiet : s.phone.state ≠ .talking) :
    Reach c o (ringIn n s).core := Reach.queueReport (h.namedCall quiet rfl (by simp) rfl)

protected theorem Reach.doCall (h : Reach c o s.core) : Reach c o (doCall s).1.core := by
  unfold Machine.doCall
  split
  · rename_i idle
    exact Reach.sendSignal (h.namedCall (by simp [idle]) rfl (by simp) rfl)
  · exact h

protected theorem Reach.doAnswer (h : Reach c o s.core) : Reach c o (doAnswer s).1.core := by
  unfold Machine.doAnswer
  split
  · exact Reach.done h.sendSignal.enterTalking
  · exact h

protected theorem Reach.doHangUp (h : Reach c o s.core) : Reach c o (doHangUp s).1.core := by
  unfold Machine.doHangUp
  split
  · exact h
  · exact Reach.done h.sendSignal.enterIdle

protected theorem Reach.ringSignal (h : Reach c o s.core) : Reach c o (ringSignal n s).core := by
  unfold Machine.ringSignal
  split
  · rename_i idle
    exact h.ringIn (by simp [idle])
  · exact h.sendSignal.enterTalking
  · rename_i ringing
    split
    · exact h.samePhone rfl rfl le_rfl
    · exact h.ringIn (by simp [ringing])
  · split <;> exact h.sendSignal

protected theorem Reach.answerSignal (h : Reach c o s.core) : Reach c o (answerSignal n s).core := by
  unfold Machine.answerSignal
  split
  · split
    · exact h.enterTalking
    · exact h
    · exact h.sendSignal
  · exact h.sendSignal

protected theorem Reach.clearSignal (h : Reach c o s.core) : Reach c o (clearSignal n s).core := by
  unfold Machine.clearSignal
  split
  · exact h.enterIdle
  · exact h

protected theorem Reach.callSignal {k : Signal} (h : Reach c o s.core) : Reach c o (callSignal k n s).core := by
  cases k with
  | ring => exact h.countLine.ringSignal
  | answer => exact h.countLine.answerSignal
  | clear => exact h.countLine.clearSignal

protected theorem Reach.ringAgain (h : Reach c o s.core) : Reach c o (ringAgain s).core := by
  unfold Machine.ringAgain
  split
  · exact Reach.sendSignal (h.samePhone rfl rfl le_rfl)
  · exact h

protected theorem Reach.ringExpired (h : Reach c o s.core) : Reach c o (ringExpired s).core := by
  unfold Machine.ringExpired
  split
  · exact h.sendSignal.enterIdle
  · exact h

protected theorem Reach.ringStopped (h : Reach c o s.core) : Reach c o (ringStopped s).core := by
  unfold Machine.ringStopped
  split
  · exact h.enterIdle
  · exact h

protected theorem Reach.callLost (h : Reach c o s.core) : Reach c o (callLost s).core := by
  unfold Machine.callLost
  split
  · exact h.sendSignal.enterIdle
  · exact h

theorem placeBlock_length (r : Nat) (b : PlayoutBlock) (q : List PlayoutBlock) :
    (placeBlock r b q).length = q.length + 1 := by
  induction q with
  | nil => rfl
  | cons x q ih =>
    unfold placeBlock
    split <;> simp [ih]

/-- A block taken leaves the call's state and id, and at most eight blocks queued (R183). -/
theorem CallUnit.takeBlock_keeps (r : Nat) (b : PlayoutBlock) (k : CallUnit) :
    (k.takeBlock r b).state = k.state ∧ (k.takeBlock r b).id = k.id ∧
      (k.queue.length ≤ playoutMax → (k.takeBlock r b).queue.length ≤ playoutMax) := by
  unfold CallUnit.takeBlock
  split
  · exact ⟨rfl, rfl, fun bound => bound⟩
  · split
    · exact ⟨rfl, rfl, fun bound => bound⟩
    · unfold CallUnit.enqueue
      simp only []
      split
      · refine ⟨rfl, rfl, fun bound => ?_⟩
        rw [List.length_tail, placeBlock_length]
        omega
      · rename_i fits
        exact ⟨rfl, rfl, fun _ => Nat.le_of_not_lt fits⟩

protected theorem Reach.voice {m : Nat} {b : List Byte} (h : Reach c o s.core) : Reach c o (voice n m b s).core := by
  have counted := h.countLine (f := fun c => { c with voices := satInc c.voices })
  refine Reach.setPhone counted (fun held => ?_) fun bound => ?_
  all_goals unfold CallUnit.takeVoice
  · split
    · rename_i talking
      obtain ⟨hstate, hid, -⟩ := CallUnit.takeBlock_keeps
        ((countLine (fun c => { c with voices := satInc c.voices }) s).phone.reference.getD ((m + 255) % 256)) ⟨m, b⟩
        { (countLine (fun c => { c with voices := satInc c.voices }) s).phone with
          voiceLoss := some voiceLossMs, reference := some
            ((countLine (fun c => { c with voices := satInc c.voices }) s).phone.reference.getD ((m + 255) % 256)) }
      simp only [hstate, hid]
      exact ⟨held.1, fun quiet => absurd talking.1 quiet⟩
    · exact held
  · split
    · exact (CallUnit.takeBlock_keeps _ _ _).2.2 bound
    · exact bound

/-! ### The block period (R182, R184) -/

protected theorem Reach.conceal (h : Reach c o s.core) : Reach c o (conceal n s).core :=
  Reach.offerEvent (h.samePhone rfl rfl le_rfl)

protected theorem Reach.playing (h : Reach c o s.core) : Reach c o (playing s).core := by
  unfold Machine.playing
  simp only []
  split
  · rename_i queue
    split
    · exact h.samePhone rfl rfl (by rw [queue]; exact Nat.le_succ _)
    · exact h.conceal
  · exact h.conceal

protected theorem Reach.playout (h : Reach c o s.core) : Reach c o (playout s).core := by
  unfold Machine.playout
  split
  · exact h.playing
  · split
    · exact Reach.playing (h.samePhone rfl rfl le_rfl)
    · exact h.samePhone rfl rfl le_rfl

protected theorem Reach.sendBlock {b : List Byte} (h : Reach c o s.core) : Reach c o (sendBlock b s).core :=
  Reach.samePhone h.offerVoice rfl rfl le_rfl

protected theorem Reach.blockPeriod {b : List Byte} (h : Reach c o s.core) : Reach c o (blockPeriod b s).core := by
  have started : Reach c o { s with phone := { s.phone with blockTimer := blockMs } }.core :=
    h.samePhone rfl rfl le_rfl
  unfold Machine.blockPeriod
  simp only []
  split
  · exact started.sendBlock.playout
  · exact h.samePhone rfl rfl le_rfl

/-! ### The receiver (R158 to R161) -/

protected theorem Reach.receiverTo {r : Receiver} (h : Reach c o s.core) : Reach c o (receiverTo r s).core :=
  h.sameLine rfl rfl rfl rfl rfl rfl

protected theorem Reach.takeReceived {r : Received} (h : Reach c o s.core) : Reach c o (takeReceived r s).core := by
  cases r with
  | bad e => exact h.frameError
  | elsewhere => exact h
  | beat b => exact h.summitBeat
  | passage d n m => exact h.passage
  | callSignal k n => exact h.callSignal
  | voice n m b => exact h.voice
  | notice l => exact h.takeNotice

protected theorem Reach.flagReceived (h : Reach c o s.core) : Reach c o (flagReceived s).core := by
  have idle : Reach c o (Machine.receiverTo .idle { s with line := { s.line with flagTimer := flagMs } }).core :=
    Reach.receiverTo (h.sameLine rfl rfl rfl rfl rfl rfl)
  unfold Machine.flagReceived
  simp only []
  split
  · exact idle.offerLine
  · exact idle.takeReceived
  · exact idle

protected theorem Reach.flagExpired (h : Reach c o s.core) : Reach c o (flagExpired s).core := by
  have hunting : Reach c o (Machine.receiverTo .hunting { s with line := { s.line with flagTimer := 0 } }).core :=
    Reach.receiverTo (h.sameLine rfl rfl rfl rfl rfl rfl)
  unfold Machine.flagExpired
  simp only []
  split
  · exact hunting
  · exact hunting.offerLine

protected theorem Reach.abortReceived (h : Reach c o s.core) : Reach c o (abortReceived s).core := by
  unfold Machine.abortReceived
  simp only []
  split
  · split
    · exact h.receiverTo.countLine
    · exact h.receiverTo
  · exact h.receiverTo
  · exact h

protected theorem Reach.receiveBits {b : List Bool} (h : Reach c o s.core) : Reach c o (receiveBits b s).core := by
  unfold Machine.receiveBits
  split
  · exact h.sameLine rfl rfl rfl rfl rfl rfl
  · exact h.receiverTo.frameError

protected theorem Reach.bodyBits {b : List Bool} (h : Reach c o s.core) : Reach c o (bodyBits b s).core := by
  unfold Machine.bodyBits
  split
  · split
    · exact h
    · exact h.receiveBits
  · exact h.receiveBits
  · exact h

end

end Sys2Proof.Machine
end

section
/-! SUPPORT. The desk link, both starts and the step, on cores. Requests act by the moves of their owners; beside them the
desk link moves its own queues, and the two starts set every block afresh. A promise that the moves, the desk link's
queues and the starts keep is kept by every step. -/

namespace Sys2Proof.Machine

open Config

section
variable {c : Core} {s t u : State}

/-! ### Requests at their owners -/

protected theorem Reach.doStop {o : Owed} (h : Reach c o s.core) : Reach c o (doStop s).1.core := Reach.done h.raise

protected theorem Reach.doReleaseReports {o : Owed} {n : Nat} (h : Reach c o s.core) :
    Reach c o (doReleaseReports n s).1.core := by
  unfold Machine.doReleaseReports
  split
  · refine Reach.done ?_
    unfold unlatchGovernor
    simp only []
    split
    · exact Reach.offerGovernor (h.edit rfl)
    · exact h.edit rfl
  · refine Reach.done ?_
    unfold unlatchTower
    simp only []
    split
    · exact Reach.offerTower (h.edit rfl)
    · exact h.edit rfl
  · refine Reach.done ?_
    unfold unlatchLine
    simp only []
    split
    · exact Reach.offerLine (h.edit rfl)
    · exact h.edit rfl
  · refine Reach.done ?_
    unfold unlatchBerth
    simp only []
    split
    · exact Reach.offerBerth (h.edit rfl)
    · exact h.edit rfl
  · exact h

/-- A request's owner leaves the state by the moves of its block (R189). -/
protected theorem Reach.perform {r : Request} (h : Reach c {} s.core) : Reach c {} (perform r s).1.core := by
  cases r with
  | setGeometry u d k => exact h.doSetGeometry
  | setGovernor g => exact h.doSetGovernor
  | setSpacing g v => exact h.doSetSpacing
  | setWind bands hy ho => exact h.doSetWind
  | setBerth n r => exact h.doSetBerth
  | setMotion g => exact h.doSetMotion
  | setTrack a b k => exact h.doSetTrack rfl
  | setTower n a k e => exact h.doSetTower
  | setScan d => exact h.doSetScan
  | setGrip a b => exact h.doSetGrip
  | setCounter n r => exact h.doSetCounter
  | setWatch n r => exact h.doSetWatch
  | wake => exact h.doWake
  | park => exact h.doPark
  | run => exact h.doRun
  | stop => exact h.doStop
  | setSpeed v => exact h.doSetSpeed
  | clearStop n => exact h.doClearStop
  | resetTrip => exact h.doResetTrip
  | restart =>
    unfold Machine.perform
    simp only []
    split
    · exact h
    · exact Reach.done (h.edit rfl)
  | declare p n => exact h.doDeclare rfl
  | release n => exact h.doRelease
  | hold n => exact h.doHold
  | renumber n m => exact h.doRenumber
  | garage => exact h.doGarage
  | inhibitLaunch b => exact h.doInhibit
  | abandon => exact h.doAbandon
  | mark n => exact h.doMark
  | unmark n => exact h.doUnmark
  | berthCommand n k m => exact h.doBerthCommand
  | removeCarrier n => exact h.doRemoveCarrier
  | ackTower n p => exact h.doAckTower
  | armCounter n => exact h.doArmCounter
  | clearHits n => exact h.doClearHits
  | call => exact h.doCall
  | answer => exact h.doAnswer
  | hangUp => exact h.doHangUp
  | sendNotice l => exact h.doSendNotice
  | releaseReports k => exact h.doReleaseReports
  | readStatus | readTrack | readRoster | readBerths | readTowers | readCounters | readWatches | readLine
  | readGovernor => exact h

/-! ### What a step can do -/

/-- Everything that a step can do to the core: moves, changes of the desk link's queues that keep their bounds, and the
two starts. -/
inductive Serves (s : State) : State → Prop where
  | refl : Serves s s
  | act {t u : State} (h : Serves s t) (moves : Reach t.core {} u.core) : Serves s u
  | desk {t u : State} (i r n : Nat) (h : Serves s t)
      (bound : t.core.DeskBounded → i ≤ inboxMax ∧ r ≤ replyMax ∧ n ≤ reportMax)
      (core : u.core = { t.core with inbox := i, replies := r, reports := n }) : Serves s u
  | powerOn {t : State} (h : Serves s t) : Serves s (powerOn t)
  | restart {t : State} (h : Serves s t) : Serves s (restartState t)

/-- A promise on cores is kept by every step when the moves, the desk link and both starts keep it. -/
theorem Serves.keeps {P : Core → Prop} (moves : ∀ c d : Core, Reach c {} d → P c → P d)
    (desk : ∀ (c : Core) (i r n : Nat), (c.DeskBounded → i ≤ inboxMax ∧ r ≤ replyMax ∧ n ≤ reportMax) → P c →
      P { c with inbox := i, replies := r, reports := n })
    (power : P State.reset.core) (restart : ∀ t : State, P t.core → P (restartState t).core) (h : Serves s t)
    (hs : P s.core) : P t.core := by
  induction h with
  | refl => exact hs
  | act _ reach ih => exact moves _ _ reach ih
  | desk i r n _ bound core ih =>
    rw [core]
    exact desk _ i r n bound ih
  | powerOn => exact power
  | restart _ ih => exact restart _ ih

/-- A change of the desk link that keeps the bounds of its queues. -/
theorem Serves.withDesk {f : Desk → Desk} (h : Serves s t)
    (bound : t.desk.inbox.length ≤ inboxMax → t.desk.replies.length ≤ replyMax →
      t.desk.urgent.length + t.desk.others.length ≤ reportMax →
      (f t.desk).inbox.length ≤ inboxMax ∧ (f t.desk).replies.length ≤ replyMax ∧
        (f t.desk).urgent.length + (f t.desk).others.length ≤ reportMax) : Serves s (t.withDesk f) :=
  h.desk _ _ _ (fun hb => bound hb.1 hb.2.1 hb.2.2) rfl

/-- A change of the desk link that leaves its queues. -/
theorem Serves.edit (h : Serves s t) (e : u.core = t.core) : Serves s u := h.act (e ▸ .refl)

protected theorem Serves.takeRequest {tag : Byte} {r : Request} (h : Serves s t)
    (free : t.desk.replies.length < replyMax) : Serves s (takeRequest tag r t) := by
  have performed : Reach t.core {} (perform r t).1.core := Reach.refl.perform
  obtain ⟨-, replies⟩ := performed.desk_kept
  replace replies : (perform r t).1.desk.replies.length = t.desk.replies.length := replies
  unfold Machine.takeRequest placeReply
  refine (h.act performed).withDesk fun hi _ hn => ⟨hi, ?_, hn⟩
  simp only []
  split <;> simp <;> omega

protected theorem Serves.dispatch {n : Nat} (h : Serves s t) : Serves s (dispatch n t) := by
  induction n generalizing t with
  | zero => exact h
  | succ n ih =>
    unfold Machine.dispatch
    split
    · rename_i may
      split
      · exact h
      · rename_i tag r rest head
        have free : t.desk.replies.length < replyMax := by
          simp only [mayDispatch, Bool.and_eq_true, decide_eq_true_eq] at may
          exact may.1
        refine ih (Serves.takeRequest (h.withDesk fun hi hr hn => ⟨?_, hr, hn⟩) free)
        rw [head] at hi
        exact (Nat.le_succ _).trans hi
    · exact h

protected theorem Serves.giveRequests (h : Serves s t) : Serves s (giveRequests t) := h.dispatch

/-! ### Receiving (R187, R188) -/

protected theorem Serves.garbled {cause : GarbledCause} (h : Serves s t) : Serves s (garbled cause t) :=
  h.act (Reach.queueReport (Reach.refl.edit rfl))

theorem Serves.refuseMessage {tag kind : Byte} {r : Reason} (h : Serves s t) (free : t.desk.replies.length < replyMax) :
    Serves s (refuseMessage tag kind r t) := by
  unfold Machine.refuseMessage placeReply
  refine h.withDesk fun hi _ hn => ⟨hi, ?_, hn⟩
  simpa using free

protected theorem Serves.submit {tag : Byte} {r : Request} (h : Serves s t) : Serves s (submit tag r t) := by
  unfold Machine.submit
  split
  · exact h.garbled
  · rename_i free
    split
    · exact Serves.refuseMessage (h.edit rfl) (not_le.mp free)
    · rename_i room
      refine Serves.giveRequests (h.withDesk fun _ hr hn => ⟨?_, hr, hn⟩)
      simp only [List.length_append, List.length_singleton]
      omega

protected theorem Serves.takeMessage {kind tag : Byte} {payload : List Byte} (h : Serves s t) :
    Serves s (takeMessage kind tag payload t) := by
  unfold Machine.takeMessage
  split
  · exact h.garbled
  · split
    · exact h.refuseMessage (not_le.mp ‹_›)
    · exact h.submit

protected theorem Serves.takeComplete {bytes : List Byte} (h : Serves s t) : Serves s (takeComplete bytes t) := by
  unfold Machine.takeComplete
  simp only []
  split
  · split
    · exact h.takeMessage
    · exact h
  · exact h.garbled

protected theorem Serves.deskByte {b : Byte} (h : Serves s t) : Serves s (deskByte b t) := by
  unfold Machine.deskByte assemble
  split
  · split
    · exact h.edit rfl
    · exact h
  · simp only []
    split
    · exact h
    · split
      · exact Serves.garbled (h.edit rfl)
      · split
        · exact Serves.takeComplete (h.edit rfl)
        · exact h.edit rfl

protected theorem Serves.gapTimerExpired (h : Serves s t) : Serves s (gapTimerExpired t) := by
  unfold Machine.gapTimerExpired
  split
  · exact h
  · exact Serves.garbled (h.edit rfl)

/-! ### Sending and the starts (R190, R193) -/

protected theorem Serves.startMessage (h : Serves s t) : Serves s (startMessage t) := by
  unfold Machine.startMessage startUrgent startReport startReply startOther
  split
  · rename_i rest head
    refine Serves.edit (h.withDesk (f := fun d => { d with urgent := rest }) fun hi hr hn => ⟨hi, hr, ?_⟩) rfl
    rw [head, List.length_cons] at hn
    simp only []
    omega
  · rename_i head
    refine Serves.giveRequests (h.withDesk fun hi hr hn => ⟨hi, ?_, hn⟩)
    rw [head, List.length_cons] at hr
    exact (Nat.le_succ _).trans hr
  · rename_i rest _ _ head
    refine Serves.edit (h.withDesk (f := fun d => { d with others := rest }) fun hi hr hn => ⟨hi, hr, ?_⟩) rfl
    rw [head, List.length_cons] at hn
    simp only []
    omega
  · exact h

protected theorem Serves.messageDue (h : Serves s t) : Serves s (messageDue t) := by
  unfold Machine.messageDue startRestartReply
  split
  · exact h
  · split
    · split
      · rename_i head
        refine h.withDesk fun hi hr hn => ⟨hi, ?_, hn⟩
        rw [head, List.length_cons] at hr
        exact (Nat.le_succ _).trans hr
      · exact h
    · exact h.startMessage

protected theorem Serves.restartDue (h : Serves s t) : Serves s (restartDue t) := by
  unfold Machine.restartDue
  split
  · exact h.restart
  · exact h

protected theorem Serves.messageSent (h : Serves s t) : Serves s (messageSent t) := by
  unfold Machine.messageSent
  split
  · exact h
  · exact Serves.restartDue (h.edit rfl)
  · exact h.act (Reach.reportSent (Reach.refl.edit rfl))

/-! ### The step -/

/-- Time without a command leaves the core. -/
theorem tick_core (s : State) : (tick s).core = s.core := by
  have gov : s.gov.tick = { s.gov with holdMs := s.gov.tick.holdMs } := by
    unfold Governor.tick
    split <;> rfl
  have berths : (tickBerths s.run.platformStop s.berths).map Berth.door = s.berths.map Berth.door ∧
      (tickBerths s.run.platformStop s.berths).map Berth.occupied = s.berths.map Berth.occupied ∧
      (tickBerths s.run.platformStop s.berths).map Berth.settings = s.berths.map Berth.settings := by
    unfold tickBerths
    split <;> exact ⟨rfl, rfl, rfl⟩
  have slots : (s.scanner.slots.map Slot.tick).map Slot.key = s.scanner.slots.map Slot.key := by
    rw [List.map_map]
    refine List.map_congr_left fun x _ => ?_
    change Slot.key x.tick = Slot.key x
    unfold Slot.tick
    split <;> rfl
  obtain ⟨doors, occupied, settings⟩ := berths
  simp only [State.core, tick, doors, occupied, settings, Scanner.tick, slots, Option.isSome_map]
  rw [gov]
  rfl

/-- Every command ends in a next state, by what a step can do. -/
theorem Serves.exec_next (c : Instr) (h : Serves s t) : ∃ u, exec c t = .next u ∧ Serves s u := by
  have r : Reach t.core {} t.core := .refl
  cases c with
  | powerOn => exact ⟨_, rfl, h.powerOn⟩
  | platformStopInput active => exact ⟨_, rfl, h.act r.platformInput⟩
  | emergencyLoopInput opened => exact ⟨_, rfl, h.act r.loopInput⟩
  | encoderPulse backward => exact ⟨_, rfl, h.act r.encoderPulse⟩
  | windowEnd => exact ⟨_, rfl, h.act r.windowEnd⟩
  | overspeed => exact ⟨_, rfl, h.act r.overspeedReached⟩
  | encoderLoss => exact ⟨_, rfl, h.act r.encoderLossReached⟩
  | quietWindows => exact ⟨_, rfl, h.act r.quietReached⟩
  | missedExchange => exact ⟨_, rfl, h.act r.missedReached⟩
  | driveStatus record => exact ⟨_, rfl, h.act r.driveRecord⟩
  | holdTimer => exact ⟨_, rfl, h.act r.holdExpired⟩
  | entry carrierTag stuck => exact ⟨_, rfl, h.act (r.entry rfl)⟩
  | indexTimeLimit => exact ⟨_, rfl, h.act r.indexLimitExpired⟩
  | indexDone => exact ⟨_, rfl, h.act (r.indexDone rfl)⟩
  | gripTestResult record => exact ⟨_, rfl, h.act r.testRecord⟩
  | recoveryTimer b => exact ⟨_, rfl, h.act r.recoveryExpired⟩
  | unlockTimer b => exact ⟨_, rfl, h.act r.unlockExpired⟩
  | motionComplete b active => exact ⟨_, rfl, h.act r.motionCompleteSense⟩
  | openingEnd b => exact ⟨_, rfl, h.act r.openingExpired⟩
  | dwellExpiry b => exact ⟨_, rfl, h.act r.dwellExpired⟩
  | closingEnd b => exact ⟨_, rfl, h.act r.closingExpired⟩
  | lockConfirm b active => exact ⟨_, rfl, h.act r.lockConfirmSense⟩
  | lockTimer b => exact ⟨_, rfl, h.act r.lockExpired⟩
  | obstruction b active => exact ⟨_, rfl, h.act r.obstructionSense⟩
  | driveFaultSense b active => exact ⟨_, rfl, h.act r.driveFaultChange⟩
  | startGapEnd => exact ⟨_, rfl, h.act r.gapExpired⟩
  | homingRunEnd b => exact ⟨_, rfl, h.act r.homingExpired⟩
  | pollSent => exact ⟨_, rfl, h.act r.pollSent⟩
  | towerReply frame => exact ⟨_, rfl, h.act r.towerBytes⟩
  | replyTimer => exact ⟨_, rfl, h.act r.replyExpired⟩
  | transactionStart => exact ⟨_, rfl, h.act r.transactionDue⟩
  | parkedPollTimer => exact ⟨_, rfl, h.act r.parkedPoll⟩
  | towerStale slot => exact ⟨_, rfl, h.act r.staleEvent⟩
  | towerSilent slot => exact ⟨_, rfl, h.act r.silentEvent⟩
  | counterExpiry c ev => exact ⟨_, rfl, h.act r.expiryEvent⟩
  | flagReceived => exact ⟨_, rfl, h.act r.flagReceived⟩
  | flagTimer => exact ⟨_, rfl, h.act r.flagExpired⟩
  | abortReceived => exact ⟨_, rfl, h.act r.abortReceived⟩
  | frameError e => exact ⟨_, rfl, h.act r.frameError⟩
  | summitBeat b => exact ⟨_, rfl, h.act r.summitBeat⟩
  | supervisionTimer => exact ⟨_, rfl, h.act r.supervisionExpired⟩
  | passageFrame departed number metres => exact ⟨_, rfl, h.act r.passage⟩
  | callSignal signal id => exact ⟨_, rfl, h.act r.callSignal⟩
  | voiceFrame id sequence block => exact ⟨_, rfl, h.act r.voice⟩
  | noticeFrame text => exact ⟨_, rfl, h.act r.takeNotice⟩
  | beatTimer => exact ⟨_, rfl, h.act r.beatExpired⟩
  | frameStart => exact ⟨_, rfl, h.act r.flagSent⟩
  | frameEnd => exact ⟨_, rfl, h.act r.frameSent⟩
  | abortEnd => exact ⟨_, rfl, h.act r.abortSent⟩
  | ringRepeat => exact ⟨_, rfl, h.act r.ringAgain⟩
  | ringTimeout => exact ⟨_, rfl, h.act r.ringExpired⟩
  | ringingGap => exact ⟨_, rfl, h.act r.ringStopped⟩
  | voiceLoss => exact ⟨_, rfl, h.act r.callLost⟩
  | blockPeriod captured => exact ⟨_, rfl, h.act r.blockPeriod⟩
  | bodyBitsReceived bits => exact ⟨_, rfl, h.act r.bodyBits⟩
  | deskMessage kind tag payload => exact ⟨_, rfl, h.takeMessage⟩
  | gapTimer => exact ⟨_, rfl, h.gapTimerExpired⟩
  | messageStart => exact ⟨_, rfl, h.messageDue⟩
  | messageSent => exact ⟨_, rfl, h.messageSent⟩
  | restartStart => exact ⟨_, rfl, h.restartDue⟩
  | deskByteReceived byte => exact ⟨_, rfl, h.deskByte⟩
  | wake | park | run | stop | resetTrip | clearStop | setGovernor | setSpeed | setWind | readGovernor | hold | release
  | renumber | mark | unmark | garage | inhibitLaunch | abandon | declare | setSpacing | setTrack | setGrip | readTrack
  | setBerth | setMotion | unlock | openDoors | closeDoors | lock | holdOpen | endDwell | reopen | skipCycle
  | clearFault | setMode | readBerths | removeCarrier | setGeometry | readRoster | setTower | setScan | ackTower
  | readTowers | setCounter | armCounter | readCounters | setWatch | clearHits | readWatches | sendNotice | readLine
  | call | answer | hangUp | releaseReports | restart | readStatus => exact ⟨_, rfl, h.submit⟩

theorem step_serves (hstep : step s = .next t) : Serves s t := by
  unfold step at hstep
  split at hstep
  · obtain rfl := Host.Outcome.next.inj hstep
    exact Serves.refl.edit (tick_core s)
  · rename_i c rest _
    have waiting : Serves s { s with pending := rest } := Serves.refl.edit rfl
    obtain ⟨u, hu, serves⟩ := waiting.exec_next c
    obtain rfl := Host.Outcome.next.inj (hu.symm.trans hstep)
    exact serves

end
end Sys2Proof.Machine
end

section
/-! SUPPORT. The promises of Sys2Proof/Safety.lean, settled: each is an invariant of the moves, is left by the desk link,
and holds after both starts. -/

namespace Sys2Proof.Machine

open Config

section
variable {s t : State}

/-! ### Right after reset -/

theorem reset_settingsLegal : SettingsLegal State.reset := by
  unfold SettingsLegal BerthSettings.legal Watch.legal WindConfig.legal TrackSettings.legal Counter.legal Slot.legal
  refine ⟨by decide, by decide, by decide, by decide, fun i => ?_, by decide, by decide, by decide, by decide, by decide,
    by decide, fun i => ?_, fun i => ?_⟩ <;> cases i <;> decide

theorem reset_doorsSound : DoorsSound State.reset := by
  unfold DoorsSound Berth.grantSound
  exact ⟨by decide, fun i => by cases i <;> decide, by decide, by decide, fun h => absurd h (by decide)⟩

theorem reset_noticesTrue : NoticesTrue State.reset := by
  unfold NoticesTrue
  exact ⟨by decide, by decide, by decide, fun i => by cases i <;> decide⟩

/-- Settles O3: the start values, promise by promise. -/
theorem resetKeepsEveryPromise : Obligations.ResetKeepsEveryPromise := by
  refine ⟨?_, ?_, ⟨rfl, rfl⟩, ?_, reset_doorsSound, ?_, ?_, ?_, ?_, ?_, reset_noticesTrue, ?_, reset_settingsLegal⟩
  · exact ⟨fun _ => rfl, fun h => nomatch h⟩
  · exact ⟨Nat.zero_lt_succ 9, fun _ => rfl⟩
  · exact ⟨Nat.zero_le _, fun _ => rfl⟩
  · unfold PlacesBounded
    decide
  · unfold QueuesBounded
    decide
  · unfold CallHeld
    decide
  · unfold TableSound
    decide
  · unfold CeilingsTrue
    decide
  · unfold NumbersUnique
    decide

/-! ### After a Restart -/

theorem fresh_key (x : Slot) : x.fresh.key = (x.address, x.coord, false) := by
  have calm : x.fresh.slows = false := by
    simp only [Slot.slows, Slot.fresh, Slot.anyPoint, freshCodes, Quad.get_map, Bool.and_eq_false_iff]
    refine .inr ?_
    simp only [decide_true, Bool.not_true, Bool.false_or, List.any_eq_false]
    intro i _
    cases x.enables.get i <;> simp [isOffset]
  rw [Slot.key, calm]
  rfl

theorem restart_slots (s : State) :
    (restartState s).core.slots = s.core.slots.map fun k => (k.1, k.2.1, false) := by
  simp only [State.core, restartState, Scanner.start, List.map_map]
  exact List.map_congr_left fun x _ => fresh_key x

theorem restart_tableSound (h : s.core.TableSound) : (restartState s).core.TableSound := by
  obtain ⟨hlen, haddr⟩ := h
  refine ⟨by rw [restart_slots, List.length_map]; exact hlen, ?_⟩
  rw [restart_slots, List.filterMap_map]
  exact haddr

theorem restarted_setup (c : Counter) : c.restarted.setup = { c.setup with alarm := false } := rfl

theorem restart_blocksLegal (h : s.core.BlocksLegal) : (restartState s).core.BlocksLegal := by
  obtain ⟨htrack, hberths, hgap, hgeo, hdead, hslots, hcounters, hwatches⟩ := h
  refine ⟨htrack, fun i => ?_, hgap, hgeo, hdead, ?_, fun i => ?_, fun i => ?_⟩
  · simpa [State.core, restartState, Berth.start] using hberths i
  · rw [restart_slots, List.forall_mem_map]
    exact fun k hk => hslots k hk
  · simpa [State.core, restartState, restarted_setup, Counter.legal] using hcounters i
  · simpa [State.core, restartState, Watch.restarted] using hwatches i

theorem restart_towerTrue : (restartState s).core.TowerTrue := by
  rw [Core.TowerTrue, restart_slots, List.any_map]
  simp [State.core, restartState, Governor.start]

theorem restart_ownCeilings : (restartState s).core.OwnCeilings := by
  refine ⟨rfl, ?_, ?_⟩
  · simp [Core.slowCounters, State.core, restartState, restarted_setup, Governor.start]
  · simp [State.core, restartState, Watches.slow, Watch.slows, Governor.start]

theorem restart_doorsSound : (restartState s).core.DoorsSound := by
  have closed : ∀ i, (restartState s).core.doors.get i = (.parked, false) := fun i => by
    simp [State.core, restartState, Berth.door, Berth.start]
  refine ⟨?_, fun i => ?_, List.nodup_nil, fun e he => absurd he List.not_mem_nil, fun h => absurd h Bool.false_ne_true⟩
  · simp [Core.holders, closed]
  · simp [Core.grantSound, closed]

/-! ### Every step -/

/-- A promise about the core alone, kept by every step. -/
theorem step_keeps_core {P : Core → Prop} (moves : ∀ c d : Core, Reach c {} d → P c → P d)
    (desk : ∀ (c : Core) (i r n : Nat), P c → P { c with inbox := i, replies := r, reports := n })
    (power : P State.reset.core) (restart : ∀ t : State, P t.core → P (restartState t).core)
    (hstep : step s = .next t) (hs : P s.core) : P t.core :=
  (step_serves hstep).keeps moves (fun c i r n _ => desk c i r n) power restart hs

theorem step_keeps_demandsObeyed (hstep : step s = .next t) (h : s.core.DemandsObeyed) : t.core.DemandsObeyed :=
  step_keeps_core (fun _ _ reach => reach.demandsObeyed) (fun _ _ _ _ hc => hc)
    ⟨fun _ => rfl, fun h => nomatch h⟩ (fun _ _ => ⟨fun _ => rfl, fun h => nomatch h⟩) hstep h

theorem step_keeps_quietCounted (hstep : step s = .next t) (h : s.core.QuietCounted) : t.core.QuietCounted :=
  step_keeps_core (fun _ _ reach => reach.quietCounted) (fun _ _ _ _ hc => hc)
    ⟨Nat.zero_lt_succ 9, fun _ => rfl⟩ (fun _ _ => ⟨Nat.zero_lt_succ 9, fun _ => rfl⟩) hstep h

theorem step_keeps_referenceBounded (hstep : step s = .next t) (h : s.core.ReferenceBounded) :
    t.core.ReferenceBounded :=
  step_keeps_core (fun _ _ reach => reach.referenceBounded) (fun _ _ _ _ hc => hc)
    ⟨Nat.zero_le _, fun _ => rfl⟩ (fun _ _ => ⟨Nat.zero_le _, fun _ => rfl⟩) hstep h

theorem step_keeps_placesBounded (hstep : step s = .next t) (h : s.core.PlacesBounded) : t.core.PlacesBounded :=
  step_keeps_core (fun _ _ reach => reach.placesBounded) (fun _ _ _ _ hc => hc)
    ⟨Nat.zero_le _, Nat.zero_le _⟩ (fun _ _ => ⟨Nat.zero_le _, Nat.zero_le _⟩) hstep h

theorem step_keeps_lineBounded (hstep : step s = .next t) (h : s.core.LineBounded) : t.core.LineBounded :=
  step_keeps_core (fun _ _ reach => reach.lineBounded) (fun _ _ _ _ hc => hc)
    ⟨Nat.zero_le _, Nat.zero_le _, Nat.zero_le _, Nat.zero_le _⟩
    (fun _ _ => ⟨Nat.zero_le _, Nat.zero_le _, Nat.zero_le _, Nat.zero_le _⟩) hstep h

theorem step_keeps_playout (hstep : step s = .next t) (h : s.core.playout ≤ playoutMax) : t.core.playout ≤ playoutMax :=
  step_keeps_core (P := fun c => c.playout ≤ playoutMax) (fun _ _ reach => reach.playout_le) (fun _ _ _ _ hc => hc)
    (Nat.zero_le _) (fun _ _ => Nat.zero_le _) hstep h

/-- The owners of requests move the report queue alone; the desk link and the starts keep all three bounds. -/
theorem step_keeps_deskBounded (hstep : step s = .next t) (h : s.core.DeskBounded) : t.core.DeskBounded := by
  refine (step_serves hstep).keeps (fun c d reach hc => ?_) (fun c i r n bound hc => bound hc) ?_ (fun u _ => ?_) h
  · obtain ⟨hi, hr, hn⟩ := hc
    obtain ⟨inbox, replies⟩ := reach.desk_kept
    exact ⟨inbox.trans_le hi, replies.trans_le hr, reach.reports_le hn⟩
  · exact ⟨Nat.zero_le _, Nat.zero_le _, Nat.le_add_left 1 31⟩
  · exact ⟨Nat.zero_le _, Nat.zero_le _, Nat.le_add_left 1 31⟩

theorem step_keeps_callHeld (hstep : step s = .next t) (h : s.core.CallHeld) : t.core.CallHeld :=
  step_keeps_core (fun _ _ reach => reach.callHeld) (fun _ _ _ _ hc => hc)
    ⟨by simp [State.core, State.reset, CallUnit.start], fun _ => rfl⟩
    (fun _ _ => ⟨by simp [State.core, restartState, CallUnit.start], fun _ => rfl⟩) hstep h

theorem step_keeps_tableSound (hstep : step s = .next t) (h : s.core.TableSound) : t.core.TableSound :=
  step_keeps_core (fun _ _ reach => reach.tableSound) (fun _ _ _ _ hc => hc)
    ((tableSound_core _).mp (by unfold TableSound; decide)) (fun _ => restart_tableSound) hstep h

theorem step_keeps_governorLegal (hstep : step s = .next t) (h : s.core.GovernorLegal) : t.core.GovernorLegal :=
  step_keeps_core (fun _ _ reach => reach.governorLegal) (fun _ _ _ _ hc => hc)
    ((settingsLegal_core _).mp reset_settingsLegal).1
    (fun _ ⟨hset, hdesk, hwind, _⟩ => ⟨hset, hdesk, hwind, Nat.zero_le _⟩) hstep h

theorem step_keeps_blocksLegal (hstep : step s = .next t) (h : s.core.BlocksLegal) : t.core.BlocksLegal :=
  step_keeps_core (fun _ _ reach => reach.blocksLegal) (fun _ _ _ _ hc => hc)
    ((settingsLegal_core _).mp reset_settingsLegal).2 (fun _ => restart_blocksLegal) hstep h

theorem step_keeps_towerTrue (hstep : step s = .next t) (h : s.core.TowerTrue) : t.core.TowerTrue :=
  step_keeps_core (fun _ _ reach hc => reach.towerTrue hc rfl) (fun _ _ _ _ hc => hc)
    (by unfold Core.TowerTrue; decide) (fun _ _ => restart_towerTrue) hstep h

/-- A slow threshold of 3 or more keeps the Track ceiling off while the buffer is empty (R54). -/
theorem step_keeps_trackAt (hstep : step s = .next t) (h : s.core.TrackAt s.core.buffer.length) :
    t.core.TrackAt t.core.buffer.length := by
  refine step_keeps_core (P := fun c => c.TrackAt c.buffer.length) (fun _ _ reach hc => reach.trackAt hc)
    (fun _ _ _ _ hc => hc) ⟨by decide, rfl⟩ (fun u ⟨slow, _⟩ => ⟨slow, ?_⟩) hstep h
  exact (decide_eq_false fun empty => Nat.not_succ_le_zero 2 (slow.trans empty)).symm

theorem step_keeps_ownCeilings (hstep : step s = .next t) (h : s.core.OwnCeilings) : t.core.OwnCeilings :=
  step_keeps_core (fun _ _ reach => reach.ownCeilings) (fun _ _ _ _ hc => hc)
    (by unfold Core.OwnCeilings; decide) (fun _ _ => restart_ownCeilings) hstep h

theorem step_keeps_classTold (hstep : step s = .next t) (h : s.core.ClassTold) : t.core.ClassTold :=
  step_keeps_core (fun _ _ reach hc => reach.classTold hc rfl) (fun _ _ _ _ hc => hc) rfl (fun _ _ => rfl) hstep h

theorem step_keeps_outputsTrue (hstep : step s = .next t) (h : s.core.OutputsTrue) : t.core.OutputsTrue :=
  step_keeps_core (fun _ _ reach => reach.outputsTrue) (fun _ _ _ _ hc => hc)
    ((noticesTrue_core _).mp reset_noticesTrue).2
    (fun u _ => ⟨rfl, rfl, fun i => by cases i <;> rfl⟩) hstep h

theorem step_keeps_numbersUnique (hstep : step s = .next t) (h : s.core.NumbersUnique) : t.core.NumbersUnique :=
  step_keeps_core (fun _ _ reach => reach.numbersUnique) (fun _ _ _ _ hc => hc) List.nodup_nil
    (fun _ _ => List.nodup_nil) hstep h

theorem step_keeps_doorsSound (hstep : step s = .next t) (h : s.core.DoorsSound) : t.core.DoorsSound :=
  step_keeps_core (fun _ _ reach => reach.doorsSound) (fun _ _ _ _ hc => hc)
    ((doorsSound_core _).mp reset_doorsSound) (fun _ _ => restart_doorsSound) hstep h

end

/-! ### The obligations -/

/-- Settles O6: no move leaves a moving run state with a demand, or a reference that the run state does not allow. -/
theorem demandsAndReferenceStayObeyed : Obligations.DemandsAndReferenceStayObeyed :=
  ⟨fun _ _ => step_keeps_demandsObeyed, fun _ _ => step_keeps_referenceBounded⟩

/-- Settles O8: doors and wait list move together, and with an index step in flight none leaves Locked. -/
theorem doorsStaySound : Obligations.DoorsStaySound := fun s t hstep h =>
  (doorsSound_core t).mpr (step_keeps_doorsSound hstep ((doorsSound_core s).mp h))

/-- Settles O9: every move that fills a place or a queue finds it free. -/
theorem placesAndQueuesStayBounded : Obligations.PlacesAndQueuesStayBounded := by
  refine ⟨fun s t hstep h => ?_, fun s t hstep h => ?_⟩
  · exact (placesBounded_core t).mpr (step_keeps_placesBounded hstep ((placesBounded_core s).mp h))
  · obtain ⟨desk, line, playout⟩ := (queuesBounded_core s).mp h
    exact (queuesBounded_core t).mpr
      ⟨step_keeps_deskBounded hstep desk, step_keeps_lineBounded hstep line, step_keeps_playout hstep playout⟩

/-- Settles O10: a setting is replaced by one that its request's range admits, or kept. -/
theorem tablesAndSettingsStayLegal : Obligations.TablesAndSettingsStayLegal := by
  refine ⟨fun s t hstep h => ?_, fun s t hstep h => ?_, fun s t hstep h => ?_⟩
  · exact (callHeld_core t).mpr (step_keeps_callHeld hstep ((callHeld_core s).mp h))
  · exact (tableSound_core t).mpr (step_keeps_tableSound hstep ((tableSound_core s).mp h))
  · obtain ⟨governor, blocks⟩ := (settingsLegal_core s).mp h
    exact (settingsLegal_core t).mpr
      ⟨step_keeps_governorLegal hstep governor, step_keeps_blocksLegal hstep blocks⟩

/-- Settles O11: what changes a ceiling's condition tests the ceiling before the command ends. -/
theorem ceilingsStayTrue : Obligations.CeilingsStayTrue := by
  intro s t hstep h
  obtain ⟨tower, track, own⟩ := (ceilingsTrue_core s).mp h
  exact (ceilingsTrue_core t).mpr
    ⟨step_keeps_towerTrue hstep tower, step_keeps_trackAt hstep track, step_keeps_ownCeilings hstep own⟩

/-- Settles O12: what moves a demand, a motion or a record tells the block that was told of it. -/
theorem noticesStayTrue : Obligations.NoticesStayTrue := by
  intro s t hstep h
  obtain ⟨told, outputs⟩ := (noticesTrue_core s).mp h
  exact (noticesTrue_core t).mpr ⟨step_keeps_classTold hstep told, step_keeps_outputsTrue hstep outputs⟩

/-- Settles O13: a record takes a number that no other bears, or is marked Duplicate with it. -/
theorem numbersStayUnique : Obligations.NumbersStayUnique := fun s t hstep h =>
  (numbersUnique_core t).mpr (step_keeps_numbersUnique hstep ((numbersUnique_core s).mp h))

end Sys2Proof.Machine
end

section
/-! SUPPORT. The step, the starts and the reads: commands whose whole next state is written out in their statements. -/

namespace Sys2Proof.Machine

open Config

/-- Settles O1: the step looks at the front of the queue alone. -/
theorem stepRunsTheFrontCommand : Obligations.StepRunsTheFrontCommand := by
  intro c rest s hpending
  unfold step
  rw [hpending]

/-! ### A millisecond with no command (R36, R57, R76, R96, R135) -/

section
variable (s : State)

theorem Governor.tick_eq (g : Governor) : g.tick = { g with holdMs := g.tick.holdMs } := by
  unfold Governor.tick
  split <;> rfl

theorem tick_berth (i : Idx4) :
    (tick s).berth i =
        { s.berth i with timer := ((tick s).berth i).timer, motionElapsed := ((tick s).berth i).motionElapsed } ∧
      ((tick s).berth i).timer.map Prod.fst = (s.berth i).timer.map Prod.fst := by
  simp only [State.berth_eq, tick, tickBerths]
  split
  · exact ⟨rfl, rfl⟩
  · simp only [Quad.get_map, Berth.tick, Option.map_map]
    exact ⟨trivial, rfl⟩

theorem tick_touches : Touches [.gov, .track, .berths, .supply, .scanner, .line, .phone, .desk] s (tick s) := by
  intro b hb
  cases b <;> simp_all [Block.kept, tick]

theorem tick_scanner : (tick s).scanner = { s.scanner with
      slots := s.scanner.slots.map fun x => if x.used then { x with age := min (x.age + 1) 65535 } else x
      transaction := s.scanner.transaction.map fun a => { a with timer := a.timer.map fun ms => ms - 1 }
      parkedTimer := s.scanner.parkedTimer.map fun ms => ms - 1
      pauseTimer := s.scanner.pauseTimer.map fun ms => ms - 1 } := rfl

theorem tick_frozen (frozen : s.run.platformStop = true) : (tick s).berths = s.berths ∧ (tick s).track = s.track := by
  have still : tickStep true = id := rfl
  simp [tick, tickBerths, frozen, still]

end

/-- Settles O2: the idle step is `tick`, block by block. -/
theorem idleStepOnlyPassesTime : Obligations.IdleStepOnlyPassesTime := by
  intro s hpending
  have idle : step s = .next (tick s) := by
    unfold step
    rw [hpending]
  exact ⟨tick s, idle, tick_touches s, rfl, s.gov.tick_eq, rfl, rfl, tick_berth s, rfl, tick_scanner s, rfl, rfl, rfl,
    tick_frozen s⟩

/-! ### The starts -/

/-- Settles O4: both starts are given by the start values of the blocks. -/
theorem startsTakeTheirValues : Obligations.StartsTakeTheirValues := by
  refine ⟨fun _ => rfl, fun s sending => ⟨restartState s, ?_, rfl, rfl, rfl, rfl, rfl, rfl, rfl, rfl, rfl, rfl, rfl, rfl,
    rfl, rfl, rfl, fun i => ?_, rfl, rfl, ?_, fun i => ?_, fun i => ?_, rfl, rfl, rfl, rfl⟩⟩
  · exact congrArg Host.Outcome.next (if_pos sending)
  · simp [restartState, State.berth_eq, Berth.start]
  · simp [restartState, Scanner.start, Slot.fresh]
  · simp [restartState, State.counter_eq, Counter.restarted, Counter.arm]
  · simp [restartState, Watch.restarted]

/-! ### The reads -/

/-- A read leaves the state but for its reply (R189, R194). -/
theorem submit_read {tag : Byte} {r : Request} {fields : List Byte} {s : State} (free : DeskFree s)
    (answered : perform r s = answerRead fields s) (other : r ≠ .restart) :
    submit tag r s = withReply tag r (.done fields) s := by
  rw [submit_of_deskFree tag free other (by rw [answered]; exact DeskQuiet.refl s), answered]
  rfl

/-- Settles O59: each read's owner answers and leaves the state. -/
theorem readsChangeNothing : Obligations.ReadsChangeNothing := by
  intro tag n s free
  have read {r : Request} {fields : List Byte} (answered : perform r s = answerRead fields s) (other : r ≠ .restart) :
      Host.Outcome.next (submit tag r s) = (.next (withReply tag r (.done fields) s) : Host.Outcome State Fault Refusal) :=
    congrArg _ (submit_read free answered other)
  exact ⟨read rfl (by simp), read rfl (by simp), read rfl (by simp), read rfl (by simp), read rfl (by simp),
    read rfl (by simp), read rfl (by simp), read rfl (by simp), read rfl (by simp)⟩

end Sys2Proof.Machine
end

section
/-! SUPPORT. The requests as bytes: each payload read back field by field, and a message received byte by byte
(R187, R188, R195). -/

namespace Sys2Proof.Machine

open Config

/-! ### The fields of a payload (Table 11-1) -/

theorem toNat_byte {n : Nat} (h : n < 256) : (byte n).toNat = n := by
  simp only [byte, BitVec.toNat_ofNat]
  omega

/-- A flags byte of one flag gives the flag back. -/
theorem getLsbD_byte_bit (b : Bool) : (byte (bit b 0)).getLsbD 0 = b := by cases b <;> rfl

theorem encodeBands_length (bands : List (Nat × Nat)) : (encodeBands bands).length = 4 * bands.length := by
  induction bands with
  | nil => rfl
  | cons p rest ih =>
    simp only [encodeBands, byte2, List.length_append, List.length_cons, List.length_nil, ih]
    omega

/-- The bands of a SetWind payload are read back, whatever follows them. -/
theorem decodeBands_encodeBands {bands : List (Nat × Nat)} (h : ∀ p ∈ bands, p.1 < 65536 ∧ p.2 < 65536)
    (rest : List Byte) : decodeBands bands.length (encodeBands bands ++ rest) = (bands, rest) := by
  induction bands with
  | nil => rfl
  | cons p ps ih =>
    obtain ⟨h1, h2⟩ := h p List.mem_cons_self
    have tail := ih fun q hq => h q (List.mem_cons_of_mem p hq)
    simp [encodeBands, byte2, decodeBands, nat2_byte2 h1, nat2_byte2 h2, tail]

theorem payloadWind_encode {bands : List (Nat × Nat)} {h t : Nat} (fits : requestFits (.setWind bands h t) = true) :
    payloadWind (encodePayload (.setWind bands h t)) = some (.setWind bands h t) := by
  simp only [requestFits, bandsFit, quantity, small, Bool.and_eq_true, decide_eq_true_eq, List.all_eq_true] at fits
  obtain ⟨⟨⟨count, values⟩, hh⟩, ht⟩ := fits
  have few : bands.length < 256 := by omega
  have body := decodeBands_encodeBands values (byte1 h ++ byte2 t)
  simp only [encodePayload, byte1, byte2, List.append_assoc, List.cons_append, payloadWind,
    toNat_byte few] at body ⊢
  rw [if_pos (by simp [encodeBands_length]; omega)]
  simp only [List.nil_append] at body ⊢
  simp [body, toNat_byte hh, nat2_byte2 ht]

/-- Each kind's decoder reads back the request that was encoded (R195). -/
theorem decodeRequest_of_decoder {kind : Nat} {payload : List Byte} {f : List Byte → Option Request} {r : Request}
    (hf : payloadDecoder kind = some f) (hr : f payload = some r) : decodeRequest kind payload = .ok r := by
  simp [decodeRequest, hf, hr]

/-- Settles O15: the fields are of fixed widths, but for the bands of SetWind, whose count comes first, and the text of
SendNotice. -/
theorem requestPayloadsDecode : Obligations.RequestPayloadsDecode := by
  intro r fits
  cases r with
  | setWind bands h t => exact decodeRequest_of_decoder rfl (payloadWind_encode fits)
  | sendNotice text => exact decodeRequest_of_decoder rfl (if_pos (by simpa [requestFits, encodePayload] using fits))
  | setGovernor g =>
    simp only [requestFits, governorFits, quantity, Bool.and_eq_true, decide_eq_true_eq] at fits
    obtain ⟨⟨⟨⟨⟨⟨h1, h2⟩, h3⟩, h4⟩, h5⟩, h6⟩, h7⟩ := fits
    refine decodeRequest_of_decoder rfl ?_
    simp only [encodePayload, byte2, List.cons_append, List.nil_append, payloadGovernor, nat2_byte2, *]
  | setBerth n r =>
    simp only [requestFits, berthFits, quantity, small, Bool.and_eq_true, decide_eq_true_eq] at fits
    obtain ⟨h0, ⟨⟨⟨⟨⟨⟨h1, h2⟩, h3⟩, h4⟩, h5⟩, h6⟩, h7⟩, h8⟩ := fits
    refine decodeRequest_of_decoder rfl ?_
    simp only [encodePayload, byte1, byte2, List.cons_append, List.nil_append, payloadBerth, nat2_byte2, toNat_byte, *]
  | setCounter n r =>
    simp only [requestFits, counterFits, quantity, small, Bool.and_eq_true, decide_eq_true_eq] at fits
    obtain ⟨h0, ⟨⟨⟨⟨⟨h1, h2⟩, h3⟩, h4⟩, h5⟩, h6⟩, h7⟩ := fits
    refine decodeRequest_of_decoder rfl ?_
    simp only [encodePayload, byte1, byte2, flag1, List.cons_append, List.nil_append, payloadCounter, nat2_byte2,
      toNat_byte, getLsbD_byte_bit, *]
  | setWatch n r =>
    simp only [requestFits, watchFits, quantity, small, Bool.and_eq_true, decide_eq_true_eq] at fits
    obtain ⟨h0, ⟨⟨h1, h2⟩, h3⟩, h4⟩ := fits
    refine decodeRequest_of_decoder rfl ?_
    simp only [encodePayload, byte1, byte2, flag1, List.cons_append, List.nil_append, payloadWatch, nat2_byte2,
      toNat_byte, getLsbD_byte_bit, *]
  | inhibitLaunch b => exact decodeRequest_of_decoder rfl (by simp only [encodePayload, flag1, payloadInhibit, getLsbD_byte_bit])
  | setTrack slow limit accept =>
    simp only [requestFits, quantity, small, Bool.and_eq_true, decide_eq_true_eq] at fits
    refine decodeRequest_of_decoder rfl ?_
    simp only [encodePayload, byte1, byte2, flag1, List.cons_append, List.nil_append, payloadTrack, nat2_byte2 fits.2,
      toNat_byte fits.1, getLsbD_byte_bit]
  | setGeometry | setSpacing | setMotion | setTower | setScan | setGrip | setSpeed =>
    simp only [requestFits, quantity, small, Bool.and_eq_true, decide_eq_true_eq, and_assoc] at fits
    simp [decodeRequest, payloadDecoder, requestKind, encodePayload, payloadGeometry, payload22, payload2,
      payloadTower, byte1, byte2, nat2_byte2, toNat_byte, fits]
  | clearStop | declare | release | hold | renumber | mark | unmark | berthCommand | removeCarrier
  | ackTower | armCounter | clearHits | releaseReports | readRoster | readTowers =>
    simp only [requestFits, small, Bool.and_eq_true, decide_eq_true_eq, and_assoc] at fits
    simp [decodeRequest, payloadDecoder, requestKind, encodePayload, payload1, payload11, payloadCommand,
      byte1, toNat_byte, fits]
  | _ => rfl

/-! ### A message received byte by byte (R187) -/

theorem toReceiver_toReceiver (a b : DeskReceiver) (s : State) : toReceiver a (toReceiver b s) = toReceiver a s := rfl

theorem toReceiver_waiting {s : State} (h : s.desk.receiver = .waiting) : toReceiver .waiting s = s := by
  unfold toReceiver State.withDesk
  rw [← h]

/-- Bytes that do not complete a message are kept. -/
theorem foldl_deskByte_short {len : Byte} (h2 : 2 ≤ len.toNat) (h250 : len.toNat ≤ 250) (s : State) (xs pre : List Byte)
    (short : pre.length + xs.length < len.toNat + 2) :
    xs.foldl (fun u b => deskByte b u) (toReceiver (.assembling (len :: pre) 5) s) =
      toReceiver (.assembling (len :: (pre ++ xs)) 5) s := by
  induction xs generalizing pre with
  | nil => simp
  | cons x xs ih =>
    rw [List.length_cons] at short
    have next : deskByte x (toReceiver (.assembling (len :: pre) 5) s) =
        toReceiver (.assembling (len :: (pre ++ [x])) 5) s := by
      rw [deskByte_of_assembling (bytes := len :: pre) rfl, List.cons_append]
      exact assemble_of_short _ h2 h250 (by simp; omega)
    rw [List.foldl_cons, next, ih (pre ++ [x]) (by simp; omega), List.append_assoc, List.singleton_append]

/-- A message of good length and CRC, received in Waiting, is taken as a well-formed message. -/
theorem foldl_deskByte_envelope {kind : Nat} {tag : Byte} {payload : List Byte} {s : State}
    (fits : payload.length ≤ 248) (hw : s.desk.receiver = .waiting) :
    (envelope kind tag payload).foldl (fun u b => deskByte b u) s = takeMessage (byte kind) tag payload s := by
  have hlen : (byte (payload.length + 2)).toNat = payload.length + 2 := toNat_byte (by omega)
  have h2 : 2 ≤ (byte (payload.length + 2)).toNat := by omega
  have h250 : (byte (payload.length + 2)).toNat ≤ 250 := by omega
  obtain ⟨c1, c2, hcrc⟩ : ∃ c1 c2, crcHighFirst (byte (payload.length + 2) :: byte kind :: tag :: payload) = [c1, c2] :=
    ⟨_, _, rfl⟩
  have bytes : envelope kind tag payload =
      0xA7#8 :: byte (payload.length + 2) :: ((byte kind :: tag :: payload) ++ [c1] ++ [c2]) := by
    simp [envelope, hcrc]
  have sync : deskByte 0xA7#8 s = toReceiver (.assembling [] 5) s := by rw [deskByte_of_waiting hw, if_pos rfl]
  have first : deskByte (byte (payload.length + 2)) (toReceiver (.assembling [] 5) s) =
      toReceiver (.assembling [byte (payload.length + 2)] 5) s := by
    rw [deskByte_of_assembling (bytes := []) rfl]
    exact assemble_of_short _ h2 h250 (by simp)
  rw [bytes, List.foldl_cons, sync, List.foldl_cons, first, List.foldl_append,
    foldl_deskByte_short h2 h250 s _ [] (by simp [hlen]), List.nil_append, List.foldl_cons, List.foldl_nil,
    deskByte_of_complete (bytes := byte kind :: tag :: payload) rfl h2 h250 (by simp [hlen]), toReceiver_toReceiver,
    toReceiver_waiting hw]
  exact takeComplete_of_crc hcrc.symm s

/-- A request's payload leaves room for its message's kind, tag and length (Table 11-2). -/
theorem encodePayload_length {r : Request} (fits : requestFits r = true) : (encodePayload r).length ≤ 248 := by
  cases r with
  | setWind bands h t =>
    simp only [requestFits, bandsFit, Bool.and_eq_true, decide_eq_true_eq] at fits
    obtain ⟨⟨⟨count, -⟩, -⟩, -⟩ := fits
    simp only [encodePayload, byte1, byte2, List.length_append, List.length_cons, List.length_nil, encodeBands_length]
    omega
  | sendNotice text => simpa [requestFits, encodePayload] using fits
  | _ => simp [encodePayload, byte1, byte2, flag1]

theorem requestKind_lt (r : Request) : requestKind r < 256 := by cases r <;> simp [requestKind]

/-- Settles O16: the last byte of the message finds a good CRC, and the payload is decoded as the request. -/
theorem requestBytesDeliverTheRequest : Obligations.RequestBytesDeliverTheRequest := by
  intro tag r s fits hw
  rw [requestBytes, foldl_deskByte_envelope (encodePayload_length fits) hw]
  have decoded : decodeRequest (byte (requestKind r)).toNat (encodePayload r) = .ok r := by
    rw [toNat_byte (requestKind_lt r)]
    exact requestPayloadsDecode r fits
  by_cases full : 8 ≤ s.desk.replies.length
  · rw [takeMessage_of_full full]
    exact (if_pos full).symm
  · rw [takeMessage_of_ok (not_le.mp full) decoded]

end Sys2Proof.Machine
end

section
/-! SUPPORT. What an operation leaves, said the same way for all of them: the blocks it may touch, the desk link but for
its report queue, and, where it brings no valley beat and offers no frame, the line. -/

namespace Sys2Proof.Machine

open Config

/-- Of the blocks only those of `bs` may differ, and of the desk link only the report queue has moved. -/
structure Within (bs : List Block) (s t : State) : Prop where
  touches : Touches bs s t
  desk : DeskQuiet s t

/-- The line stands as well, but for a Notice given back. -/
structure Calm (bs : List Block) (s t : State) : Prop extends Within bs s t where
  line : LineQuiet s t

section
variable {bs cs : List Block} {s t u : State}

theorem touches_iff : Touches bs s t ↔
    (.run ∉ bs → t.run = s.run) ∧ (.gov ∉ bs → t.gov = s.gov) ∧ (.update ∉ bs → t.update = s.update) ∧
    (.track ∉ bs → t.track = s.track) ∧ (.berths ∉ bs → t.berths = s.berths) ∧ (.supply ∉ bs → t.supply = s.supply) ∧
    (.roster ∉ bs → t.roster = s.roster) ∧ (.scanner ∉ bs → t.scanner = s.scanner) ∧
    (.counters ∉ bs → t.counters = s.counters) ∧ (.watches ∉ bs → t.watches = s.watches) ∧
    (.line ∉ bs → t.line = s.line) ∧ (.phone ∉ bs → t.phone = s.phone) ∧ (.desk ∉ bs → t.desk = s.desk) ∧
    (.pending ∉ bs → t.pending = s.pending) := by
  refine ⟨fun h => ⟨h .run, h .gov, h .update, h .track, h .berths, h .supply, h .roster, h .scanner, h .counters,
    h .watches, h .line, h .phone, h .desk, h .pending⟩, ?_⟩
  rintro ⟨h1, h2, h3, h4, h5, h6, h7, h8, h9, h10, h11, h12, h13, h14⟩ b
  cases b <;> assumption

theorem lineQuiet_iff : LineQuiet s t ↔
    t.line.receiver = s.line.receiver ∧ t.line.rxBits = s.line.rxBits ∧ t.line.rxOnes = s.line.rxOnes ∧
    t.line.flagTimer = s.line.flagTimer ∧ t.line.transmit = s.line.transmit ∧ t.line.safety = s.line.safety ∧
    t.line.voice = s.line.voice ∧ t.line.control = s.line.control ∧ t.line.bulk = s.line.bulk ∧
    t.line.overflow = s.line.overflow ∧ t.line.beatNumber = s.line.beatNumber ∧ t.line.beatTimer = s.line.beatTimer ∧
    t.line.stopClass = s.line.stopClass ∧ t.line.heard = s.line.heard ∧ t.line.lastBeat = s.line.lastBeat ∧
    t.line.miss = s.line.miss ∧ t.line.supervision = s.line.supervision ∧ t.line.contents = s.line.contents ∧
    t.line.inbox = s.line.inbox ∧ t.line.noticeOffered = s.line.noticeOffered ∧ t.line.counts = s.line.counts := by
  unfold LineQuiet
  cases t.line
  cases s.line
  simp

theorem LineQuiet.refl (s : State) : LineQuiet s s := rfl

theorem LineQuiet.trans (h : LineQuiet s t) (k : LineQuiet t u) : LineQuiet s u := by
  unfold LineQuiet at *
  rw [k, h]

theorem Within.refl (bs : List Block) (s : State) : Within bs s s := ⟨.refl _ _, .refl _⟩

theorem Within.trans (h : Within bs s t) (k : Within bs t u) : Within bs s u :=
  ⟨h.touches.trans k.touches, h.desk.trans k.desk⟩

theorem Within.mono (h : Within bs s t) (sub : bs ⊆ cs) : Within cs s t := ⟨h.touches.mono fun _ hb => sub hb, h.desk⟩

theorem Calm.refl (bs : List Block) (s : State) : Calm bs s s := ⟨.refl _ _, .refl _⟩

theorem Calm.trans (h : Calm bs s t) (k : Calm bs t u) : Calm bs s u :=
  ⟨h.toWithin.trans k.toWithin, h.line.trans k.line⟩

theorem Calm.mono (h : Calm bs s t) (sub : bs ⊆ cs) : Calm cs s t := ⟨h.toWithin.mono sub, h.line⟩

/-- One operation after another. -/
theorem Within.andThen (h : Within bs s t) (k : Within cs t u) (sub : cs ⊆ bs) : Within bs s u := h.trans (k.mono sub)

theorem Calm.andThen (h : Calm bs s t) (k : Calm cs t u) (sub : cs ⊆ bs) : Calm bs s u := h.trans (k.mono sub)

/-! What each block that an operation may not touch is afterwards. -/

section
variable (h : Within bs s t)
include h

theorem Within.run (hb : Block.run ∉ bs := by decide) : t.run = s.run := h.touches .run hb

theorem Within.gov (hb : Block.gov ∉ bs := by decide) : t.gov = s.gov := h.touches .gov hb

theorem Within.update (hb : Block.update ∉ bs := by decide) : t.update = s.update := h.touches .update hb

theorem Within.track (hb : Block.track ∉ bs := by decide) : t.track = s.track := h.touches .track hb

theorem Within.berths (hb : Block.berths ∉ bs := by decide) : t.berths = s.berths := h.touches .berths hb

theorem Within.supply (hb : Block.supply ∉ bs := by decide) : t.supply = s.supply := h.touches .supply hb

theorem Within.roster (hb : Block.roster ∉ bs := by decide) : t.roster = s.roster := h.touches .roster hb

theorem Within.scanner (hb : Block.scanner ∉ bs := by decide) : t.scanner = s.scanner := h.touches .scanner hb

theorem Within.counters (hb : Block.counters ∉ bs := by decide) : t.counters = s.counters := h.touches .counters hb

theorem Within.watches (hb : Block.watches ∉ bs := by decide) : t.watches = s.watches := h.touches .watches hb

theorem Within.phone (hb : Block.phone ∉ bs := by decide) : t.phone = s.phone := h.touches .phone hb

end

end

/-! ### The shared operations -/

section
variable (s : State)

theorem queueReport_calm (r : Report) : Calm [.line, .desk] s (queueReport r s) :=
  ⟨⟨by simp [touches_iff], by simp [DeskQuiet]⟩, by simp [lineQuiet_iff]⟩

theorem offerGovernor_calm : Calm [.line, .desk] s (offerGovernor s) :=
  ⟨⟨by simp [touches_iff], by simp [DeskQuiet]⟩, by simp [lineQuiet_iff]⟩

theorem offerTower_calm : Calm [.line, .desk] s (offerTower s) :=
  ⟨⟨by simp [touches_iff], by simp [DeskQuiet]⟩, by simp [lineQuiet_iff]⟩

theorem offerLine_calm : Calm [.line, .desk] s (offerLine s) :=
  ⟨⟨by simp [touches_iff], by simp [DeskQuiet]⟩, by simp [lineQuiet_iff]⟩

theorem offerBerth_calm : Calm [.line, .desk] s (offerBerth s) :=
  ⟨⟨by simp [touches_iff], by simp [DeskQuiet]⟩, by simp [lineQuiet_iff]⟩

theorem updateCeilings_calm (g : Governor) : Calm [.gov, .line, .desk] s (updateCeilings g s) :=
  ⟨⟨by simp [touches_iff], by simp [DeskQuiet]⟩, by simp [lineQuiet_iff]⟩

theorem setCeiling_calm (c : Ceiling) (on : Bool) : Calm [.gov, .line, .desk] s (setCeiling c on s) :=
  ⟨⟨by simp [touches_iff], by simp [DeskQuiet]⟩, by simp [lineQuiet_iff]⟩

theorem changeBerth_calm (i : Idx4) (b : Berth) : Calm [.berths, .line, .desk] s (changeBerth i b s) :=
  ⟨⟨by simp [touches_iff], by simp [DeskQuiet]⟩, by simp [lineQuiet_iff]⟩

theorem setBerth_calm (i : Idx4) (b : Berth) : Calm [.berths] s (s.setBerth i b) :=
  ⟨⟨by simp [touches_iff], by simp [DeskQuiet]⟩, by simp [lineQuiet_iff]⟩

theorem changeBerths_calm (q : Quad Berth) : Calm [.berths, .line, .desk] s (changeBerths q s) :=
  ⟨⟨by simp [touches_iff], by simp [DeskQuiet]⟩, by simp [lineQuiet_iff]⟩

theorem cycleTest_calm (i : Idx4) : Calm [.berths, .line, .desk] s (cycleTest i s) :=
  ⟨⟨by simp [touches_iff], by simp [DeskQuiet]⟩, by simp [lineQuiet_iff]⟩

theorem cycleTests_calm : Calm [.berths, .line, .desk] s (cycleTests s) :=
  ⟨⟨by simp [touches_iff], by simp [DeskQuiet]⟩, by simp [lineQuiet_iff]⟩

theorem indexTest_calm : Calm [.track] s (indexTest s) :=
  ⟨⟨by simp [touches_iff], by simp [DeskQuiet]⟩, by simp [lineQuiet_iff]⟩

theorem clearLocalEnables_calm : Calm [.gov, .watches, .line, .desk] s (clearLocalEnables s) :=
  ⟨⟨by simp [touches_iff], by simp [DeskQuiet]⟩, by simp [lineQuiet_iff]⟩

theorem enterState_calm (n : RunState) (c : Cause) :
    Calm [.run, .gov, .track, .berths, .watches, .line, .desk] s (enterState n c s) := by
  have moved : Calm [.run, .gov, .track, .berths, .watches, .line, .desk] s
      { s with run := { s.run with state := n, quiet := 0 }, gov := s.gov.enter n } :=
    ⟨⟨by simp [touches_iff], by simp [DeskQuiet]⟩, by simp [lineQuiet_iff]⟩
  have reported := moved.andThen (queueReport_calm _ (.runState n s.run.state c (stopClassOf s.run.demands) s.run.demands))
    (by simp)
  unfold enterState
  simp only []
  split
  · exact ((reported.andThen (clearLocalEnables_calm _) (by simp)).andThen (cycleTests_calm _) (by simp)).andThen
      (indexTest_calm _) (by simp)
  · exact (reported.andThen (cycleTests_calm _) (by simp)).andThen (indexTest_calm _) (by simp)

theorem raise_within (src : Source) : Within raiseBlocks s (raise src s) := ⟨raise_touches src s, raise_deskQuiet src s⟩

theorem raiseAll_within (l : List Source) : Within raiseBlocks s (raiseAll l s) :=
  ⟨raiseAll_touches l s, raiseAll_deskQuiet l s⟩

theorem offerEvent_within (ev : CounterEvent) : Within eventBlocks s (offerEvent ev s) :=
  ⟨offerEvent_touches ev s, offerEvent_deskQuiet ev s⟩

theorem giveClass_within : Within [.line] s (giveClass s) := ⟨by simp [touches_iff], by simp [DeskQuiet]⟩

end

/-! ### A request that its owner accepts or refuses (R189) -/

section
variable {bs : List Block} {tag : Byte} {r : Request} {result : ReplyResult} {s t : State}

theorem Within.answered (h : Within bs s t) : Answered tag r result s (withReply tag r result t) :=
  answered_withReply tag r result h.desk

theorem Within.touched (h : Within bs s t) (hd : .desk ∈ bs) : Touches bs s (withReply tag r result t) :=
  touches_withReply tag r result h.touches hd

theorem Calm.lineQuiet (h : Calm bs s t) : LineQuiet s (withReply tag r result t) := by
  simpa [LineQuiet] using h.line

/-- What an owner leaves of a request that is no Restart, with its reply. -/
theorem submit_of_within (free : DeskFree s) (hr : r ≠ .restart) (h : perform r s = (t, result)) (w : Within bs s t) :
    submit tag r s = withReply tag r result t := by
  rw [submit_of_deskFree tag free hr (by rw [h]; exact w.desk), h]

end

end Sys2Proof.Machine
end

section
/-! SUPPORT. The family of run control, its requests and its stop inputs (R3, R5, R6, R16, R17): the transitions at which
no motion may start, the berths and the towers at the entries to Waking and Parked, and the entry to Starting. -/

namespace Sys2Proof.Machine

open Config

/-! ### Transitions into a state in which nothing starts (R55, R82) -/

section
variable {n : RunState} (c : Cause) (s : State)

theorem cycleTests_of_held (h : s.run.state = .parked ∨ s.run.state = .waking) : cycleTests s = s := by
  have unready : ∀ b, cycleReady s b = false := fun b => by rcases h with h | h <;> simp [cycleReady, h]
  simp [cycleTests, cycleTest, unready]

theorem indexTest_of_held (h : runIndexes s.run.state = false) : indexTest s = s := by simp [indexTest, indexReady, h]

/-- In Parked and Waking no cycle and no index step starts, so that the entry is the change of state and its report. -/
theorem enterState_of_held (h : n = .parked ∨ n = .waking) : enterState n c s =
    queueReport (.runState n s.run.state c (stopClassOf s.run.demands) s.run.demands)
      { s with run := { s.run with state := n, quiet := 0 }, gov := s.gov.enter n } := by
  have other : n ≠ .starting := by rcases h with rfl | rfl <;> decide
  rw [enterState_of_ne_starting other, cycleTests_of_held _ (by simpa using h), indexTest_of_held]
  rcases h with rfl | rfl <;> simp [runIndexes]

theorem enterState_held_calm (h : n = .parked ∨ n = .waking) : Calm [.run, .gov, .line, .desk] s (enterState n c s) := by
  rw [enterState_of_held c s h]
  refine Calm.andThen ?_ (queueReport_calm _ _) (by simp)
  exact ⟨⟨by simp [touches_iff], by simp [DeskQuiet]⟩, by simp [lineQuiet_iff]⟩

end

/-! ### The berths at the entry to Waking (R97, R98) -/

/-- The motion supply, at work on Homing requests alone, leaves each berth in its state or, obstructed, in Fault. -/
structure HomingServed (s t : State) : Prop where
  waiting : ∀ e ∈ t.supply.wait, e.2 = .homing ∧ (s.berth e.1).state = .homing
  senses : ∀ i, (t.berth i).senses = (s.berth i).senses
  berths : ∀ i, (t.berth i).state = (s.berth i).state ∨
    ((s.berth i).senses.obstruction = true ∧ (t.berth i).state = .fault)
  calm : Calm [.berths, .supply, .line, .desk] s t

section
variable {s t : State} {i : Idx4} {b : Berth}

/-- A change of one berth and of the wait list, which loses entries. -/
theorem HomingServed.change {u : State} (h : HomingServed s t) (hberths : u.berths = t.berths.set i b)
    (hwait : u.supply.wait ⊆ t.supply.wait) (hsenses : b.senses = (t.berth i).senses)
    (hstate : b.state = (s.berth i).state ∨ ((s.berth i).senses.obstruction = true ∧ b.state = .fault))
    (calm : Calm [.berths, .supply, .line, .desk] t u) : HomingServed s u := by
  have get (j : Idx4) : u.berth j = if j = i then b else t.berth j := by
    rw [State.berth_eq, hberths, Quad.get_set]
    rfl
  refine ⟨fun e he => h.waiting e (hwait he), fun j => ?_, fun j => ?_, h.calm.trans calm⟩
  · rw [get]
    split
    · rename_i same
      rw [hsenses, h.senses, same]
    · exact h.senses j
  · rw [get]
    split
    · rename_i same
      exact same ▸ hstate
    · exact h.berths j

theorem HomingServed.grantHead (test : State → State) (h : HomingServed s t) : HomingServed s (grantHead test t) := by
  unfold Machine.grantHead
  split
  · exact h
  · rename_i k m rest hwait
    obtain ⟨kind, homing⟩ := h.waiting (k, m) (by simp [hwait])
    obtain rfl : m = .homing := kind
    simp only [grantHoming]
    split
    · rename_i obstructed
      have sensed : (s.berth k).senses.obstruction = true := by rw [← h.senses]; exact obstructed
      refine h.change (i := k) (b := (t.berth k).faulted .homingObstructed) (by simp [faultBerth, withdrawRequest]; rfl) ?_
        rfl (.inr ⟨sensed, rfl⟩) ?_
      · simp [faultBerth, withdrawRequest, hwait, withdraw]
      · refine Calm.andThen ?_ (changeBerth_calm _ _ _) (by simp)
        exact ⟨⟨by simp [touches_iff, withdrawRequest], by simp [DeskQuiet, withdrawRequest]⟩,
          by simp [lineQuiet_iff, withdrawRequest]⟩
    · refine h.change (i := k) rfl (by simp [hwait]) rfl (.inl homing.symm) ?_
      exact ⟨⟨by simp [touches_iff], by simp [DeskQuiet]⟩, by simp [lineQuiet_iff]⟩

theorem HomingServed.supplyLoop (n : Nat) (h : HomingServed s t) : HomingServed s (supplyLoop n t) := by
  induction n generalizing t with
  | zero => exact h
  | succ n ih =>
    unfold Machine.supplyLoop
    split
    · exact ih (h.grantHead _)
    · exact h

end

/-- Every Parked berth goes to Homing, or to Fault where it is obstructed (R97, R98). -/
theorem homeBerths_served (s : State) (h : s.supply.wait = []) :
    (∀ i, (s.berth i).state = .parked → ((homeBerths s).berth i).state = .homing ∨
      ((s.berth i).senses.obstruction = true ∧ ((homeBerths s).berth i).state = .fault)) ∧
    Calm [.berths, .supply, .line, .desk] s (homeBerths s) := by
  have asked : Calm [.berths, .supply, .line, .desk] s (changeBerths (s.berths.map Berth.home)
      { s with supply := { s.supply with wait := s.supply.wait ++ homingWaits s.berths } }) := by
    refine Calm.andThen ?_ (changeBerths_calm _ _) (by simp)
    exact ⟨⟨by simp [touches_iff], by simp [DeskQuiet]⟩, by simp [lineQuiet_iff]⟩
  have home : ∀ i, (changeBerths (s.berths.map Berth.home)
      { s with supply := { s.supply with wait := s.supply.wait ++ homingWaits s.berths } }).berth i = (s.berth i).home := by
    simp [State.berth_eq]
  have start := HomingServed.supplyLoop 32 (s := changeBerths (s.berths.map Berth.home)
      { s with supply := { s.supply with wait := s.supply.wait ++ homingWaits s.berths } })
    ⟨fun e he => ?_, fun _ => rfl, fun _ => .inl rfl, .refl _ _⟩
  · refine ⟨fun i parked => ?_, asked.trans start.calm⟩
    have served := start.berths i
    have senses : (s.berth i).home.senses = (s.berth i).senses := by unfold Berth.home; split <;> rfl
    rw [home, Berth.home_state, if_pos parked, senses] at served
    exact served
  · rw [home, Berth.home_state]
    simp only [changeBerths_keeps, h, List.nil_append, homingWaits, List.mem_map, List.mem_filter,
      decide_eq_true_eq] at he
    obtain ⟨i, ⟨-, parked⟩, rfl⟩ := he
    exact ⟨rfl, if_pos parked⟩

/-! ### The towers at the entries to Waking and Parked (R130) -/

/-- The schedule moves on without changing a slot but for its extra due (R128). -/
theorem Scanner.turn_slots (k : Scanner) : k.turn.slots = k.slots ∨ k.turn.slots = k.slots.map markExtra := by
  unfold Scanner.turn
  split
  · exact .inl rfl
  · exact .inr rfl
  · exact .inl rfl

theorem Scanner.mem_turn {k : Scanner} {x : Slot} (h : x ∈ k.turn.slots) :
    ∃ y ∈ k.slots, x = { y with extraDue := x.extraDue } := by
  rcases k.turn_slots with e | e <;> rw [e] at h
  · exact ⟨x, h, rfl⟩
  · obtain ⟨y, hy, rfl⟩ := List.mem_map.mp h
    exact ⟨y, hy, rfl⟩

theorem Scanner.mem_advance {k : Scanner} {x : Slot} (h : x ∈ k.advance.slots) :
    ∃ y ∈ k.slots, x = { y with extraDue := x.extraDue } := by
  obtain ⟨y, hy, hx⟩ := Scanner.mem_turn h
  obtain ⟨z, hz, hyz⟩ := Scanner.mem_turn hy
  refine ⟨z, hz, ?_⟩
  rw [hx, hyz]

theorem Scanner.turn_parkedTimer (k : Scanner) : k.turn.parkedTimer = k.parkedTimer := by
  unfold Scanner.turn
  split <;> rfl

theorem startRound_slots {s : State} {x : Slot} (h : x ∈ (startRound s).scanner.slots) :
    ∃ y ∈ s.scanner.slots, x = { y with extraDue := x.extraDue } := by
  unfold startRound at h
  simp only [] at h
  split at h
  · exact Scanner.mem_advance h
  · exact ⟨x, h, rfl⟩

theorem startRound_frame (s : State) : Calm [.scanner] s (startRound s) ∧
    (startRound s).scanner.parkedTimer = s.scanner.parkedTimer := by
  unfold startRound
  simp only []
  split
  · refine ⟨⟨⟨by simp [touches_iff], by simp [DeskQuiet]⟩, by simp [lineQuiet_iff]⟩, ?_⟩
    exact (Scanner.turn_parkedTimer _).trans (Scanner.turn_parkedTimer _)
  · exact ⟨.refl _ _, rfl⟩

/-- At the entry to Waking no tower has been heard, and every age starts anew (R130). -/
theorem wakeTowers_frame (s : State) :
    (∀ x ∈ (wakeTowers s).scanner.slots, x.used = true → x.heard = false ∧ x.age = 0) ∧
      (wakeTowers s).scanner.parkedTimer = none ∧ Calm [.scanner] s (wakeTowers s) := by
  have woken : ∀ y ∈ s.scanner.slots.map (fun x : Slot => if x.used then { x with heard := false, age := 0 } else x),
      y.used = true → y.heard = false ∧ y.age = 0 := by
    intro y hy used
    obtain ⟨z, -, rfl⟩ := List.mem_map.mp hy
    split at used
    · rename_i h
      simp [h]
    · rename_i h
      exact absurd used h
  have calm : Calm [.scanner] s { s with scanner := { s.scanner with
      slots := s.scanner.slots.map fun x : Slot => if x.used then { x with heard := false, age := 0 } else x
      parkedTimer := none, pass := .main, passSlot := 0 } } :=
    ⟨⟨by simp [touches_iff], by simp [DeskQuiet]⟩, by simp [lineQuiet_iff]⟩
  unfold wakeTowers
  simp only []
  split
  · obtain ⟨started, timer⟩ := startRound_frame { s with scanner := { s.scanner with
      slots := s.scanner.slots.map fun x : Slot => if x.used then { x with heard := false, age := 0 } else x
      parkedTimer := none, pass := .main, passSlot := 0 } }
    refine ⟨fun x hx used => ?_, timer, calm.trans started⟩
    obtain ⟨y, hy, hxy⟩ := startRound_slots hx
    have := woken y hy (by rw [hxy] at used; exact used)
    rw [hxy]
    exact this
  · exact ⟨woken, rfl, calm⟩

theorem towerCeilingTest_calm (s : State) : Calm [.gov, .line, .desk] s (towerCeilingTest s) := setCeiling_calm s _ _

/-- At the entry to Parked no tower has been heard, and none is past its deadline (R130, R135). -/
theorem parkTowers_frame (s : State) :
    (∀ x ∈ (parkTowers s).scanner.slots, x.used = true → x.heard = false ∧ x.deadline = .within) ∧
      (parkTowers s).scanner.parkedTimer = some 250 ∧ (parkTowers s).gov.outputs = s.gov.outputs ∧
      Calm [.gov, .scanner, .line, .desk] s (parkTowers s) := by
  have parked : ∀ y ∈ s.scanner.slots.map (fun x : Slot =>
      if x.used then { x with heard := false, deadline := .within } else x),
      y.used = true → y.heard = false ∧ y.deadline = .within := by
    intro y hy used
    obtain ⟨z, -, rfl⟩ := List.mem_map.mp hy
    split at used
    · rename_i h
      simp [h]
    · rename_i h
      exact absurd used h
  have tested : Calm [.gov, .scanner, .line, .desk] s (towerCeilingTest { s with scanner := { s.scanner with
      slots := s.scanner.slots.map fun x : Slot => if x.used then { x with heard := false, deadline := .within } else x
      parkedTimer := some parkedPollMs, pauseTimer := none } }) := by
    refine Calm.andThen ?_ (towerCeilingTest_calm _) (by simp)
    exact ⟨⟨by simp [touches_iff], by simp [DeskQuiet]⟩, by simp [lineQuiet_iff]⟩
  have outputs (t : State) : (towerCeilingTest t).gov.outputs = t.gov.outputs := by
    rw [towerCeilingTest, setCeiling_gov, (Governor.withCeiling_keeps _ _ _).2]
  unfold parkTowers
  simp only []
  split
  · exact ⟨by simpa [towerCeilingTest] using parked, by simp [towerCeilingTest, parkedPollMs], outputs _, tested⟩
  · refine ⟨by simpa [towerCeilingTest] using parked, by simp [towerCeilingTest, parkedPollMs], ?_,
      tested.andThen (offerTower_calm _) (by simp)⟩
    simpa using outputs _

/-! ### Wake and Park (R3, R5, R57, R97) -/

theorem run_refused (tag : Byte) {c : Instr} {r : Request} {reason : Reason} {s : State} (free : DeskFree s)
    (hexec : exec c s = .next (submit tag r s)) (hr : r ≠ .restart) (h : perform r s = refuse reason s) :
    Refused c tag r reason s := by
  rw [Refused, hexec, submit_of_refuse tag free hr h]

/-- What the entry to Waking brings (R3). -/
theorem enterWaking_acts (s : State) (hw : s.supply.wait = []) :
    (enterWaking s).run = { s.run with state := .waking, quiet := 0 } ∧
      (∀ i, (s.berth i).state = .parked → ((enterWaking s).berth i).state = .homing ∨
        ((s.berth i).senses.obstruction = true ∧ ((enterWaking s).berth i).state = .fault)) ∧
      (∀ x ∈ (enterWaking s).scanner.slots, x.used = true → x.heard = false ∧ x.age = 0) ∧
      (enterWaking s).scanner.parkedTimer = none ∧
      Calm [.run, .gov, .berths, .supply, .scanner, .line, .desk] s (enterWaking s) := by
  unfold enterWaking
  have entered := enterState_held_calm (n := .waking) .wake s (.inr rfl)
  have state := (enterState_run_gov (n := .waking) (by decide) .wake s).1
  generalize enterState .waking .wake s = t at entered state
  obtain ⟨served, homed⟩ := homeBerths_served t (by rw [entered.supply]; exact hw)
  generalize homeBerths t = u at served homed
  obtain ⟨slots, timer, towers⟩ := wakeTowers_frame u
  generalize wakeTowers u = v at slots timer towers
  refine ⟨?_, fun i parked => ?_, slots, timer,
    ((entered.mono (by simp)).andThen homed (by simp)).andThen towers (by simp)⟩
  · rw [towers.run, homed.run, state]
  · have at_i := served i
    rw [State.berth_eq t, entered.berths, ← State.berth_eq] at at_i
    rw [State.berth_eq, towers.berths, ← State.berth_eq]
    exact at_i parked

theorem cancelIndex_frame (s : State) :
    (cancelIndex s).track = { s.track with step := none, indexCommand := (cancelIndex s).track.indexCommand } ∧
      (s.track.step.isSome = true → (cancelIndex s).track.indexCommand = false) ∧
      Calm [.track, .line, .desk] s (cancelIndex s) := by
  unfold cancelIndex
  split
  · rename_i none
    refine ⟨by rw [← none], fun h => by simp [none] at h, .refl _ _⟩
  · refine ⟨by simp, fun _ => by simp, Calm.andThen ?_ (queueReport_calm _ _) (by simp)⟩
    exact ⟨⟨by simp [touches_iff], by simp [DeskQuiet]⟩, by simp [lineQuiet_iff]⟩

theorem Berth.park_keeps (b : Berth) : b.park.occupied = b.occupied ∧ b.park.cycleComplete = b.cycleComplete := by
  unfold Berth.park Berth.faulted
  (repeat' split) <;> exact ⟨rfl, rfl⟩

/-- What the entry to Parked brings (R5). -/
theorem enterParked_acts (s : State) :
    (enterParked s).run = { s.run with state := .parked, quiet := 0 } ∧
      (enterParked s).berths = s.berths.map Berth.park ∧ (enterParked s).supply.wait = [] ∧
      (enterParked s).track = { s.track with step := none, indexCommand := (enterParked s).track.indexCommand } ∧
      (s.track.step.isSome = true → (enterParked s).track.indexCommand = false) ∧
      (∀ x ∈ (enterParked s).scanner.slots, x.used = true → x.heard = false ∧ x.deadline = .within) ∧
      (enterParked s).scanner.parkedTimer = some 250 ∧ (enterParked s).gov.outputs = (false, false) ∧
      Calm [.run, .gov, .track, .berths, .supply, .scanner, .line, .desk] s (enterParked s) := by
  unfold enterParked
  have entered := enterState_held_calm (n := .parked) .park s (.inl rfl)
  have state := (enterState_run_gov (n := .parked) (by decide) .park s).1
  have braked := enterState_outputs .parked .park s
  generalize enterState .parked .park s = t at entered state braked
  obtain ⟨track, command, cancelled⟩ := cancelIndex_frame t
  generalize cancelIndex t = u at track command cancelled
  have parked : Calm [.berths, .supply, .line, .desk] u (parkBerths u) := by
    refine Calm.andThen ?_ (changeBerths_calm _ _) (by simp)
    exact ⟨⟨by simp [touches_iff], by simp [DeskQuiet]⟩, by simp [lineQuiet_iff]⟩
  have berths : (parkBerths u).berths = u.berths.map Berth.park := by simp [parkBerths]
  have wait : (parkBerths u).supply.wait = [] := by simp [parkBerths]
  generalize parkBerths u = v at parked berths wait
  obtain ⟨slots, timer, outputs, towers⟩ := parkTowers_frame v
  generalize parkTowers v = w at slots timer outputs towers
  refine ⟨?_, ?_, ?_, ?_, ?_, slots, timer, ?_, (((entered.mono (by simp)).andThen cancelled (by simp)).andThen parked
    (by simp)).andThen towers (by simp)⟩
  · rw [towers.run, parked.run, cancelled.run, state]
  · rw [towers.berths, berths, cancelled.berths, entered.berths]
  · rw [towers.supply, wait]
  · rw [towers.track, parked.track, track, entered.track]
  · rw [towers.track, parked.track, ← entered.track]
    exact command
  · rw [outputs, parked.gov, cancelled.gov, braked]
    rfl

/-! ### The entry to Starting (R6, R150) -/

theorem enterStarting_acts (s : State) (h : s.run.state = .stopped) :
    (enterState .starting .run s).run = { s.run with state := .starting, quiet := 0 } ∧
      (enterState .starting .run s).gov.reference = 0 ∧
      (enterState .starting .run s).gov.outputs = (true, false) ∧
      (∀ i, ((enterState .starting .run s).watches.units.get i).localOn = false) ∧
      Calm [.run, .gov, .track, .berths, .watches, .line, .desk] s (enterState .starting .run s) := by
  refine ⟨?_, ?_, enterState_outputs _ _ s, fun i => ?_, enterState_calm s _ _⟩
  all_goals
    unfold enterState
    simp only [h, if_true, and_self]
  · simp
  · simp [clearLocalEnables, watchCeilingTest, setCeiling_gov, Governor.withCeiling, Governor.enter]
  · simp [clearLocalEnables, watchCeilingTest]

/-! ### The requests -/

section
variable (tag : Byte) (s : State)

theorem exec_wake : exec (.wake tag) s = .next (submit tag .wake s) := rfl

theorem exec_park : exec (.park tag) s = .next (submit tag .park s) := rfl

theorem exec_run : exec (.run tag) s = .next (submit tag .run s) := rfl

/-- Park is accepted in Stopped, in Waking, and in Tripped at rest (R5). -/
theorem doPark_of_rest (h : s.run.state = .stopped ∨ s.run.state = .waking ∨ (s.run.state = .tripped ∧ s.gov.v = 0)) :
    doPark s = done (enterParked s) := by
  rcases h with h | h | ⟨h, hv⟩ <;> simp [doPark, *]

end

/-- Settles O17: each request by its tests in their order, and what the entry to its run state brings. -/
theorem runStateRequestsAct : Obligations.RunStateRequestsAct := by
  refine ⟨fun tag s free => ⟨fun state => ?_, fun state hw => ?_⟩,
    fun tag s free => ⟨fun state => ?_, fun state hv => ?_, fun state => ?_⟩,
    fun tag s free => ⟨fun state => ?_, fun state demands => ?_, fun state demands permissives => ?_,
      fun state demands drive summit => ?_⟩⟩
  · exact run_refused tag free (exec_wake tag s) (by decide) (if_neg state)
  · obtain ⟨run, berths, slots, timer, calm⟩ := enterWaking_acts s hw
    have accepted : perform .wake s = (enterWaking s, .done []) := if_pos state
    generalize enterWaking s = t at *
    refine ⟨_, congrArg Host.Outcome.next (submit_of_within free (by decide) accepted calm.toWithin), calm.answered, run,
      berths, slots, timer, calm.touched (by decide), calm.lineQuiet⟩
  · exact run_refused tag free (exec_park tag s) (by decide)
      (by rcases state with h | h | h | h <;> simp [perform, doPark, h])
  · exact run_refused tag free (exec_park tag s) (by decide) (by simp [perform, doPark, state, hv])
  · obtain ⟨run, berths, wait, track, command, slots, timer, outputs, calm⟩ := enterParked_acts s
    have accepted : perform .park s = (enterParked s, .done []) := doPark_of_rest s state
    generalize enterParked s = t at *
    refine ⟨_, congrArg Host.Outcome.next (submit_of_within free (by decide) accepted calm.toWithin), calm.answered, run,
      fun i => ?_, wait, track, command, slots, timer, congrArg Prod.fst outputs, congrArg Prod.snd outputs,
      calm.touched (by decide), calm.lineQuiet⟩
    have parked : t.berth i = (s.berth i).park := by simp [State.berth_eq, berths]
    obtain ⟨occupied, complete⟩ := (s.berth i).park_keeps
    rw [show (withReply tag .park (.done []) t).berth i = (s.berth i).park from parked]
    exact ⟨(s.berth i).park_state, occupied, complete⟩
  · exact run_refused tag free (exec_run tag s) (by decide) (by simp [perform, doRun, state])
  · exact run_refused tag free (exec_run tag s) (by decide) (by simp [perform, doRun, state, demands])
  · refine run_refused tag free (exec_run tag s) (by decide) ?_
    have permitted : (drivePermissive s && summitPermissive s) = false := by
      simpa [drivePermissive, summitPermissive] using permissives
    simp [perform, doRun, state, demands, permitted]
  · obtain ⟨run, reference, outputs, watches, calm⟩ := enterStarting_acts s state
    have accepted : perform .run s = (enterState .starting .run s, .done []) := by
      simp [perform, doRun, done, state, demands, drivePermissive, summitPermissive, drive, summit]
    generalize enterState .starting .run s = t at *
    exact ⟨_, congrArg Host.Outcome.next (submit_of_within free (by decide) accepted calm.toWithin), calm.answered, run,
      reference, congrArg Prod.fst outputs, congrArg Prod.snd outputs, watches, calm.touched (by decide), calm.lineQuiet⟩

end Sys2Proof.Machine
end

section
/-! SUPPORT. What a door event can touch, said for each operation of the berth controller; and the two outcomes of a
motion request: it waits, or its doors move (R93, R94). -/

namespace Sys2Proof.Machine

open Config

/-- A door event touches the blocks of doors, and removes no demand. -/
structure DoorEvent (s t : State) : Prop extends Within doorBlocks s t where
  demands : s.run.demands ⊆ t.run.demands
  freeze : t.run.platformStop = s.run.platformStop

section
variable {s t u : State} {i : Idx4} {bs : List Block}

theorem DoorEvent.refl (s : State) : DoorEvent s s := ⟨.refl _ _, List.Subset.refl _, rfl⟩

theorem DoorEvent.trans (h : DoorEvent s t) (k : DoorEvent t u) : DoorEvent s u :=
  ⟨h.toWithin.trans k.toWithin, List.Subset.trans h.demands k.demands, k.freeze.trans h.freeze⟩

/-- An operation that leaves run control. -/
theorem Within.doorEvent (h : Within bs s t) (sub : bs ⊆ doorBlocks := by decide) (hr : .run ∉ bs := by decide) :
    DoorEvent s t :=
  ⟨h.mono sub, by rw [h.run hr]; exact List.Subset.refl _, by rw [h.run hr]⟩

theorem counterTake_freeze (i : Idx4) (ev : CounterEvent) (s : State) :
    (counterTake i ev s).run.platformStop = s.run.platformStop := by
  unfold counterTake
  split
  · split
    · unfold expire fireAction
      simp only []
      split
      · simp
      · simp [counterCeilingTest]
      · exact (raise_run _ _).2.1.trans (by simp)
    · simp
  · rfl

theorem offerEvent_freeze (ev : CounterEvent) (s : State) :
    (offerEvent ev s).run.platformStop = s.run.platformStop := by
  simp [offerEvent, counterTake_freeze]

theorem offerEvent_doorEvent (ev : CounterEvent) (s : State) : DoorEvent s (offerEvent ev s) :=
  ⟨(offerEvent_within s ev).mono (by decide), ((Arrives.refl s).offerEvent (ev := ev)).demands,
    offerEvent_freeze ev s⟩

theorem changeBerth_doorEvent (i : Idx4) (b : Berth) (s : State) : DoorEvent s (changeBerth i b s) :=
  (changeBerth_calm s i b).toWithin.doorEvent

theorem setBerth_doorEvent (i : Idx4) (b : Berth) (s : State) : DoorEvent s (s.setBerth i b) :=
  (setBerth_calm s i b).toWithin.doorEvent

theorem setSupply_calm (p : Supply) (s : State) : Calm [.supply] s { s with supply := p } :=
  ⟨⟨by simp [touches_iff], by simp [DeskQuiet]⟩, by simp [lineQuiet_iff]⟩

theorem queueRequest_calm (i : Idx4) (m : Motion) (s : State) : Calm [.supply] s (queueRequest i m s) := by
  unfold queueRequest
  split
  · exact .refl _ _
  · exact setSupply_calm _ s

theorem faultBerth_calm (i : Idx4) (r : FaultReason) (s : State) :
    Calm [.berths, .supply, .line, .desk] s (faultBerth i r s) :=
  Calm.andThen ((setSupply_calm _ s).mono (by decide)) (changeBerth_calm _ _ _) (by decide)

theorem limitTest_doorEvent (i : Idx4) (s : State) : DoorEvent s (limitTest i s) := by
  unfold limitTest
  split
  · exact changeBerth_doorEvent _ _ _
  · exact .refl s

theorem countReversal_doorEvent (i : Idx4) (s : State) : DoorEvent s (countReversal i s) :=
  ((setBerth_doorEvent i _ s).trans (offerEvent_doorEvent _ _)).trans (limitTest_doorEvent i _)

theorem grantHead_doorEvent {test : State → State} (htest : ∀ u, DoorEvent u (test u)) (s : State) :
    DoorEvent s (grantHead test s) := by
  unfold grantHead
  split
  · exact .refl s
  · rename_i k m rest _
    have taken : DoorEvent s { s with supply := { s.supply with wait := rest, sinceGrant := some 0 } } :=
      (setSupply_calm _ s).toWithin.doorEvent
    cases m with
    | opening => exact taken.trans (changeBerth_doorEvent _ _ _)
    | homing =>
      simp only [grantHoming]
      split
      · exact taken.trans (faultBerth_calm _ _ _).toWithin.doorEvent
      · exact taken.trans (setBerth_doorEvent _ _ _)
    | closing =>
      simp only [grantClose]
      split
      · have counted := (taken.trans (htest _)).trans (countReversal_doorEvent k _)
        split
        · exact counted.trans (queueRequest_calm _ _ _).toWithin.doorEvent
        · exact counted
      · exact taken.trans (changeBerth_doorEvent _ _ _)

theorem supplyLoop_doorEvent (n : Nat) (s : State) : DoorEvent s (supplyLoop n s) := by
  induction n generalizing s with
  | zero => exact .refl s
  | succ n ih =>
    unfold supplyLoop
    split
    · exact (grantHead_doorEvent ih s).trans (ih _)
    · exact .refl s

theorem supplyTest_doorEvent (s : State) : DoorEvent s (supplyTest s) := supplyLoop_doorEvent 32 s

theorem request_doorEvent (i : Idx4) (m : Motion) (s : State) : DoorEvent s (request i m s) :=
  (queueRequest_calm i m s).toWithin.doorEvent.trans (supplyTest_doorEvent _)

theorem fault_doorEvent (i : Idx4) (r : FaultReason) (s : State) : DoorEvent s (fault i r s) := by
  unfold fault
  split
  · exact (faultBerth_calm i r s).toWithin.doorEvent.trans (supplyTest_doorEvent _)
  · exact (faultBerth_calm i r s).toWithin.doorEvent

theorem reverse_doorEvent (i : Idx4) (s : State) : DoorEvent s (reverse i s) :=
  (changeBerth_doorEvent _ _ _).trans (countReversal_doorEvent _ _)

theorem cycleTest_doorEvent (i : Idx4) (s : State) : DoorEvent s (cycleTest i s) :=
  (cycleTest_calm s i).toWithin.doorEvent

theorem indexTest_doorEvent (s : State) : DoorEvent s (indexTest s) := (indexTest_calm s).toWithin.doorEvent

theorem cycleNotice_calm (i : Idx4) (ran : Bool) (n : Nat) (s : State) : Calm [.track] s (cycleNotice i ran n s) := by
  unfold cycleNotice
  refine Calm.trans ?_ (indexTest_calm _)
  split
  · exact ⟨⟨by simp [touches_iff], by simp [DeskQuiet]⟩, by simp [lineQuiet_iff]⟩
  · exact .refl _ _

theorem enterState_doorEvent {n : RunState} (hn : n ≠ .starting) (k : Cause) (s : State) :
    DoorEvent s (enterState n k s) :=
  ⟨⟨(enterState_touches n k s (.inr hn)).mono (by decide), enterState_deskQuiet n k s⟩, by simp, by simp⟩

theorem wakingTest_doorEvent (s : State) : DoorEvent s (wakingTest s) := by
  unfold wakingTest
  split
  · exact enterState_doorEvent (by split <;> decide) _ s
  · exact .refl s

theorem lockedNotice_doorEvent (i : Idx4) (done : Bool) (s : State) : DoorEvent s (lockedNotice i done s) := by
  unfold lockedNotice
  refine DoorEvent.trans ?_ (wakingTest_doorEvent _)
  split
  · exact (cycleNotice_calm _ _ _ s).toWithin.doorEvent
  · exact indexTest_doorEvent s

theorem lockBerth_doorEvent (i : Idx4) (s : State) : DoorEvent s (lockBerth i s) :=
  ((changeBerth_doorEvent _ _ s).trans (lockedNotice_doorEvent _ _ _)).trans (cycleTest_doorEvent _ _)

theorem startLocking_doorEvent (i : Idx4) (s : State) : DoorEvent s (startLocking i s) := by
  unfold startLocking
  simp only []
  split
  · exact (changeBerth_doorEvent _ _ s).trans (lockBerth_doorEvent _ _)
  · exact changeBerth_doorEvent _ _ s

theorem openEntered_doorEvent (i : Idx4) (s : State) : DoorEvent s (openEntered i s) := by
  unfold openEntered
  simp only []
  split
  · split
    · exact setBerth_doorEvent _ _ s
    · exact request_doorEvent _ _ s
  · exact .refl s

theorem cycles_wakingTest (s : State) : Cycles s (wakingTest s) := by
  unfold wakingTest
  split
  · exact cycles_enterState _ _ _
  · exact .of_berths rfl

theorem cycles_lockedNotice (i : Idx4) (done : Bool) (s : State) : Cycles s (lockedNotice i done s) := by
  unfold lockedNotice
  refine Cycles.trans ?_ (cycles_wakingTest _)
  split
  · exact .of_berths ((cycleNotice_calm _ _ _ s).berths)
  · exact .of_berths (by simp)

/-! ### The motion supply with nothing to grant -/

theorem supplyLoop_of_unready (n : Nat) (h : supplyReady s = false) : supplyLoop n s = s := by
  cases n with
  | zero => rfl
  | succ n => simp [supplyLoop, h]

theorem supplyLoop_of_ready (n : Nat) (h : supplyReady s = true) :
    supplyLoop (n + 1) s = supplyLoop n (grantHead (supplyLoop n) s) := by
  simp [supplyLoop, h]

theorem supplyTest_of_unready (h : supplyReady s = false) : supplyTest s = s := supplyLoop_of_unready 32 h

/-- One grant, after which no other may be given. -/
theorem supplyTest_once (h : supplyReady s = true) (spent : supplyReady (grantHead (supplyLoop 31) s) = false) :
    supplyTest s = grantHead (supplyLoop 31) s :=
  (supplyLoop_of_ready 31 h).trans (supplyLoop_of_unready 31 spent)

theorem supplyTest_of_empty (h : s.supply.wait = []) : supplyTest s = s :=
  supplyTest_of_unready (by simp [supplyReady, h])

/-! ### A berth in Fault (R90) -/

/-- The entry to Fault ends the berth's motion and its request; the grants of others leave it there. -/
theorem fault_berth (i : Idx4) (r : FaultReason) (s : State) : (fault i r s).berth i = (s.berth i).faulted r := by
  have faulted : Rests i ((s.berth i).faulted r) (faultBerth i r s) := by
    refine .of (by simp [faultBerth, withdrawRequest, State.berth_eq]) (by simp [Berth.faulted]) fun e he => ?_
    simp only [faultBerth, changeBerth_supply, withdrawRequest] at he
    exact (mem_withdraw.mp he).2
  unfold fault
  split
  · exact faulted.supplyTest.berth
  · exact faulted.berth

/-! ### A motion request (R93, R94) -/

/-- The berth as a grant leaves it, its doors in motion (R84, R86, R98). -/
def Berth.moved (m : Motion) (b : Berth) : Berth :=
  match m with
  | .opening => { b.granted .opening b.settings.tOpen with doorsRan := true }
  | .closing => b.granted .closing b.settings.tClose
  | .homing => { b.granted .homing b.settings.tClose with homingRun := 1 }

/-- Nothing stands in the way of the motion: an Open, or an unobstructed Close or Homing (R88, R98). -/
def Berth.clearFor (m : Motion) (b : Berth) : Prop := m = .opening ∨ b.senses.obstruction = false

theorem Berth.moved_unlocked (m : Motion) (b : Berth) : (b.moved m).state ≠ .locked := by
  cases m <;> simp [Berth.moved, Berth.granted]

/-- The grant of the first entry, its way clear: the doors move and the entry is gone. -/
theorem grantHead_of_clear {test : State → State} {m : Motion} {rest : List (Idx4 × Motion)}
    (hwait : s.supply.wait = (i, m) :: rest) (clear : (s.berth i).clearFor m) :
    (grantHead test s).berths = s.berths.set i ((s.berth i).moved m) ∧
      (grantHead test s).supply = { s.supply with wait := rest, sinceGrant := some 0 } ∧
      Calm [.berths, .supply, .line, .desk] s (grantHead test s) := by
  have taken := (setSupply_calm { s.supply with wait := rest, sinceGrant := some 0 } s).mono
    (cs := [.berths, .supply, .line, .desk]) (by decide)
  unfold grantHead
  rw [hwait]
  cases m with
  | opening => exact ⟨by simp [grantOpen]; rfl, by simp [grantOpen], taken.andThen (changeBerth_calm _ _ _) (by decide)⟩
  | closing =>
    have free : (s.berth i).senses.obstruction = false := clear.resolve_left (by decide)
    simp only [grantClose, State.berth_eq] at free ⊢
    simp only [free]
    exact ⟨by simp [Berth.moved], by simp, taken.andThen (changeBerth_calm _ _ _) (by decide)⟩
  | homing =>
    have free : (s.berth i).senses.obstruction = false := clear.resolve_left (by decide)
    simp only [grantHoming, State.berth_eq] at free ⊢
    simp only [free]
    exact ⟨by simp [Berth.moved, State.setBerth], by simp, taken.andThen (setBerth_calm _ _ _) (by decide)⟩

/-- A request on an empty wait list waits alone, or is granted at once. -/
theorem request_alone {m : Motion} (hwait : s.supply.wait = []) (clear : (s.berth i).clearFor m) :
    (((request i m s).berths = s.berths ∧ (request i m s).supply = { s.supply with wait := [(i, m)] }) ∨
      ((request i m s).berths = s.berths.set i ((s.berth i).moved m) ∧
        (request i m s).supply = { s.supply with wait := [], sinceGrant := some 0 })) ∧
      Calm [.berths, .supply, .line, .desk] s (request i m s) := by
  have queued : queueRequest i m s = { s with supply := { s.supply with wait := [(i, m)] } } := by
    simp [queueRequest, waits, hwait, insertWait, withdraw]
  have asked := (setSupply_calm { s.supply with wait := [(i, m)] } s).mono (cs := [.berths, .supply, .line, .desk])
    (by decide)
  unfold request
  rw [queued]
  cases ready : supplyReady { s with supply := { s.supply with wait := [(i, m)] } } with
  | false =>
    rw [supplyTest_of_unready ready]
    exact ⟨.inl ⟨rfl, rfl⟩, asked⟩
  | true =>
    obtain ⟨berths, supply, calm⟩ := grantHead_of_clear (test := supplyLoop 31) (i := i) (m := m) (rest := [])
      (s := { s with supply := { s.supply with wait := [(i, m)] } }) rfl clear
    rw [supplyTest_once ready (by simp [supplyReady, supply])]
    exact ⟨.inr ⟨berths, supply⟩, asked.trans calm⟩

end

end Sys2Proof.Machine
end

section
/-! SUPPORT. A motion request among others that wait, and the timers of the door cycle (R82 to R87, R98). -/

namespace Sys2Proof.Machine

open Config

section
variable {s t : State} {i : Idx4} {b : Berth} {m : Motion}

/-! ### A request among others (R93, R94) -/

/-- Berth `i` waits with its one request, or its doors have been granted their motion. -/
def Serving (i : Idx4) (m : Motion) (b : Berth) (s : State) : Prop :=
  Stands i b [(i, m)] s ∨ Stands i (b.moved m) [] s

theorem Serving.countReversal {j : Idx4} (h : Serving i m b s) (hne : j ≠ i) : Serving i m b (countReversal j s) :=
  h.imp (·.countReversal hne) (·.countReversal hne)

theorem Serving.queueRequest {j : Idx4} {n : Motion} (h : Serving i m b s) (hne : j ≠ i) :
    Serving i m b (queueRequest j n s) := h.imp (·.queueRequest hne) (·.queueRequest hne)

theorem Stands.grantHead {test : State → State} (h : Stands i b [(i, m)] s) (clear : b.clearFor m)
    (htest : ∀ u, Stands i b [(i, m)] u → Serving i m b (test u)) : Serving i m b (grantHead test s) := by
  cases hwait : s.supply.wait with
  | nil => simpa [hwait] using h.entries
  | cons e rest =>
    by_cases hne : e.1 = i
    · have entries := h.entries
      rw [hwait, List.filter_cons_of_pos (by simpa using hne), List.perm_singleton, List.cons.injEq] at entries
      obtain ⟨rfl, gone⟩ := entries
      obtain ⟨berths, supply, -⟩ := grantHead_of_clear (test := test) hwait (by rw [h.berth]; exact clear)
      refine .inr ⟨?_, b.moved_unlocked m, ?_⟩
      · rw [State.berth_eq, berths, Quad.get_set_same, h.berth]
      · rw [supply]
        exact .of_eq gone
    · exact Stands.grantOther htest (fun _ hu => .inl hu) (fun _ hu => hu.countReversal hne)
        (fun _ hu => hu.queueRequest hne) h hwait hne

theorem Stands.supplyLoop (n : Nat) (h : Stands i b [(i, m)] s) (clear : b.clearFor m) :
    Serving i m b (supplyLoop n s) := by
  induction n generalizing s with
  | zero => exact .inl h
  | succ n ih =>
    unfold Machine.supplyLoop
    split
    · rcases h.grantHead clear fun u hu => ih hu with waits | moves
      · exact ih waits
      · exact .inr (Rests.supplyLoop n moves)
    · exact .inl h

theorem Rests.request (h : Rests i b s) (clear : b.clearFor m) : Serving i m b (request i m s) := by
  refine Stands.supplyLoop 32 ?_ clear
  have waiting : (s.supply.wait.filter fun e => decide (e.1 = i)) = [] := List.perm_nil.mp h.entries
  have fresh : waits s i m = false := by
    refine decide_eq_false fun hmem => h.unasked _ hmem rfl
  simp only [queueRequest, fresh]
  refine ⟨h.berth, h.unlocked, ((insertWait_perm i m _).filter _).trans (.of_eq ?_)⟩
  rw [List.filter_cons_of_pos (by simp), withdraw, List.filter_filter]
  simp

/-! ### A timer that does not run (R76, R96) -/

theorem timerRuns_of_some {k : BerthTimer} {ms : Nat} (free : s.run.platformStop = false)
    (ht : (s.berth i).timer = some (k, ms)) : timerRuns s i k = true := by
  simp [timerRuns, free, ht]

theorem timerRuns_of_idle (k : BerthTimer) (h : s.run.platformStop = true ∨ (s.berth i).timer = none) :
    timerRuns s i k = false := by
  rcases h with h | h <;> simp [timerRuns, h]

/-! ### What each timer leaves (R82 to R87, R98) -/

theorem unlockExpired_doorEvent (i : Idx4) (s : State) : DoorEvent s (unlockExpired i s) := by
  unfold unlockExpired
  split
  · split
    · exact fault_doorEvent _ _ _
    · simp only []
      split
      · exact (changeBerth_doorEvent _ _ _).trans (request_doorEvent _ _ _)
      · exact changeBerth_doorEvent _ _ _
  · exact .refl s

theorem openingExpired_doorEvent (i : Idx4) (s : State) : DoorEvent s (openingExpired i s) := by
  unfold openingExpired
  split
  · split
    · exact ((changeBerth_doorEvent _ _ _).trans (supplyTest_doorEvent _)).trans (openEntered_doorEvent _ _)
    · exact fault_doorEvent _ _ _
  · exact .refl s

theorem dwellExpired_doorEvent (i : Idx4) (s : State) : DoorEvent s (dwellExpired i s) := by
  unfold dwellExpired
  split
  · exact (setBerth_doorEvent _ _ _).trans (request_doorEvent _ _ _)
  · exact .refl s

theorem closingExpired_doorEvent (i : Idx4) (s : State) : DoorEvent s (closingExpired i s) := by
  unfold closingExpired
  split
  · split
    · have ended := (changeBerth_doorEvent i { s.berth i with state := .closed, grant := false, timer := none } s).trans
        (supplyTest_doorEvent _)
      simp only []
      split
      · exact (ended.trans (offerEvent_doorEvent _ _)).trans (startLocking_doorEvent _ _)
      · exact ended.trans (offerEvent_doorEvent _ _)
    · exact fault_doorEvent _ _ _
  · exact .refl s

theorem lockExpired_doorEvent (i : Idx4) (s : State) : DoorEvent s (lockExpired i s) := by
  unfold lockExpired
  split
  · exact fault_doorEvent _ _ _
  · exact .refl s

theorem homingExpired_doorEvent (i : Idx4) (s : State) : DoorEvent s (homingExpired i s) := by
  unfold homingExpired
  simp only []
  split
  · split
    · exact setBerth_doorEvent _ _ _
    · split
      · exact (((changeBerth_doorEvent _ _ _).trans (supplyTest_doorEvent _)).trans
          (lockedNotice_doorEvent _ _ _)).trans (cycleTest_doorEvent _ _)
      · exact fault_doorEvent _ _ _
  · exact .refl s

/-! Each timer that runs, in the state that it ends. -/

section
variable {ms : Nat} (free : s.run.platformStop = false)
include free

theorem recoveryExpired_runs (state : (s.berth i).state = .locked) (ht : (s.berth i).timer = some (.recovery, ms)) :
    recoveryExpired i s = cycleTest i (s.setBerth i { s.berth i with timer := none }) :=
  if_pos ⟨state, timerRuns_of_some free ht⟩

theorem unlockExpired_runs (state : (s.berth i).state = .unlocking) (ht : (s.berth i).timer = some (.unlock, ms)) :
    unlockExpired i s = if (s.berth i).senses.lockConfirm then fault i .unlockFailed s
      else if (s.berth i).mode = .auto then
        request i .opening (changeBerth i { s.berth i with state := .unlocked, timer := none } s)
      else changeBerth i { s.berth i with state := .unlocked, timer := none } s :=
  if_pos ⟨state, timerRuns_of_some free ht⟩

theorem openingExpired_runs (state : (s.berth i).state = .opening) (ht : (s.berth i).timer = some (.run, ms)) :
    openingExpired i s = if (s.berth i).motionSeen then
      openEntered i (supplyTest (changeBerth i { s.berth i with state := .opened, grant := false, timer := none } s))
      else fault i .motionIncomplete s := if_pos ⟨state, timerRuns_of_some free ht⟩

theorem dwellExpired_runs (state : (s.berth i).state = .opened) (ht : (s.berth i).timer = some (.dwell, ms)) :
    dwellExpired i s = request i .closing (s.setBerth i { s.berth i with timer := none }) :=
  if_pos ⟨state, timerRuns_of_some free ht⟩

/-- The berth as its Closing ends it. -/
theorem closingExpired_runs (state : (s.berth i).state = .closing) (ht : (s.berth i).timer = some (.run, ms))
    (seen : (s.berth i).motionSeen = true) : ∃ u, closingExpired i s =
        (if (s.berth i).mode = .auto then startLocking i u else u) ∧
      u = offerEvent (closeEvent
        (supplyTest (changeBerth i { s.berth i with state := .closed, grant := false, timer := none } s)) i)
        (supplyTest (changeBerth i { s.berth i with state := .closed, grant := false, timer := none } s)) := by
  refine ⟨_, ?_, rfl⟩
  rw [closingExpired, if_pos ⟨state, timerRuns_of_some free ht⟩, if_pos seen]

theorem closingExpired_unseen (state : (s.berth i).state = .closing) (ht : (s.berth i).timer = some (.run, ms))
    (unseen : (s.berth i).motionSeen = false) : closingExpired i s = fault i .motionIncomplete s := by
  simp [closingExpired, state, timerRuns_of_some free ht, unseen]

theorem lockExpired_runs (state : (s.berth i).state = .locking) (ht : (s.berth i).timer = some (.lock, ms)) :
    lockExpired i s = fault i .lockTimeout s := if_pos ⟨state, timerRuns_of_some free ht⟩

theorem homingExpired_runs (state : (s.berth i).state = .homing) (ht : (s.berth i).timer = some (.run, ms))
    (grant : (s.berth i).grant = true) : homingExpired i s =
      if (s.berth i).homingRun ≤ 1 then
        s.setBerth i { s.berth i with homingRun := 2, timer := some (.run, (s.berth i).settings.tClose) }
      else if (s.berth i).senses.lockConfirm then
        cycleTest i (lockedNotice i false (supplyTest (changeBerth i { s.berth i with
          state := .locked, grant := false, homingRun := 0, timer := recoveryTimer (s.berth i) } s)))
      else fault i .homeNoLock s := if_pos ⟨state, grant, timerRuns_of_some free ht⟩

end

/-! ### The rows -/

/-- The recovery timer starts the due cycle where R82 lets it. -/
theorem recoveryExpired_acts {ms : Nat} (free : s.run.platformStop = false) (state : (s.berth i).state = .locked)
    (ht : (s.berth i).timer = some (.recovery, ms)) :
    (recoveryExpired i s).berths = s.berths.set i (if cycleReady s { s.berth i with timer := none } then
      { s.berth i with state := .unlocking, timer := some (.unlock, (s.berth i).settings.tUnlock),
                       doorsRan := false, reopens := 0 }
      else { s.berth i with timer := none }) ∧ Calm [.berths, .line, .desk] s (recoveryExpired i s) := by
  rw [recoveryExpired_runs free state ht]
  refine ⟨?_, ((setBerth_calm s i _).mono (by decide)).andThen (cycleTest_calm _ _) (by decide)⟩
  have same : cycleReady (s.setBerth i { s.berth i with timer := none }) { s.berth i with timer := none } =
      cycleReady s { s.berth i with timer := none } := rfl
  rw [cycleTest, setBerth_berth_same, same]
  split
  · simp [Berth.cycleStart, Berth.unlocking]
  · rfl

/-- The doors unlocked: Manual waits for its commands, Auto asks for its Open (R83, R84). -/
theorem unlockExpired_acts {ms : Nat} (free : s.run.platformStop = false) (state : (s.berth i).state = .unlocking)
    (ht : (s.berth i).timer = some (.unlock, ms)) :
    ((s.berth i).senses.lockConfirm = true → (unlockExpired i s).berth i = (s.berth i).faulted .unlockFailed) ∧
    ((s.berth i).senses.lockConfirm = false → (s.berth i).mode = .manual →
      (unlockExpired i s).berths = s.berths.set i { s.berth i with state := .unlocked, timer := none } ∧
        (unlockExpired i s).supply = s.supply) ∧
    ((s.berth i).senses.lockConfirm = false → (s.berth i).mode = .auto → (∀ e ∈ s.supply.wait, e.1 ≠ i) →
      Serving i .opening { s.berth i with state := .unlocked, timer := none } (unlockExpired i s)) := by
  rw [unlockExpired_runs free state ht]
  refine ⟨fun confirmed => ?_, fun open_ manual => ?_, fun open_ auto unasked => ?_⟩
  · rw [if_pos confirmed, fault_berth]
  · rw [if_neg (by simp [open_]), if_neg (by simp [manual])]
    exact ⟨changeBerth_berths .., changeBerth_supply ..⟩
  · rw [if_neg (by simp [open_]), if_pos auto]
    refine Rests.request (.of (changeBerth_berth_same ..) (by simp) ?_) (.inl rfl)
    simpa [changeBerth_supply] using unasked

/-- The Opening ended with motion complete, no other berth waiting (R84, R85). -/
theorem opened_alone (hwait : s.supply.wait = []) : supplyTest (changeBerth i b s) = changeBerth i b s :=
  supplyTest_of_empty (by rw [changeBerth_supply, hwait])

/-- A berth on entering Open that keeps its place: Manual, or held open (R85). -/
theorem openEntered_of_kept (h : (s.berth i).mode = .manual ∨ (s.berth i).holdOpen = true) : openEntered i s = s :=
  if_neg (by rcases h with h | h <;> simp [h])

/-- What a berth's request leaves where no other waits: the request alone, or the motion granted. -/
theorem request_alone_berth (hwait : s.supply.wait = []) (clear : (s.berth i).clearFor m) :
    ((request i m s).berth i = s.berth i ∧ (request i m s).supply.wait = [(i, m)]) ∨
      ((request i m s).berth i = (s.berth i).moved m ∧ (request i m s).supply.wait = []) := by
  rcases (request_alone hwait clear).1 with ⟨berths, supply⟩ | ⟨berths, supply⟩
  · exact .inl ⟨by rw [State.berth_eq, berths, State.berth_eq], by rw [supply]⟩
  · exact .inr ⟨by rw [State.berth_eq, berths, Quad.get_set_same], by rw [supply]⟩

/-- The closing of the doors asked for after the Opening, none waiting, and the doors free (R85). -/
theorem openingExpired_acts {ms : Nat} (free : s.run.platformStop = false) (state : (s.berth i).state = .opening)
    (ht : (s.berth i).timer = some (.run, ms)) :
    ((s.berth i).motionSeen = false → (openingExpired i s).berth i = (s.berth i).faulted .motionIncomplete) ∧
    ((s.berth i).motionSeen = true → s.supply.wait = [] → (s.berth i).mode = .manual →
      (openingExpired i s).berths = s.berths.set i { s.berth i with state := .opened, grant := false, timer := none }) ∧
    ((s.berth i).motionSeen = true → s.supply.wait = [] → (s.berth i).mode = .auto → (s.berth i).holdOpen = false →
      (s.berth i).reopens = 0 → (openingExpired i s).berths = s.berths.set i { s.berth i with
        state := .opened, grant := false, timer := some (.dwell, (s.berth i).settings.dwell * 1000) }) ∧
    ((s.berth i).motionSeen = true → s.supply.wait = [] → (s.berth i).mode = .auto → (s.berth i).holdOpen = false →
      (s.berth i).reopens ≠ 0 → (s.berth i).senses.obstruction = false →
      ((openingExpired i s).berth i = { s.berth i with state := .opened, grant := false, timer := none } ∧
          (openingExpired i s).supply.wait = [(i, .closing)]) ∨
        ((openingExpired i s).berth i =
            { s.berth i with state := .opened, grant := false, timer := none }.moved .closing ∧
          (openingExpired i s).supply.wait = [])) ∧
    ((s.berth i).motionSeen = true → (∀ e ∈ s.supply.wait, e.1 ≠ i) →
      (s.berth i).mode = .manual ∨ (s.berth i).holdOpen = true →
      (openingExpired i s).berth i = { s.berth i with state := .opened, grant := false, timer := none }) := by
  rw [openingExpired_runs free state ht]
  refine ⟨fun unseen => ?_, fun seen hwait manual => ?_, fun seen hwait auto held none => ?_,
    fun seen hwait auto held some clear => ?_, fun seen unasked kept => ?_⟩
  · simp [unseen, fault_berth]
  · rw [if_pos seen, opened_alone hwait, openEntered_of_kept (by simp [manual]), changeBerth_berths]
  · rw [if_pos seen, opened_alone hwait]
    simp [openEntered, auto, held, none]
  · rw [if_pos seen, opened_alone hwait]
    have asks : openEntered i (changeBerth i { s.berth i with state := .opened, grant := false, timer := none } s) =
        request i .closing (changeBerth i { s.berth i with state := .opened, grant := false, timer := none } s) := by
      simp [openEntered, auto, held, some]
    have alone := request_alone_berth (i := i) (m := .closing)
      (s := changeBerth i { s.berth i with state := .opened, grant := false, timer := none } s)
      (by rw [changeBerth_supply, hwait]) (by simp [Berth.clearFor, clear])
    rw [asks]
    simpa only [changeBerth_berth_same] using alone
  · have rests : Rests i { s.berth i with state := .opened, grant := false, timer := none }
        (supplyTest (changeBerth i { s.berth i with state := .opened, grant := false, timer := none } s)) :=
      Rests.supplyTest (.of (changeBerth_berth_same ..) (by simp) (by simpa [changeBerth_supply] using unasked))
    rw [if_pos seen, openEntered_of_kept (by simpa [rests.berth] using kept), rests.berth]

theorem dwellExpired_acts {ms : Nat} (free : s.run.platformStop = false) (state : (s.berth i).state = .opened)
    (ht : (s.berth i).timer = some (.dwell, ms)) (clear : (s.berth i).senses.obstruction = false)
    (hwait : s.supply.wait = []) :
    ((dwellExpired i s).berth i = { s.berth i with timer := none } ∧ (dwellExpired i s).supply.wait = [(i, .closing)]) ∨
      ((dwellExpired i s).berth i = { s.berth i with timer := none }.moved .closing ∧
        (dwellExpired i s).supply.wait = []) := by
  rw [dwellExpired_runs free state ht]
  have alone := request_alone_berth (i := i) (m := .closing) (s := s.setBerth i { s.berth i with timer := none })
    hwait (by simp [Berth.clearFor, clear])
  simpa only [setBerth_berth_same] using alone

/-- The berth after a Closing that ended with motion complete: its counted close leaves it (R86). -/
theorem closed_rests (unasked : ∀ e ∈ s.supply.wait, e.1 ≠ i) (ev : CounterEvent) :
    Rests i { s.berth i with state := .closed, grant := false, timer := none } (offerEvent ev
      (supplyTest (changeBerth i { s.berth i with state := .closed, grant := false, timer := none } s))) :=
  Stands.offerEvent (Rests.supplyTest (.of (changeBerth_berth_same ..) (by simp)
    (by simpa [changeBerth_supply] using unasked))) ev

theorem closingExpired_acts {ms : Nat} (free : s.run.platformStop = false) (state : (s.berth i).state = .closing)
    (ht : (s.berth i).timer = some (.run, ms)) :
    ((s.berth i).motionSeen = false → (closingExpired i s).berth i = (s.berth i).faulted .motionIncomplete) ∧
    ((s.berth i).motionSeen = true → (∀ e ∈ s.supply.wait, e.1 ≠ i) → (s.berth i).mode = .manual →
      (closingExpired i s).berth i = { s.berth i with state := .closed, grant := false, timer := none }) ∧
    ((s.berth i).motionSeen = true → (∀ e ∈ s.supply.wait, e.1 ≠ i) → (s.berth i).mode = .auto →
      (s.berth i).senses.lockConfirm = false → (closingExpired i s).berth i = { s.berth i with
        state := .locking, grant := false, timer := some (.lock, (s.berth i).settings.tLock) }) := by
  refine ⟨fun unseen => ?_, fun seen unasked manual => ?_, fun seen unasked auto open_ => ?_⟩
  · rw [closingExpired_unseen free state ht unseen, fault_berth]
  all_goals
    obtain ⟨u, ended, closed⟩ := closingExpired_runs free state ht seen
    have rests := closed_rests unasked (closeEvent
      (supplyTest (changeBerth i { s.berth i with state := .closed, grant := false, timer := none } s)) i)
    rw [← closed] at rests
    rw [ended]
  · rw [if_neg (by simp [manual]), rests.berth]
  · rw [if_pos auto]
    simp [startLocking, rests.berth, open_]

theorem homingExpired_acts {ms : Nat} (free : s.run.platformStop = false) (state : (s.berth i).state = .homing)
    (ht : (s.berth i).timer = some (.run, ms)) (grant : (s.berth i).grant = true) :
    ((s.berth i).homingRun ≤ 1 → homingExpired i s = s.setBerth i { s.berth i with
      homingRun := 2, timer := some (.run, (s.berth i).settings.tClose) }) ∧
    (1 < (s.berth i).homingRun → (s.berth i).senses.lockConfirm = false →
      (homingExpired i s).berth i = (s.berth i).faulted .homeNoLock) ∧
    (1 < (s.berth i).homingRun → (s.berth i).senses.lockConfirm = true → s.supply.wait = [] →
      (s.berth i).settings.tRecover ≠ 0 → (homingExpired i s).berth i = { s.berth i with
        state := .locked, grant := false, homingRun := 0, timer := recoveryTimer (s.berth i) }) := by
  rw [homingExpired_runs free state ht grant]
  refine ⟨fun first => if_pos first, fun second open_ => ?_, fun second locked hwait recover => ?_⟩
  · rw [if_neg (by omega), if_neg (by simp [open_]), fault_berth]
  · rw [if_neg (by omega), if_pos locked, opened_alone hwait]
    have after := (cycles_lockedNotice i false (changeBerth i { s.berth i with
      state := .locked, grant := false, homingRun := 0, timer := recoveryTimer (s.berth i) } s)).trans
      (cycles_cycleTest i _)
    rw [after.berth_of_timer (i := i) (by simp [recoveryTimer, recover]), changeBerth_berth_same]

/-- Settles O32, by the timer that runs: each timer's own effect, with what the grants of others leave of the berth. -/
theorem doorTimersAct : Obligations.DoorTimersAct := by
  refine ⟨fun i ms s free => ⟨fun state ht => ?_, fun state ht => ?_, fun state ht => ?_, fun state ht clear hwait => ?_,
    fun state ht => ?_, fun state ht => ?_, fun state ht grant => ?_⟩, fun i s idle => ?_⟩
  · obtain ⟨berths, calm⟩ := recoveryExpired_acts free state ht
    exact ⟨_, rfl, calm.desk, calm.line, calm.touches, berths⟩
  · obtain ⟨failed, manual, auto⟩ := unlockExpired_acts free state ht
    have event := unlockExpired_doorEvent i s
    refine ⟨_, rfl, event.desk, event.touches, fun h => by simp [failed h, Berth.faulted], manual, fun h a unasked => ?_⟩
    rcases auto h a unasked with waits | moves
    · refine .inl ⟨by rw [waits.berth], ?_⟩
      exact (List.mem_filter.mp (waits.entries.mem_iff.mpr (List.mem_singleton_self _))).1
    · exact .inr ⟨by rw [moves.berth]; rfl, by rw [moves.berth]; rfl⟩
  · obtain ⟨failed, manual, auto, reopened, kept⟩ := openingExpired_acts free state ht
    have event := openingExpired_doorEvent i s
    refine ⟨_, rfl, event.desk, event.touches, fun h => by simp [failed h, Berth.faulted], manual, auto,
      fun seen hwait a held again clear => ?_, kept⟩
    rcases reopened seen hwait a held again clear with ⟨berth, wait⟩ | ⟨berth, wait⟩
    · exact .inl ⟨by rw [berth], by rw [berth], by rw [berth], wait⟩
    · exact .inr ⟨by rw [berth]; rfl, by rw [berth]; rfl, by rw [berth]; rfl, wait⟩
  · have event := dwellExpired_doorEvent i s
    refine ⟨_, rfl, event.desk, event.touches, ?_⟩
    rcases dwellExpired_acts free state ht clear hwait with ⟨berth, wait⟩ | ⟨berth, wait⟩
    · exact .inl ⟨by rw [berth]; exact state, by rw [berth], wait⟩
    · exact .inr ⟨by rw [berth]; rfl, by rw [berth]; rfl, by rw [berth]; rfl, by rw [berth]; rfl, by rw [berth]; rfl, wait⟩
  · obtain ⟨failed, manual, auto⟩ := closingExpired_acts free state ht
    have event := closingExpired_doorEvent i s
    refine ⟨_, rfl, event.desk, event.touches, fun h => by simp [failed h, Berth.faulted], fun seen hwait m => ?_, manual,
      fun seen hwait a open_ => ?_⟩
    · simp [manual seen (by simp [hwait]) m]
    · simp [auto seen (by simp [hwait]) a open_]
  · have event := lockExpired_doorEvent i s
    have failed : (lockExpired i s).berth i = (s.berth i).faulted .lockTimeout := by
      rw [lockExpired_runs free state ht, fault_berth]
    exact ⟨_, rfl, event.desk, event.touches, by rw [failed]; rfl, by rw [failed]; rfl, by rw [failed]; rfl⟩
  · obtain ⟨first, failed, locked⟩ := homingExpired_acts free state ht grant
    have event := homingExpired_doorEvent i s
    refine ⟨_, rfl, event.desk, event.touches, first, fun h1 h2 => by simp [failed h1 h2, Berth.faulted],
      fun h1 h2 h3 h4 => by simp [locked h1 h2 h3 h4]⟩
  · have still := fun k => timerRuns_of_idle k idle
    refine ⟨?_, ?_, ?_, ?_, ?_, ?_, ?_⟩ <;> refine congrArg Host.Outcome.next (if_neg ?_) <;> simp [still]

end

end Sys2Proof.Machine
end

section
/-! SUPPORT. The senses of the berths (R79, R84, R86 to R91, R98), and what a reversal counts. -/

namespace Sys2Proof.Machine

open Config

section
variable {s : State} {i : Idx4} {b : Berth}

/-- A berth with one more reversal counted, held open from the limit on (R88, R89). -/
def Berth.reopened (b : Berth) : Berth :=
  { b with
    reopens := min (b.reopens + 1) 255
    holdOpen := b.holdOpen || decide (b.settings.maxReopens ≤ min (b.reopens + 1) 255) }

theorem limitTest_berth (i : Idx4) (s : State) : (limitTest i s).berth i =
    { s.berth i with
      holdOpen := (s.berth i).holdOpen || decide ((s.berth i).settings.maxReopens ≤ (s.berth i).reopens) } := by
  unfold limitTest limitReached
  split
  · rename_i reached
    rw [changeBerth_berth_same, reached, Bool.or_true]
  · rename_i below
    simp [below]

theorem countReversal_berth (unlocked : (s.berth i).state ≠ .locked) :
    (countReversal i s).berth i = (s.berth i).reopened := by
  have counted := (cycles_offerEvent (reopenEvent s i)
    (s.setBerth i { s.berth i with reopens := min ((s.berth i).reopens + 1) 255 })).berth (i := i) (by simpa using unlocked)
  rw [countReversal, limitTest_berth, counted, setBerth_berth_same]
  rfl

/-- A Closing reversed: the doors open again for the scaled time, the reversal counted (R88, R89). -/
theorem reverse_berth (i : Idx4) (s : State) : (reverse i s).berth i = (s.berth i).reversed.reopened := by
  rw [reverse, countReversal_berth (by simp [Berth.reversed]), changeBerth_berth_same]

/-- A berth as Locking leaves it: its cycle, complete where it is occupied, is not due (R82, R87). -/
theorem lockBerth_berth (i : Idx4) (s : State) : (lockBerth i s).berth i = { s.berth i with
    state := .locked, timer := recoveryTimer (s.berth i),
    cycleComplete := (s.berth i).cycleComplete || (s.berth i).completes } := by
  have after := (cycles_lockedNotice i (s.berth i).completes (changeBerth i { s.berth i with
    state := .locked, timer := recoveryTimer (s.berth i),
    cycleComplete := (s.berth i).cycleComplete || (s.berth i).completes } s)).trans (cycles_cycleTest i _)
  have undue : Berth.due { s.berth i with
      state := .locked, timer := recoveryTimer (s.berth i),
      cycleComplete := (s.berth i).cycleComplete || (s.berth i).completes } = false := by
    cases h1 : (s.berth i).occupied <;> cases h2 : (s.berth i).cycleComplete <;>
      simp [Berth.due, Berth.completes, h1, h2]
  have same := after.berth_of_undue (i := i) (by rw [changeBerth_berth_same]; exact undue)
  rw [changeBerth_berth_same] at same
  exact same

theorem lockConfirmSense_arrival (quiet : (s.berth i).senses.lockConfirm = false) (state : (s.berth i).state = .locking) :
    lockConfirmSense i true s =
      lockBerth i (s.setBerth i { s.berth i with senses := { (s.berth i).senses with lockConfirm := true } }) := by
  simp [lockConfirmSense, quiet, state]

theorem obstructionSense_closing (quiet : (s.berth i).senses.obstruction = false) (state : (s.berth i).state = .closing) :
    obstructionSense i true s =
      reverse i (s.setBerth i { s.berth i with senses := { (s.berth i).senses with obstruction := true } }) := by
  simp [obstructionSense, quiet, state]

theorem obstructionSense_homing (quiet : (s.berth i).senses.obstruction = false) (state : (s.berth i).state = .homing)
    (grant : (s.berth i).grant = true) : obstructionSense i true s = fault i .homingObstructed
      (s.setBerth i { s.berth i with senses := { (s.berth i).senses with obstruction := true } }) := by
  simp [obstructionSense, quiet, state, grant]

theorem driveFaultChange_arrival (quiet : (s.berth i).senses.driveFault = false) (state : (s.berth i).state ≠ .fault)
    (free : ¬ ((s.berth i).state = .locked ∧ s.track.step.isSome = true)) :
    driveFaultChange i true s = fault i .driveFault
      (s.setBerth i { s.berth i with senses := { (s.berth i).senses with driveFault := true } }) := by
  simp only [driveFaultChange, quiet, state, if_neg free]
  rfl

/-- A drive fault at a Locked berth with an index step in flight is kept pending (R91). -/
theorem driveFaultChange_pending (quiet : (s.berth i).senses.driveFault = false) (state : (s.berth i).state = .locked)
    (step : s.track.step.isSome = true) : (driveFaultChange i true s).berths = s.berths.set i { s.berth i with
      senses := { (s.berth i).senses with driveFault := true }, faultPending := true } ∧
    Calm [.berths, .line, .desk] s (driveFaultChange i true s) := by
  have sensed := (setBerth_calm s i { s.berth i with senses := { (s.berth i).senses with driveFault := true } }).mono
    (cs := [.berths, .line, .desk]) (by decide)
  have pending : driveFaultChange i true s = if (s.berth i).faultPending then
      s.setBerth i { s.berth i with senses := { (s.berth i).senses with driveFault := true } }
      else changeBerth i { s.berth i with senses := { (s.berth i).senses with driveFault := true }, faultPending := true }
        (s.setBerth i { s.berth i with senses := { (s.berth i).senses with driveFault := true } }) := by
    simp [driveFaultChange, quiet, state, step]
  rw [pending]
  split
  · rename_i already
    refine ⟨?_, sensed⟩
    rw [← already]
    rfl
  · exact ⟨by simp, sensed.andThen (changeBerth_calm _ _ _) (by decide)⟩

end

/-- Settles O33, by the sense and the state in which it arrives. -/
theorem sensesActAsArrivals : Obligations.SensesActAsArrivals := by
  intro i s
  refine ⟨⟨?_, ?_, ?_, ?_⟩, fun quiet state => ?_, fun quiet state => ?_, fun quiet state => ?_, fun quiet state => ?_,
    fun quiet state grant => ?_, fun quiet state free => ?_, fun quiet state step => ?_⟩
  iterate 4 rfl
  · refine congrArg Host.Outcome.next ?_
    cases time : (s.berth i).closeTime <;> simp [motionCompleteSense, quiet, state, time]
  · refine congrArg Host.Outcome.next ?_
    simp [motionCompleteSense, quiet, state]
  · have event : DoorEvent s (lockConfirmSense i true s) := by
      rw [lockConfirmSense_arrival quiet state]
      exact (setBerth_doorEvent _ _ _).trans (lockBerth_doorEvent _ _)
    have berth := lockBerth_berth i
      (s.setBerth i { s.berth i with senses := { (s.berth i).senses with lockConfirm := true } })
    rw [← lockConfirmSense_arrival quiet state, setBerth_berth_same] at berth
    refine ⟨_, rfl, event.desk, event.touches, by rw [berth], by rw [berth], ?_⟩
    rw [berth]
    cases h : (s.berth i).occupied <;> cases h' : (s.berth i).cycleComplete <;> simp [Berth.completes, h, h']
  · have event : DoorEvent s (obstructionSense i true s) := by
      rw [obstructionSense_closing quiet state]
      exact (setBerth_doorEvent _ _ _).trans (reverse_doorEvent _ _)
    have berth := reverse_berth i
      (s.setBerth i { s.berth i with senses := { (s.berth i).senses with obstruction := true } })
    rw [← obstructionSense_closing quiet state, setBerth_berth_same] at berth
    refine ⟨_, rfl, event.desk, event.touches, ?_⟩
    rw [berth]
    exact ⟨rfl, rfl, rfl, rfl, rfl, rfl, fun reached => by simp [Berth.reopened, Berth.reversed, reached]⟩
  · have event : DoorEvent s (obstructionSense i true s) := by
      rw [obstructionSense_homing quiet state grant]
      exact (setBerth_doorEvent _ _ _).trans (fault_doorEvent _ _ _)
    refine ⟨_, rfl, event.desk, event.touches, ?_⟩
    rw [obstructionSense_homing quiet state grant, fault_berth]
    exact ⟨rfl, rfl⟩
  · have event : DoorEvent s (driveFaultChange i true s) := by
      rw [driveFaultChange_arrival quiet state free]
      exact (setBerth_doorEvent _ _ _).trans (fault_doorEvent _ _ _)
    refine ⟨_, rfl, event.desk, event.touches, ?_⟩
    rw [driveFaultChange_arrival quiet state free, fault_berth]
    exact ⟨rfl, rfl⟩
  · obtain ⟨berths, calm⟩ := driveFaultChange_pending quiet state step
    exact ⟨_, rfl, calm.desk, calm.line, berths, calm.touches⟩

end Sys2Proof.Machine
end

section
/-! SUPPORT. The motion supply: one grant with a gap to keep, two in a row without one, and the obstructed Close that
gives its grant back in between (R93 to R95). -/

namespace Sys2Proof.Machine

open Config

section
variable {s t : State} {i j : Idx4} {b : Berth} {m : Motion} {rest : List (Idx4 × Motion)}

/-! ### When the supply may grant (R94) -/

/-- The conditions of R94 on the start gap. -/
def GapPassed (p : Supply) : Prop := p.sinceGrant = none ∨ ∃ v, p.sinceGrant = some v ∧ p.gap ≤ v

theorem gapPassed_iff (p : Supply) : gapPassed p = true ↔ GapPassed p := by
  unfold gapPassed GapPassed
  cases p.sinceGrant <;> simp

theorem supplyReady_iff : supplyReady s = true ↔ (grantHolders s).length < 2 ∧ s.supply.wait ≠ [] ∧
    s.run.platformStop = false ∧ GapPassed s.supply := by
  simp [supplyReady, grants, gapPassed_iff, and_assoc]

theorem supplyReady_of_head {e : Idx4 × Motion} (room : (grantHolders s).length < 2) (hwait : s.supply.wait = e :: rest)
    (free : s.run.platformStop = false) (gap : GapPassed s.supply) : supplyReady s = true :=
  supplyReady_iff.mpr ⟨room, by simp [hwait], free, gap⟩

/-- Right after a grant a gap is still to pass. -/
theorem supplyReady_of_gap (gap : 0 < s.supply.gap) (h : s.supply.sinceGrant = some 0) : supplyReady s = false := by
  refine Bool.eq_false_iff.mpr fun ready => ?_
  obtain ⟨-, -, -, passed⟩ := supplyReady_iff.mp ready
  rcases passed with none | ⟨v, hv, passed⟩
  · simp [h] at none
  · simp_all

theorem supplyReady_of_full (full : 2 ≤ (grantHolders s).length) : supplyReady s = false := by
  refine Bool.eq_false_iff.mpr fun ready => ?_
  have := (supplyReady_iff.mp ready).1
  omega

/-- The first entry's doors move, where nothing is in their way and a gap is to be kept. -/
theorem supplyTest_clear (ready : supplyReady s = true) (hwait : s.supply.wait = (i, m) :: rest)
    (gap : 0 < s.supply.gap) (clear : (s.berth i).clearFor m) :
    (supplyTest s).berths = s.berths.set i ((s.berth i).moved m) ∧
      (supplyTest s).supply = { s.supply with wait := rest, sinceGrant := some 0 } ∧
      Calm [.berths, .supply, .line, .desk] s (supplyTest s) := by
  have granted := grantHead_of_clear (test := supplyLoop 31) hwait clear
  rw [supplyTest_once ready (supplyReady_of_gap (by rw [granted.2.1]; exact gap) (by rw [granted.2.1]))]
  exact granted

/-! ### The obstructed grants (R88, R89, R98) -/

/-- A berth asks again for its Close below the limit of its reversals, in Auto (R89). -/
abbrev Berth.asksAgain (b : Berth) : Prop := b.mode = .auto ∧ b.reopens < b.settings.maxReopens

theorem asksAgain_iff (b : Berth) : (b.mode = .auto ∧ limitReached b = false) ↔ b.asksAgain := by
  simp [limitReached, Berth.asksAgain]

/-- An obstructed Close: the test of its release, the reversal counted, and the next request. -/
theorem grantHead_obstructed {test : State → State} (hwait : s.supply.wait = (i, .closing) :: rest)
    (sensed : (s.berth i).senses.obstruction = true) {u : State}
    (tested : test { s with supply := { s.supply with wait := rest, sinceGrant := some 0 } } = u)
    (same : u.berth i = s.berth i) (opened : (s.berth i).state = .opened) :
    grantHead test s = if (s.berth i).reopened.mode = .auto ∧ limitReached (s.berth i).reopened = false then
      queueRequest i .closing (countReversal i u) else countReversal i u := by
  have berth : (countReversal i u).berth i = (s.berth i).reopened := by
    rw [countReversal_berth (by simp [same, opened]), same]
  have sensed' : ({ s with supply := { s.supply with wait := rest, sinceGrant := some 0 } } : State).berth i = s.berth i :=
    rfl
  unfold grantHead
  rw [hwait]
  simp only [grantClose, sensed', sensed, if_true, tested, berth]

/-- A request that no entry of the berth precedes goes behind those of its kind. -/
theorem queueRequest_fresh (unasked : ∀ e ∈ s.supply.wait, e.1 ≠ i) :
    queueRequest i m s = { s with supply := { s.supply with wait := insertWait i m s.supply.wait } } := by
  have fresh : waits s i m = false := decide_eq_false fun hmem => unasked _ hmem rfl
  have same : withdraw i s.supply.wait = s.supply.wait := List.filter_eq_self.mpr fun e he => by simp [unasked e he]
  simp [queueRequest, fresh, same]

theorem insertWait_closing (i : Idx4) (w : List (Idx4 × Motion)) : insertWait i .closing w =
    (w.filter fun e => decide (e.2 = .closing)) ++ (i, .closing) :: w.filter fun e => !decide (e.2 = .closing) := by
  have kind : ∀ e : Idx4 × Motion, (e.2.priority ≤ Motion.closing.priority) ↔ e.2 = .closing := by
    rintro ⟨k, m⟩
    cases m <;> simp [Motion.priority]
  simp only [insertWait, kind]

theorem countReversal_supply (unlocked : (s.berth i).state ≠ .locked) : (countReversal i s).supply = s.supply :=
  (countReversal_door unlocked).2

/-- An obstructed Close with a gap to keep: the berth stays Open, its reversal counted, and asks again in Auto below
its limit. -/
theorem supplyTest_obstructed (ready : supplyReady s = true) (hwait : s.supply.wait = (i, .closing) :: rest)
    (gap : 0 < s.supply.gap) (sensed : (s.berth i).senses.obstruction = true) (opened : (s.berth i).state = .opened)
    (unasked : ∀ e ∈ rest, e.1 ≠ i) :
    (supplyTest s).berth i = (s.berth i).reopened ∧
      (supplyTest s).supply = { s.supply with
        sinceGrant := some 0
        wait := if (s.berth i).reopened.asksAgain then
          (rest.filter fun e => decide (e.2 = .closing)) ++ (i, .closing) ::
            (rest.filter fun e => !decide (e.2 = .closing)) else rest } := by
  have unlocked : (s.berth i).state ≠ .locked := by simp [opened]
  have granted := grantHead_obstructed (test := supplyLoop 31) hwait sensed
    (supplyLoop_of_unready 31 (supplyReady_of_gap gap rfl)) rfl opened
  have berth := countReversal_berth (i := i)
    (s := { s with supply := { s.supply with wait := rest, sinceGrant := some 0 } }) unlocked
  have supply := countReversal_supply (i := i)
    (s := { s with supply := { s.supply with wait := rest, sinceGrant := some 0 } }) unlocked
  generalize countReversal i { s with supply := { s.supply with wait := rest, sinceGrant := some 0 } } = u at *
  have outcome : (grantHead (supplyLoop 31) s).berth i = (s.berth i).reopened ∧
      (grantHead (supplyLoop 31) s).supply = { s.supply with
        sinceGrant := some 0
        wait := if (s.berth i).reopened.asksAgain then
          (rest.filter fun e => decide (e.2 = .closing)) ++ (i, .closing) ::
            (rest.filter fun e => !decide (e.2 = .closing)) else rest } := by
    rw [granted, if_congr (asksAgain_iff _) rfl rfl]
    by_cases again : (s.berth i).reopened.asksAgain
    · rw [if_pos again, if_pos again, queueRequest_fresh (by simpa [supply] using unasked)]
      exact ⟨berth, by simp [supply, insertWait_closing]⟩
    · rw [if_neg again, if_neg again]
      exact ⟨berth, supply⟩
  rw [supplyTest_once ready (supplyReady_of_gap (by rw [outcome.2]; exact gap) (by rw [outcome.2]))]
  exact outcome

theorem supplyTest_homingObstructed (ready : supplyReady s = true) (hwait : s.supply.wait = (i, .homing) :: rest)
    (gap : 0 < s.supply.gap) (sensed : (s.berth i).senses.obstruction = true) :
    (supplyTest s).berth i = (s.berth i).faulted .homingObstructed ∧
      (supplyTest s).supply.wait = rest.filter fun e => !decide (e.1 = i) := by
  have granted : grantHead (supplyLoop 31) s = faultBerth i .homingObstructed
      { s with supply := { s.supply with wait := rest, sinceGrant := some 0 } } := by
    unfold grantHead
    rw [hwait]
    exact if_pos sensed
  have supply : (grantHead (supplyLoop 31) s).supply = { s.supply with wait := withdraw i rest, sinceGrant := some 0 } := by
    rw [granted, faultBerth, changeBerth_supply]
    rfl
  rw [supplyTest_once ready (supplyReady_of_gap (by rw [supply]; exact gap) (by rw [supply])), supply, granted]
  exact ⟨changeBerth_berth_same .., rfl⟩

/-! ### Grants in a row (R94) -/

theorem grantHolders_length_congr (h : ∀ k, (t.berth k).grant = (s.berth k).grant) :
    (grantHolders t).length = (grantHolders s).length := by
  simp [grantHolders_length, h]

/-- One berth more holds a grant. -/
theorem grantHolders_length_set (hb : t.berths = s.berths.set i b) (free : (s.berth i).grant = false)
    (grant : b.grant = true) : (grantHolders t).length = (grantHolders s).length + 1 := by
  have get : ∀ k, t.berth k = if k = i then b else s.berth k := fun k => by
    rw [State.berth_eq, hb, Quad.get_set, State.berth_eq]
  rw [grantHolders_length, grantHolders_length]
  cases i <;> simp [get, free, grant] <;> omega

theorem Cycles.grant (h : Cycles s t) (k : Idx4) : (t.berth k).grant = (s.berth k).grant := by
  rcases h k with same | ⟨-, started⟩
  · rw [same]
  · rw [started]
    rfl

theorem changeBerth_grant (h : b.grant = (s.berth i).grant) (k : Idx4) :
    ((changeBerth i b s).berth k).grant = (s.berth k).grant := by
  rw [State.berth_eq, changeBerth_berths, Quad.get_set]
  split
  · rename_i same
    rw [h, same]
  · rfl

theorem limitTest_grant (i k : Idx4) (s : State) : ((limitTest i s).berth k).grant = (s.berth k).grant := by
  unfold limitTest
  split
  · exact changeBerth_grant (b := { s.berth i with holdOpen := true }) rfl k
  · rfl

/-- A reversal counted leaves every grant. -/
theorem countReversal_grant (i k : Idx4) (s : State) : ((countReversal i s).berth k).grant = (s.berth k).grant := by
  have counted : ∀ k, ((offerEvent (reopenEvent s i)
      (s.setBerth i { s.berth i with reopens := min ((s.berth i).reopens + 1) 255 })).berth k).grant =
      (s.berth k).grant := fun k => by
    rw [(cycles_offerEvent _ _).grant, State.berth_eq, State.setBerth, Quad.get_set]
    split
    · rename_i same
      rw [same]
    · rfl
  exact (limitTest_grant i k _).trans (counted k)

/-- A grant in a row, without a gap to keep. -/
theorem supplyLoop_clear {n : Nat} (ready : supplyReady s = true) (hwait : s.supply.wait = (i, m) :: rest)
    (clear : (s.berth i).clearFor m) : ∃ u, supplyLoop (n + 1) s = supplyLoop n u ∧
      u.berths = s.berths.set i ((s.berth i).moved m) ∧
      u.supply = { s.supply with wait := rest, sinceGrant := some 0 } ∧ Calm [.berths, .supply, .line, .desk] s u :=
  ⟨_, supplyLoop_of_ready n ready, grantHead_of_clear hwait clear⟩

theorem Berth.moved_grant (m : Motion) (b : Berth) : (b.moved m).grant = true := by
  cases m <;> rfl

theorem GapPassed.of_zero {p : Supply} (h : p.gap = 0) : GapPassed p := by
  cases hp : p.sinceGrant <;> simp [GapPassed, hp, h]

/-- Two Opens at the head, no grant held and no gap: both are granted. -/
theorem supplyTest_twoOpens (gap : s.supply.gap = 0) (free : s.run.platformStop = false) (hne : i ≠ j)
    (none : grantHolders s = []) (hwait : s.supply.wait = (i, .opening) :: (j, .opening) :: rest) :
    (supplyTest s).berths = (s.berths.set i ((s.berth i).moved .opening)).set j ((s.berth j).moved .opening) ∧
      (supplyTest s).supply = { s.supply with wait := rest, sinceGrant := some 0 } := by
  have idle : ∀ k, (s.berth k).grant = false := fun k => by
    have := congrArg List.length none
    rw [grantHolders_length] at this
    cases h : (s.berth k).grant
    · rfl
    · cases k <;> simp [h] at this
  obtain ⟨u, first, berths, supply, calm⟩ := supplyLoop_clear (n := 31)
    (supplyReady_of_head (by simp [none]) hwait free (.of_zero gap)) hwait (.inl rfl)
  have one := grantHolders_length_set berths (idle i) (Berth.moved_grant _ _)
  have other : u.berth j = s.berth j := by rw [State.berth_eq, berths, Quad.get_set_ne _ _ hne.symm, State.berth_eq]
  have uwait : u.supply.wait = (j, .opening) :: rest := by rw [supply]
  have ugap : GapPassed u.supply := .of_zero (by rw [supply]; exact gap)
  obtain ⟨v, second, berths', supply', -⟩ := supplyLoop_clear (n := 30)
    (supplyReady_of_head (by simp [one, none]) uwait (by rw [calm.run]; exact free) ugap) uwait (.inl rfl)
  have two := grantHolders_length_set berths' (by rw [other]; exact idle j) (Berth.moved_grant _ _)
  rw [supplyTest, first, second, supplyLoop_of_unready 30 (supplyReady_of_full (by omega)), berths', supply', other,
    berths, supply]
  exact ⟨rfl, rfl⟩

/-- An obstructed Close ahead of an Open, with one grant left and no gap: the Open takes the grant that the Close gives
back, and the Close waits again. -/
theorem supplyTest_passed (gap : s.supply.gap = 0) (free : s.run.platformStop = false) (hne : i ≠ j)
    (one : (grantHolders s).length = 1) (hwait : s.supply.wait = [(i, .closing), (j, .opening)])
    (opened : (s.berth i).state = .opened) (idle : (s.berth j).grant = false)
    (sensed : (s.berth i).senses.obstruction = true) (again : (s.berth i).reopened.asksAgain) :
    (supplyTest s).berth j = (s.berth j).moved .opening ∧ (supplyTest s).berth i = (s.berth i).reopened ∧
      (supplyTest s).supply.wait = [(i, .closing)] := by
  obtain ⟨u, tested, berths, supply, -⟩ := supplyLoop_clear (n := 30) (i := j) (m := .opening) (rest := [])
    (s := { s with supply := { s.supply with wait := [(j, .opening)], sinceGrant := some 0 } })
    (supplyReady_of_head (one.trans_lt (by decide)) rfl free (.of_zero gap)) rfl (.inl rfl)
  have two : (grantHolders u).length = 2 :=
    (grantHolders_length_set (s := s) berths idle (Berth.moved_grant _ _)).trans (by rw [one])
  rw [supplyLoop_of_unready 30 (supplyReady_of_full two.ge)] at tested
  have same : u.berth i = s.berth i := by rw [State.berth_eq, berths, Quad.get_set_ne _ _ hne, State.berth_eq]
  have granted := grantHead_obstructed hwait sensed tested same opened
  rw [if_pos ((asksAgain_iff _).mpr again), queueRequest_fresh
    (by rw [countReversal_supply (by simp [same, opened]), supply]; simp)] at granted
  have rests : Rests j ((s.berth j).moved .opening) (countReversal i u) :=
    Stands.countReversal (Rests.of (by rw [State.berth_eq, berths, Quad.get_set_same]; rfl) (Berth.moved_unlocked _ _)
      (by simp [supply])) hne
  have spent : supplyReady (grantHead (supplyLoop 31) s) = false := by
    refine supplyReady_of_full (le_of_eq ?_)
    rw [granted, ← two]
    exact (grantHolders_length_congr fun k => countReversal_grant i k u).symm
  rw [supplyTest_once (supplyReady_of_head (one.trans_lt (by decide)) hwait free (.of_zero gap)) spent, granted]
  refine ⟨rests.berth, ?_, ?_⟩
  · exact (countReversal_berth (by simp [same, opened])).trans (by rw [same])
  · rw [countReversal_supply (by simp [same, opened]), supply]
    rfl

/-- The end of the start gap is such a test; it brings the time since the last grant up to the gap (R94). -/
theorem gapExpired_opening {v : Nat} (since : s.supply.sinceGrant = some v) (hwait : s.supply.wait = (i, .opening) :: rest)
    (room : (grantHolders s).length < 2) (free : s.run.platformStop = false) (gap : 0 < s.supply.gap) :
    (gapExpired s).berth i = (s.berth i).moved .opening ∧
      (gapExpired s).supply = { s.supply with wait := rest, sinceGrant := some 0 } ∧
      Calm [.berths, .supply, .line, .desk] s (gapExpired s) := by
  have tested : gapExpired s = supplyTest { s with supply := { s.supply with sinceGrant := some (max v s.supply.gap) } } := by
    simp [gapExpired, since]
  have ready : supplyReady { s with supply := { s.supply with sinceGrant := some (max v s.supply.gap) } } = true :=
    supplyReady_of_head room hwait free (.inr ⟨_, rfl, le_max_right _ _⟩)
  obtain ⟨berths, supply, calm⟩ := supplyTest_clear ready hwait gap (.inl rfl)
  rw [tested]
  refine ⟨?_, supply, ((setSupply_calm _ s).mono (by decide)).trans calm⟩
  rw [State.berth_eq, berths, Quad.get_set_same]
  rfl

end

/-- Settles O34: no grant while a condition of R94 fails, and what the first entry's grant brings. -/
theorem motionSupplyGrantsTheFirstEntry : Obligations.MotionSupplyGrantsTheFirstEntry := by
  refine ⟨fun s held => supplyTest_of_unready (Bool.eq_false_iff.mpr fun ready => ?_),
    fun i rest s room hwait free gap since => ?_, fun i rest s room free gap since =>
      ⟨fun hwait clear => ?_, fun hwait clear => ?_, fun hwait sensed => ?_, fun hwait sensed opened unasked => ?_⟩,
    fun i j rest s gap free hne => ⟨fun none hwait => ?_, fun one hwait opened _ idle sensed auto below small => ?_⟩,
    fun s v since hwait => ?_, fun s none => ?_, fun s v i rest since hwait room free gap => ?_,
    fun tag gap s free => ⟨fun above => ?_, fun below hwait => ?_⟩⟩
  · obtain ⟨room, waiting, free, passed⟩ := supplyReady_iff.mp ready
    rcases held with full | empty | stopped | ⟨v, hv, early⟩
    · omega
    · exact waiting empty
    · simp [free] at stopped
    · rcases passed with none | ⟨w, hw, late⟩ <;> simp_all
      omega
  · obtain ⟨berths, supply, -⟩ := supplyTest_clear (supplyReady_of_head room hwait free since) hwait gap (.inl rfl)
    exact ⟨berths, supply⟩
  · obtain ⟨berths, supply, -⟩ := supplyTest_clear (supplyReady_of_head room hwait free since) hwait gap (.inr clear)
    exact ⟨berths, supply⟩
  · obtain ⟨berths, supply, -⟩ := supplyTest_clear (supplyReady_of_head room hwait free since) hwait gap (.inr clear)
    exact ⟨berths, supply⟩
  · obtain ⟨berth, wait⟩ := supplyTest_homingObstructed (supplyReady_of_head room hwait free since) hwait gap sensed
    rw [berth]
    exact ⟨rfl, rfl, rfl, wait⟩
  · obtain ⟨berth, supply⟩ := supplyTest_obstructed (supplyReady_of_head room hwait free since) hwait gap sensed opened
      unasked
    exact ⟨berth, supply, (supplyTest_doorEvent s).touches⟩
  · obtain ⟨berths, supply⟩ := supplyTest_twoOpens gap free hne none hwait
    rw [State.berth_eq, State.berth_eq, berths, Quad.get_set_ne _ _ hne, Quad.get_set_same, Quad.get_set_same]
    exact ⟨rfl, rfl, rfl, rfl, supply⟩
  · have again : (s.berth i).reopened.asksAgain :=
      ⟨auto, (min_le_left _ _).trans_lt below⟩
    obtain ⟨other, berth, wait⟩ := supplyTest_passed gap free hne one hwait opened idle sensed again
    rw [other, berth]
    exact ⟨rfl, rfl, opened, min_eq_left (by omega), wait⟩
  · refine congrArg Host.Outcome.next ?_
    rw [gapExpired, since]
    exact supplyTest_of_empty hwait
  · exact congrArg Host.Outcome.next (by simp [gapExpired, none])
  · obtain ⟨berth, supply, calm⟩ := gapExpired_opening since hwait room free gap
    refine ⟨_, rfl, by rw [berth]; rfl, by rw [berth]; rfl, supply, calm.desk, calm.line, calm.touches⟩
  · exact run_refused tag free rfl (by simp) (if_neg (by omega))
  · have calm := setSupply_calm { s.supply with gap := gap } s
    have accepted : perform (.setMotion gap) s = ({ s with supply := { s.supply with gap := gap } }, .done []) := by
      rw [← supplyTest_of_empty (s := { s with supply := { s.supply with gap := gap } }) hwait]
      exact if_pos below
    refine ⟨_, congrArg Host.Outcome.next (submit_of_within free (by simp) accepted calm.toWithin), calm.answered, rfl,
      (calm.mono (cs := [.supply, .desk]) (by decide)).touched (by decide)⟩

end Sys2Proof.Machine
end

section
/-! SUPPORT. The requests to the berths: SetBerth (R78) and the berth commands (R85, R92, R99 to R102). -/

namespace Sys2Proof.Machine

open Config

section
variable {s t : State} {i : Idx4} {bs : List Block}

/-! ### SetBerth (R78) -/

theorem cycleNotice_track (i : Idx4) (n : Nat) (s : State) : (cycleNotice i false n s).track =
    { s.track with step := (cycleNotice i false n s).track.step,
                   indexCommand := (cycleNotice i false n s).track.indexCommand } := by
  simp [cycleNotice, indexTest]
  split <;> rfl

/-- The settings in place: the berth's state and mode stay, and a cycle that Pass makes needless is complete (R78). -/
theorem placeSettings_acts (i : Idx4) (set : BerthSettings) (s : State) :
    ((placeSettings i set s).berth i).settings = set ∧
      ((placeSettings i set s).berth i).state = (s.berth i).state ∧
      ((placeSettings i set s).berth i).mode = (s.berth i).mode ∧
      (∀ j, j ≠ i → (placeSettings i set s).berth j = s.berth j) ∧
      ((s.berth i).state = .locked → (s.berth i).occupied = true → set.role = .pass →
        ((placeSettings i set s).berth i).cycleComplete = true ∨ (s.berth i).settings.role = .pass) ∧
      (placeSettings i set s).track = { s.track with
        step := (placeSettings i set s).track.step, indexCommand := (placeSettings i set s).track.indexCommand } ∧
      Calm [.track, .berths] s (placeSettings i set s) := by
  have other (b : Berth) (j : Idx4) (hne : j ≠ i) : (s.setBerth i b).berth j = s.berth j := by
    rw [State.berth_eq, State.setBerth, Quad.get_set_ne _ _ hne, State.berth_eq]
  unfold placeSettings
  simp only []
  split
  · rename_i passes
    have calm (u : State) := cycleNotice_calm i false 0 u
    have berth (u : State) (j : Idx4) : (cycleNotice i false 0 u).berth j = u.berth j := by
      rw [State.berth_eq, (calm u).berths, State.berth_eq]
    simp only [berth, setBerth_berth_same]
    refine ⟨trivial, trivial, trivial, fun j hne => other _ j hne, fun _ _ _ => .inl trivial, cycleNotice_track i 0 _,
      ((setBerth_calm s i _).mono (by decide)).andThen (calm _) (by decide)⟩
  · rename_i stays
    simp only [setBerth_berth_same]
    refine ⟨trivial, trivial, trivial, fun j hne => other _ j hne, fun locked occupied pass => ?_, rfl,
      (setBerth_calm s i _).mono (by decide)⟩
    by_contra incomplete
    simp_all

end

/-- Settles O35, by the tests of R78 in their order. -/
theorem berthSettingsAreTaken : Obligations.BerthSettingsAreTaken := by
  intro tag i role r s free hrole
  refine ⟨fun range notParked notLocked notFault => ?_, fun range => ?_, fun range state => ?_⟩
  · refine run_refused tag free rfl (by simp) ?_
    simp [perform, doSetBerth, idxOf?_idxNumber, hrole, range, notParked, notLocked, notFault]
  · refine run_refused tag free rfl (by simp) ?_
    simp [perform, doSetBerth, idxOf?_idxNumber, hrole, range]
  · have accepted : perform (.setBerth (idxNumber i) r) s = (placeSettings i (berthSettings role r) s, .done []) := by
      simp only [perform, doSetBerth, idxOf?_idxNumber, hrole, range, if_pos state]
      rfl
    obtain ⟨settings, state', mode, others, pass, track, calm⟩ := placeSettings_acts i (berthSettings role r) s
    exact ⟨_, congrArg Host.Outcome.next (submit_of_within free (by simp) accepted calm.toWithin), calm.answered, settings,
      state', mode, others, pass, track, (calm.mono (cs := [.track, .berths, .desk]) (by decide)).touched (by decide)⟩

end Sys2Proof.Machine
end

section
/-! SUPPORT. The berth commands of Manual mode and those that do not need it (R85, R92, R99 to R102), and the two stop
inputs (R16, R17). -/

namespace Sys2Proof.Machine

open Config

section
variable {s t : State} {i : Idx4} {tag : Byte} {bs : List Block}

/-! ### The tests of R99 -/

/-- A berth command that its berth may take: it is in neither Parked nor Homing, and its mode, if it carries one, is
one of the two. -/
theorem perform_berthCommand {n mode : Nat} {c : BerthCommand} (hc : berthCommandOf? n = some c)
    (hm : ¬ (c = .setMode ∧ modeOf? mode = none)) (hs : ¬ ((s.berth i).state = .parked ∨ (s.berth i).state = .homing)) :
    perform (.berthCommand (idxNumber i) n mode) s = berthCommand i c (modeOf? mode) s := by
  simp only [perform, doBerthCommand, idxOf?_idxNumber, hc, if_neg hm, if_neg hs]

theorem submit_berthCommand (free : DeskFree s) {n mode : Nat} {c : BerthCommand} (hc : berthCommandOf? n = some c)
    (hm : ¬ (c = .setMode ∧ modeOf? mode = none)) (hs : ¬ ((s.berth i).state = .parked ∨ (s.berth i).state = .homing))
    (h : berthCommand i c (modeOf? mode) s = done t) (w : Within bs s t) :
    submit tag (.berthCommand (idxNumber i) n mode) s =
      withReply tag (.berthCommand (idxNumber i) n mode) (.done []) t :=
  submit_of_within free (by simp) ((perform_berthCommand hc hm hs).trans h) w

/-- In Parked and Homing every legal berth command is refused STATE. -/
theorem berthCommand_refused (free : DeskFree s) {n : Nat} {c : BerthCommand} {cmd : Instr}
    (hexec : exec cmd s = .next (submit tag (.berthCommand (idxNumber i) n 0) s)) (hc : berthCommandOf? n = some c)
    (hs : (s.berth i).state = .parked ∨ (s.berth i).state = .homing) :
    Refused cmd tag (.berthCommand (idxNumber i) n 0) .state s := by
  refine run_refused tag free hexec (by simp) ?_
  simp [perform, doBerthCommand, hc, hs, modeOf?]

/-! ### Lock, HoldOpen and the withdrawal of a request (R93, R100, R101) -/

theorem withdrawRequest_calm (i : Idx4) (s : State) : Calm [.supply] s (withdrawRequest i s) := setSupply_calm _ s

/-- A berth changed with its waiting request withdrawn. -/
theorem changeWithdrawn_calm (i : Idx4) (b : Berth) (s : State) :
    Calm [.berths, .supply, .line, .desk] s (changeBerth i b (withdrawRequest i s)) :=
  ((withdrawRequest_calm i s).mono (by decide)).andThen (changeBerth_calm _ _ _) (by decide)

theorem startLocking_open (h : (s.berth i).senses.lockConfirm = false) : startLocking i s = changeBerth i
    { s.berth i with state := .locking, timer := some (.lock, (s.berth i).settings.tLock) } s := by
  simp [startLocking, h]

theorem clearHoldOpen_acts (i : Idx4) (s : State) :
    (clearHoldOpen i s).berth i = { s.berth i with holdOpen := false } ∧
      Calm [.berths, .line, .desk] s (clearHoldOpen i s) := by
  unfold clearHoldOpen
  split
  · exact ⟨changeBerth_berth_same .., changeBerth_calm _ _ _⟩
  · rename_i cleared
    refine ⟨?_, .refl _ _⟩
    have : (s.berth i).holdOpen = false := by simpa using cleared
    rw [← this]

/-- A Close asked for with the hold given up, no other berth waiting and the doors free. -/
theorem closeAsked_acts (hwait : s.supply.wait = []) (clear : (s.berth i).senses.obstruction = false) :
    (((request i .closing (clearHoldOpen i s)).berth i = { s.berth i with holdOpen := false } ∧
        (request i .closing (clearHoldOpen i s)).supply.wait = [(i, .closing)]) ∨
      ((request i .closing (clearHoldOpen i s)).berth i = { s.berth i with holdOpen := false }.moved .closing ∧
        (request i .closing (clearHoldOpen i s)).supply.wait = [])) ∧
      Calm [.berths, .supply, .line, .desk] s (request i .closing (clearHoldOpen i s)) := by
  obtain ⟨berth, calm⟩ := clearHoldOpen_acts i s
  generalize clearHoldOpen i s = u at *
  have wait : u.supply.wait = [] := by rw [calm.supply, hwait]
  have alone := request_alone_berth (m := .closing) wait (.inr (by rw [berth]; exact clear))
  rw [berth] at alone
  exact ⟨alone, (calm.mono (by decide)).trans (request_alone wait (.inr (by rw [berth]; exact clear))).2⟩

end

/-- Settles O36, by the command. -/
theorem manualCommandsAct : Obligations.ManualCommandsAct := by
  intro tag i s free
  refine ⟨fun state manual idle step awake => ?_, fun state step => ?_, fun state manual hwait => ?_,
    fun state manual hwait clear => ?_, fun state manual open_ => ?_, fun state => ?_⟩
  · have accepted : berthCommand i .unlock (modeOf? 0) s = done (changeBerth i (s.berth i).unlocking s) := by
      simp [berthCommand, commandUnlock, state, manual, idle, step, awake]
    have calm := changeBerth_calm s i (s.berth i).unlocking
    exact ⟨_, congrArg Host.Outcome.next (submit_berthCommand free rfl (by decide) (by simp [state]) accepted
      calm.toWithin), calm.answered, by simp [Berth.unlocking], calm.touched (by decide), calm.lineQuiet⟩
  · refine run_refused tag free rfl (by simp) ?_
    rw [perform_berthCommand (c := .unlock) rfl (by decide) (by simp [state])]
    have moving : s.track.step ≠ none := Option.isSome_iff_ne_none.mp step
    simp [berthCommand, commandUnlock, moving]
  · have accepted : berthCommand i .opening (modeOf? 0) s = done (request i .opening s) := by
      simp [berthCommand, commandOpen, state, manual]
    obtain ⟨outcome, calm⟩ := request_alone (i := i) (m := .opening) hwait (.inl rfl)
    refine ⟨_, congrArg Host.Outcome.next (submit_berthCommand free rfl (by decide)
      (by rcases state with h | h <;> simp [h]) accepted calm.toWithin), calm.answered, ?_, calm.touched (by decide),
      calm.lineQuiet⟩
    rcases outcome with waits | ⟨berths, supply⟩
    · exact .inl waits
    · have moved : (request i .opening s).berth i = (s.berth i).moved .opening := by
        rw [State.berth_eq, berths, Quad.get_set_same]
      refine .inr ⟨?_, ?_, ?_, congrArg Supply.wait supply⟩
      · exact congrArg Berth.state moved
      · exact congrArg Berth.grant moved
      · exact congrArg Berth.doorsRan moved
  · have accepted : berthCommand i .closing (modeOf? 0) s = done (request i .closing (clearHoldOpen i s)) := by
      simp [berthCommand, commandClose, state, manual]
    obtain ⟨outcome, calm⟩ := closeAsked_acts hwait clear
    generalize request i .closing (clearHoldOpen i s) = t at *
    refine ⟨_, congrArg Host.Outcome.next (submit_berthCommand free rfl (by decide) (by simp [state]) accepted
      calm.toWithin), calm.answered, ?_, ?_, calm.touched (by decide), calm.lineQuiet⟩
    · rcases outcome with ⟨berth, -⟩ | ⟨berth, -⟩ <;> exact congrArg Berth.holdOpen berth
    · rcases outcome with ⟨berth, wait⟩ | ⟨berth, wait⟩
      · exact .inl ⟨(congrArg Berth.state berth).trans state, wait⟩
      · exact .inr ⟨congrArg Berth.state berth, congrArg Berth.grant berth, wait⟩
  · have accepted : berthCommand i .lock (modeOf? 0) s = done (changeBerth i
        { s.berth i with state := .locking, timer := some (.lock, (s.berth i).settings.tLock) }
        (withdrawRequest i s)) := by
      have locking := startLocking_open (i := i) (s := withdrawRequest i s) open_
      simp only [berthCommand, commandLock, if_pos (And.intro state manual), locking]
      rfl
    have calm := changeWithdrawn_calm i
      { s.berth i with state := .locking, timer := some (.lock, (s.berth i).settings.tLock) } s
    exact ⟨_, congrArg Host.Outcome.next (submit_berthCommand free rfl (by decide)
      (by rcases state with h | h <;> simp [h]) accepted calm.toWithin), calm.answered, by simp [withdrawRequest],
      by simp [withdrawRequest, withdraw], calm.touched (by decide), calm.lineQuiet⟩
  · exact ⟨berthCommand_refused free rfl rfl state, berthCommand_refused free rfl rfl state,
      berthCommand_refused free rfl rfl state, berthCommand_refused free rfl rfl state⟩

/-- Settles O37, by the command. -/
theorem attendedCommandsAct : Obligations.AttendedCommandsAct := by
  intro tag i s free
  refine ⟨fun state closed => ?_, fun state closed => ?_, fun state hwait clear => ?_, fun state => ?_,
    fun state hwait => ?_, fun state occupied incomplete => ?_, fun state sensed => ?_, fun state clear parked => ?_,
    fun state clear moving free_ hwait => ?_, fun m state same => ?_, fun m mode state hm other => ?_⟩
  · have accepted : berthCommand i .holdOpen (modeOf? 0) s =
        done (changeBerth i { s.berth i with holdOpen := true, timer := none } (withdrawRequest i s)) := by
      simp [berthCommand, commandHoldOpen, state, closed]
    have calm := changeWithdrawn_calm i { s.berth i with holdOpen := true, timer := none } s
    exact ⟨_, congrArg Host.Outcome.next (submit_berthCommand free rfl (by decide) (by simp [state]) accepted
      calm.toWithin), calm.answered, by simp [withdrawRequest], by simp [withdrawRequest, withdraw],
      calm.touched (by decide), calm.lineQuiet⟩
  · have accepted : berthCommand i .holdOpen (modeOf? 0) s =
        done (changeBerth i { s.berth i with holdOpen := true } s) := by
      simp [berthCommand, commandHoldOpen, state, closed]
    have calm := changeBerth_calm s i { s.berth i with holdOpen := true }
    exact ⟨_, congrArg Host.Outcome.next (submit_berthCommand free rfl (by decide) (by simp [state]) accepted
      calm.toWithin), calm.answered, by simp, calm.touched (by decide), calm.lineQuiet⟩
  · have accepted : berthCommand i .endDwell (modeOf? 0) s =
        done (request i .closing (clearHoldOpen i (s.setBerth i { s.berth i with timer := none }))) := by
      simp [berthCommand, commandEndDwell, state, waits, hwait]
    obtain ⟨outcome, calm⟩ := closeAsked_acts (i := i) (s := s.setBerth i { s.berth i with timer := none }) hwait
      (by simpa using clear)
    have event := (((setBerth_calm s i { s.berth i with timer := none }).mono (by decide)).trans calm).mono
      (cs := doorBlocks) (by decide)
    rw [setBerth_berth_same] at outcome
    generalize request i .closing (clearHoldOpen i (s.setBerth i { s.berth i with timer := none })) = t at *
    refine ⟨_, congrArg Host.Outcome.next (submit_berthCommand free rfl (by decide) (by simp [state]) accepted
      event.toWithin), event.answered, event.touched (by decide), ?_, ?_⟩
    · rcases outcome with ⟨berth, -⟩ | ⟨berth, -⟩ <;> exact congrArg Berth.holdOpen berth
    · rcases outcome with ⟨berth, wait⟩ | ⟨berth, wait⟩
      · exact .inl ⟨(congrArg Berth.state berth).trans state, congrArg Berth.timer berth, wait⟩
      · exact .inr ⟨congrArg Berth.state berth, congrArg Berth.grant berth, wait⟩
  · have accepted : berthCommand i .reopen (modeOf? 0) s = done (reverse i s) := by
      simp [berthCommand, commandReopen, state]
    have event := reverse_doorEvent i s
    have berth := reverse_berth i s
    generalize reverse i s = t at *
    exact ⟨_, congrArg Host.Outcome.next (submit_berthCommand free rfl (by decide) (by simp [state]) accepted
      event.toWithin), event.answered, event.touched (by decide), congrArg Berth.state berth,
      (congrArg Berth.grant berth).trans rfl, congrArg Berth.reopens berth⟩
  · have accepted : berthCommand i .reopen (modeOf? 0) s = done (request i .opening (countReversal i s)) := by
      simp [berthCommand, commandReopen, state]
    have event := (countReversal_doorEvent i s).trans (request_doorEvent i .opening _)
    have berth := countReversal_berth (i := i) (s := s) (by simp [state])
    have supply := countReversal_supply (i := i) (s := s) (by simp [state])
    generalize countReversal i s = u at *
    have outcome := request_alone_berth (i := i) (m := .opening) (s := u) (by rw [supply, hwait]) (.inl rfl)
    rw [berth] at outcome
    generalize request i .opening u = t at *
    refine ⟨_, congrArg Host.Outcome.next (submit_berthCommand free rfl (by decide) (by simp [state]) accepted
      event.toWithin), event.answered, event.touched (by decide), ?_, ?_⟩
    · rcases outcome with ⟨berth, -⟩ | ⟨berth, -⟩ <;> exact congrArg Berth.reopens berth
    · rcases outcome with ⟨berth, wait⟩ | ⟨berth, -⟩
      · exact .inl ⟨(congrArg Berth.state berth).trans state, wait⟩
      · exact .inr ⟨congrArg Berth.state berth, congrArg Berth.grant berth⟩
  · have accepted : berthCommand i .skipCycle (modeOf? 0) s =
        done (cycleNotice i false 0 (s.setBerth i { s.berth i with cycleComplete := true })) := by
      simp [berthCommand, commandSkipCycle, state, occupied, incomplete]
    have notice := cycleNotice_calm i false 0 (s.setBerth i { s.berth i with cycleComplete := true })
    have calm := (((setBerth_calm s i { s.berth i with cycleComplete := true }).mono
      (cs := [.track, .berths, .desk]) (by decide)).andThen notice (by decide))
    have track := cycleNotice_track i 0 (s.setBerth i { s.berth i with cycleComplete := true })
    exact ⟨_, congrArg Host.Outcome.next (submit_berthCommand free rfl (by decide) (by simp [state]) accepted
      calm.toWithin), calm.answered, notice.berths, track, calm.touched (by decide)⟩
  · refine run_refused tag free rfl (by simp) ?_
    rw [perform_berthCommand (c := .clearFault) rfl (by decide) (by simp [state])]
    simp [berthCommand, commandClearFault, state, sensed]
  · have accepted : berthCommand i .clearFault (modeOf? 0) s =
        done (changeBerth i { s.berth i with state := .parked, reason := .none } s) := by
      simp [berthCommand, commandClearFault, state, clear, parked]
    have calm := changeBerth_calm s i { s.berth i with state := .parked, reason := .none }
    exact ⟨_, congrArg Host.Outcome.next (submit_berthCommand free rfl (by decide) (by simp [state]) accepted
      calm.toWithin), calm.answered, by simp, calm.touched (by decide), calm.lineQuiet⟩
  · have accepted : berthCommand i .clearFault (modeOf? 0) s = done (request i .homing (changeBerth i
        { s.berth i with state := .homing, reason := .none, homingRun := 0 } s)) := by
      simp [berthCommand, commandClearFault, state, clear, moving]
    have event := (changeBerth_doorEvent i { s.berth i with state := .homing, reason := .none, homingRun := 0 } s).trans
      (request_doorEvent i .homing _)
    have outcome := request_alone_berth (i := i) (m := .homing)
      (s := changeBerth i { s.berth i with state := .homing, reason := .none, homingRun := 0 } s)
      (by rw [changeBerth_supply, hwait]) (.inr (by simpa using free_))
    rw [changeBerth_berth_same] at outcome
    generalize request i .homing (changeBerth i
      { s.berth i with state := .homing, reason := .none, homingRun := 0 } s) = t at *
    refine ⟨_, congrArg Host.Outcome.next (submit_berthCommand free rfl (by decide) (by simp [state]) accepted
      event.toWithin), event.answered, event.touched (by decide), ?_⟩
    rcases outcome with ⟨berth, -⟩ | ⟨berth, -⟩ <;>
      exact ⟨congrArg Berth.state berth, congrArg Berth.reason berth⟩
  · have accepted : berthCommand i .setMode (modeOf? m) s = done s := by
      simp [berthCommand, commandSetMode, same, state]
    exact congrArg Host.Outcome.next (submit_berthCommand free rfl (by simp [same]) (by simp [state]) accepted
      (Within.refl [] s))
  · have accepted : berthCommand i .setMode (modeOf? m) s =
        done (cycleTest i (changeBerth i { s.berth i with mode := mode } s)) := by
      simp [berthCommand, commandSetMode, hm, state, Ne.symm other]
    have calm := (changeBerth_calm s i { s.berth i with mode := mode }).trans
      ((cycleTest_calm (changeBerth i { s.berth i with mode := mode } s) i))
    have cycled := cycles_cycleTest i (changeBerth i { s.berth i with mode := mode } s) i
    rw [changeBerth_berth_same] at cycled
    generalize cycleTest i (changeBerth i { s.berth i with mode := mode } s) = t at *
    refine ⟨_, congrArg Host.Outcome.next (submit_berthCommand free rfl (by simp [hm]) (by simp [state]) accepted
      calm.toWithin), calm.answered, ?_, ?_, calm.touched (by decide), calm.lineQuiet⟩
    · rcases cycled with same | ⟨-, started⟩
      · exact congrArg Berth.mode same
      · exact congrArg Berth.mode started
    · rcases cycled with same | ⟨-, started⟩
      · exact .inl ((congrArg Berth.state same).trans state)
      · exact .inr (congrArg Berth.state started)

/-! ### The stop inputs (R16, R17) -/

/-- The end of the freeze: the motion supply, the due cycles and the index start (R96). -/
theorem thaw_doorEvent (s : State) : DoorEvent s (thaw s) :=
  ((supplyTest_doorEvent s).trans (cycleTests_calm _).toWithin.doorEvent).trans (indexTest_doorEvent _)

/-- An input's level that changes nothing in the demands, and then a demand raised. -/
theorem raise_after_level (src : Source) (s : State) (r : RunControl) (demands : r.demands = s.run.demands)
    (state : r.state = s.run.state) : Raised src s (raise src { s with run := r }) ∧
      Within raiseBlocks s (raise src { s with run := r }) := by
  refine ⟨?_, Within.trans ⟨by simp [touches_iff, raiseBlocks], by simp [DeskQuiet]⟩ (raise_within _ src)⟩
  have raised := (raise_run src { s with run := r }).1
  unfold Raised at raised ⊢
  rw [← demands, ← state]
  exact raised

/-- Settles O20, by the change of each input. -/
theorem stopInputsRaiseTheirDemands : Obligations.StopInputsRaiseTheirDemands := by
  intro s
  refine ⟨fun low => ?_, fun high => ?_, fun low => ?_, fun high => ?_, fun b same => ?_, fun b same => ?_⟩
  · have acts : platformInput true s = raise .platformStop { s with run := { s.run with platformStop := true } } := by
      simp [platformInput, low]
    obtain ⟨raised, within⟩ := raise_after_level .platformStop s { s.run with platformStop := true } rfl rfl
    have level := (raise_run .platformStop { s with run := { s.run with platformStop := true } }).2.1
    rw [← acts] at raised within level
    exact ⟨_, rfl, raised, level, within.desk, within.touches⟩
  · have acts : platformInput false s = thaw { s with run := { s.run with platformStop := false } } := by
      simp [platformInput, high]
    have event := thaw_doorEvent { s with run := { s.run with platformStop := false } }
    have level : (thaw { s with run := { s.run with platformStop := false } }).run.platformStop = false := event.freeze
    rw [← acts] at event level
    refine ⟨_, rfl, level, event.demands, ?_⟩
    refine Touches.trans (t := { s with run := { s.run with platformStop := false } }) (by simp [touches_iff])
      (event.touches.mono fun b hb => ?_)
    exact (by decide : ∀ b ∈ doorBlocks, b ∈ [Block.run, .gov, .track, .berths, .supply, .counters, .line, .desk]) b hb
  · have acts : loopInput true s = raise .emergencyLoop { s with run := { s.run with loopOpen := true } } := by
      simp [loopInput, low]
    obtain ⟨raised, within⟩ := raise_after_level .emergencyLoop s { s.run with loopOpen := true } rfl rfl
    have level := (raise_run .emergencyLoop { s with run := { s.run with loopOpen := true } }).2.2
    rw [← acts] at raised within level
    exact ⟨_, rfl, raised, level, within.desk, within.touches⟩
  · exact congrArg Host.Outcome.next (by simp [loopInput, high])
  · exact congrArg Host.Outcome.next (if_pos same.symm)
  · exact congrArg Host.Outcome.next (if_pos same.symm)

end Sys2Proof.Machine
end

section
/-! SUPPORT. What the arrivals of a window end leave of run control and of the reference: the run state stands, or a
demand moves it (R9, R11); target, rollback distance and the demands Rollback and Creep are the governor's own. -/

namespace Sys2Proof.Machine

open Config

/-- What no arrival moves: the target and what limits it, the rollback distance (R24, R29). -/
def Governor.aimed (g : Governor) : Nat × List Ceiling × Nat := (g.target, g.limiting, g.rollback)

/-- What only a transition moves: the reference, the creep base, the brake (R31, R32). -/
def Governor.held (g : Governor) : Nat × Option Travel × Bool := (g.reference, g.creepBase, g.brakeReleased)

/-- Run control has stood, or a demand has tripped the part or begun its stopping (R9, R11). -/
structure Course (s t : State) : Prop where
  aimed : t.gov.aimed = s.gov.aimed
  kept : s.run.demands ⊆ t.run.demands
  moves : (t.run.state = s.run.state ∧ t.run.quiet = s.run.quiet ∧ t.gov.held = s.gov.held) ∨
    (t.run.demands ≠ [] ∧ ((t.run.state = .tripped ∧ t.gov.reference = 0) ∨
      (t.run.state = .stopping ∧ (s.run.state = .starting ∨ s.run.state = .running) ∧
        t.gov.reference = s.gov.reference)))

/-- The demands that their own tests alone raise: those of a window end (R24, R26), and that of records passed over
(R112, R116). -/
abbrev ownDemand (x : Source) : Prop := x = .rollback ∨ x = .creep ∨ x = .order

/-- An arrival that is none of those tests: run control's course, with their demands as they were. -/
structure Settles (s t : State) : Prop extends Course s t where
  own : ∀ x, ownDemand x → (x ∈ t.run.demands ↔ x ∈ s.run.demands)

section
variable {s t u : State}

theorem Governor.held_eq_iff {g h : Governor} : g.held = h.held ↔
    g.reference = h.reference ∧ g.creepBase = h.creepBase ∧ g.brakeReleased = h.brakeReleased := by
  simp [Governor.held]

theorem Governor.aimed_eq_iff {g h : Governor} : g.aimed = h.aimed ↔
    g.target = h.target ∧ g.limiting = h.limiting ∧ g.rollback = h.rollback := by
  simp [Governor.aimed]

theorem ne_nil_of_subset {l m : List Source} (sub : l ⊆ m) (h : l ≠ []) : m ≠ [] := by
  rintro rfl
  exact h (List.eq_nil_of_subset_nil sub)

theorem Course.refl (s : State) : Course s s := ⟨rfl, List.Subset.refl _, .inl ⟨rfl, rfl, rfl⟩⟩

theorem Course.trans (h : Course s t) (k : Course t u) : Course s u := by
  refine ⟨k.aimed.trans h.aimed, List.Subset.trans h.kept k.kept, ?_⟩
  rcases k.moves with ⟨state, quiet, held⟩ | ⟨some, tripped | ⟨stopping, moving, reference⟩⟩
  · rcases h.moves with ⟨state', quiet', held'⟩ | ⟨some, ends⟩
    · exact .inl ⟨state.trans state', quiet.trans quiet', held.trans held'⟩
    · refine .inr ⟨ne_nil_of_subset k.kept some, ?_⟩
      rw [state, (Governor.held_eq_iff.mp held).1]
      exact ends
  · exact .inr ⟨some, .inl tripped⟩
  · rcases h.moves with ⟨state', -, held'⟩ | ⟨-, ⟨tripped, -⟩ | ⟨stopped, -⟩⟩
    · exact .inr ⟨some, .inr ⟨stopping, state' ▸ moving, reference.trans (Governor.held_eq_iff.mp held').1⟩⟩
    · simp [tripped] at moving
    · simp [stopped] at moving

theorem Settles.refl (s : State) : Settles s s := ⟨.refl s, fun _ _ => Iff.rfl⟩

theorem Settles.trans (h : Settles s t) (k : Settles t u) : Settles s u :=
  ⟨h.toCourse.trans k.toCourse, fun x hx => (k.own x hx).trans (h.own x hx)⟩

/-- An operation that leaves run control, and of the governor the ceilings and the drive exchange at most. -/
theorem Settles.of_same (h : Settles s t) (run : u.run = t.run) (aimed : u.gov.aimed = t.gov.aimed)
    (held : u.gov.held = t.gov.held) : Settles s u :=
  h.trans ⟨⟨aimed, by rw [run]; exact List.Subset.refl _, .inl ⟨by rw [run], by rw [run], held⟩⟩,
    fun _ _ => by rw [run]⟩

theorem Settles.same (h : Settles s t) (run : u.run = t.run) (gov : u.gov = t.gov) : Settles s u :=
  h.of_same run (by rw [gov]) (by rw [gov])

/-! ### Demands (R9, R11, R14) -/

theorem Governor.enter_aimed (n : RunState) (g : Governor) : (g.enter n).aimed = g.aimed := by cases n <;> rfl

/-- The transition that a demand requires: to Tripped, or from motion to Stopping (R9, R11). -/
theorem demandTransition_course (src : Source) (s : State) : demandTransition src s = s ∨
    demandTransition src s = enterState .tripped (.demand src) s ∨
      ((s.run.state = .starting ∨ s.run.state = .running) ∧
        demandTransition src s = enterState .stopping (.demand src) s) := by
  unfold demandTransition
  split
  iterate 4 exact .inr (.inl rfl)
  iterate 2 exact .inr (.inr ⟨by simp_all, rfl⟩)
  exact .inl rfl

theorem raise_course (src : Source) (s : State) : Course s (raise src s) := by
  have kept : s.run.demands ⊆ (raise src s).run.demands := fun x hx => (mem_raise x src s).mpr (.inr hx)
  have some : (raise src s).run.demands ≠ [] := List.ne_nil_of_mem ((mem_raise src src s).mpr (.inl rfl))
  unfold raise at *
  split
  · exact .refl s
  · rename_i fresh
    rw [if_neg fresh] at kept some
    have transition := demandTransition_course src (queueReport (.stopDemand src src.cls)
      { s with run := { s.run with demands := addSource src s.run.demands } })
    generalize demandTransition src (queueReport (.stopDemand src src.cls)
      { s with run := { s.run with demands := addSource src s.run.demands } }) = t at *
    rcases transition with same | tripped | ⟨moving, stopped⟩
    · refine ⟨?_, kept, .inl ?_⟩ <;> rw [same] <;> simp
    · have run := enterState_run_gov (n := .tripped) (by decide) (.demand src) (queueReport (.stopDemand src src.cls)
        { s with run := { s.run with demands := addSource src s.run.demands } })
      rw [← tripped] at run
      refine ⟨?_, kept, .inr ⟨some, .inl ?_⟩⟩
      · simp [run, Governor.enter_aimed]
      · simp only [giveClass_keeps, run]
        exact ⟨trivial, rfl⟩
    · have run := enterState_run_gov (n := .stopping) (by decide) (.demand src) (queueReport (.stopDemand src src.cls)
        { s with run := { s.run with demands := addSource src s.run.demands } })
      rw [← stopped] at run
      refine ⟨?_, kept, .inr ⟨some, .inr ?_⟩⟩
      · simp [run, Governor.enter_aimed]
      · simp only [giveClass_keeps, run]
        exact ⟨trivial, by simpa using moving, by simp [Governor.enter]⟩

theorem raiseAll_course (l : List Source) (s : State) : Course s (raiseAll l s) := by
  induction l generalizing s with
  | nil => exact .refl s
  | cons x xs ih => exact (raise_course x s).trans (ih _)

protected theorem Settles.raise {src : Source} (h : Settles s t) (other : ¬ ownDemand src := by decide) :
    Settles s (raise src t) := by
  refine h.trans ⟨raise_course src t, fun x hx => ?_⟩
  rw [mem_raise]
  exact or_iff_right fun e => other (e ▸ hx)

/-! ### The operations -/

protected theorem Settles.queueReport {r : Report} (h : Settles s t) : Settles s (queueReport r t) :=
  h.same (by simp) (by simp)

protected theorem Settles.offerGovernor (h : Settles s t) : Settles s (offerGovernor t) := h.same (by simp) (by simp)

protected theorem Settles.setCeiling {c : Ceiling} {on : Bool} (h : Settles s t) : Settles s (setCeiling c on t) := by
  refine h.of_same (by simp) ?_ ?_ <;> rw [setCeiling_gov] <;> cases c <;> rfl

protected theorem Settles.fireAction {a : CounterAction} (h : Settles s t) : Settles s (fireAction a t) := by
  cases a
  · exact h
  · exact h.setCeiling
  · exact h.raise

protected theorem Settles.counterTake {i : Idx4} {ev : CounterEvent} (h : Settles s t) :
    Settles s (counterTake i ev t) := by
  unfold Machine.counterTake
  split
  · split
    · exact Settles.fireAction (Settles.queueReport (h.same (by rfl) (by rfl)))
    · exact h.same (by rfl) (by rfl)
  · exact h

protected theorem Settles.offerEvent {ev : CounterEvent} (h : Settles s t) : Settles s (offerEvent ev t) :=
  h.counterTake.counterTake.counterTake.counterTake

protected theorem Settles.countersTravel (h : Settles s t) : Settles s (countersTravel t) := by
  unfold Machine.countersTravel
  simp only []
  split
  · exact Settles.offerEvent (h.same (by rfl) (by rfl))
  · exact h.same (by rfl) (by rfl)

protected theorem Settles.offerHits {ms : List WatchMatch} (h : Settles s t) : Settles s (offerHits ms t) := by
  induction ms generalizing t with
  | nil => exact h
  | cons m ms ih => exact ih h.offerEvent

protected theorem Settles.stopMatches {ms : List WatchMatch} (h : Settles s t) : Settles s (stopMatches ms t) := by
  induction ms generalizing t with
  | nil => exact h
  | cons m ms ih =>
    unfold Machine.stopMatches
    split
    · exact ih (Settles.raise (h.same (by rfl) (by rfl)))
    · exact ih h

protected theorem Settles.occasion {ms : List WatchMatch} (h : Settles s t) : Settles s (occasion ms t) := by
  unfold Machine.occasion
  split
  · exact (Settles.queueReport (h.same (by rfl) (by rfl))).offerHits.stopMatches
  · exact h

protected theorem Settles.watchesTravel (h : Settles s t) : Settles s (watchesTravel t) :=
  Settles.setCeiling ((h.occasion (ms := carrierMatches t)).same (by rfl) (by rfl))

protected theorem Settles.reportOverdue {rs : List RosterRec} (h : Settles s t) : Settles s (reportOverdue rs t) := by
  induction rs generalizing t with
  | nil => exact h
  | cons r rs ih => exact ih h.offerEvent.queueReport

protected theorem Settles.rosterTravel (h : Settles s t) : Settles s (rosterTravel t) := by
  have reported : ∀ rs fs, Settles s (reportOverdue rs (rosterWith fs t)) := fun rs fs =>
    Settles.reportOverdue (h.same (by rfl) (by rfl))
  unfold Machine.rosterTravel
  simp only []
  split
  · exact (reported _ _).raise.watchesTravel
  · exact (reported _ _).watchesTravel

protected theorem Settles.gateTest (h : Settles s t) : Settles s (gateTest t) := by
  unfold Machine.gateTest
  split
  · split
    · rename_i r _ _
      refine Settles.same (t := Machine.queueReport _ _) ?_ (indexTest_keeps _).1 (indexTest_keeps _).2.1
      refine Settles.queueReport (Settles.offerEvent ?_)
      exact h.same (by simp) (by simp)
    · exact h
  · exact h

protected theorem Settles.completeLaunch {cls : GripClass} {r : CarrierRec} (h : Settles s t) :
    Settles s (completeLaunch cls r t) := Settles.gateTest (h.same (by rfl) (by rfl))

protected theorem Settles.endUntested {raises : Bool} {r : CarrierRec} (h : Settles s t) :
    Settles s (endUntested raises r t) := by
  unfold Machine.endUntested
  simp only []
  split
  · exact (Settles.queueReport (Settles.raise (h.same (by rfl) (by rfl)))).completeLaunch
  · exact (Settles.queueReport (h.same (by rfl) (by rfl))).completeLaunch

protected theorem Settles.trackTravel (h : Settles s t) : Settles s (trackTravel t) := by
  have marked : Settles s (markLimit t) := by
    unfold markLimit
    split
    · exact h.same (by rfl) (by rfl)
    · exact h
  unfold Machine.trackTravel lostLaunchTest
  split
  · split
    · exact marked.endUntested.gateTest
    · exact marked.gateTest
  · exact marked.gateTest

theorem travelUpdate_settles (p : TravelUpdate) (s : State) : Settles s (travelUpdate p s) :=
  Settles.countersTravel (Settles.rosterTravel (Settles.trackTravel ((Settles.refl s).same (by rfl) (by rfl))))

end

/-! ### The window end as a course (R7, R10, R19, R30) -/

section
variable (s : State)

/-- A window end up to the demands of its stage 4, less those demands. -/
def windowExchanged (s : State) : State := driveExchange (offerTarget s.gov.target { s with gov := windowGov s })

theorem windowRaised_eq (s : State) :
    windowRaised s = raiseAll (s.gov.measure.alarms s.run.state s.gov.increment) (windowExchanged s) := rfl

theorem Governor.exchange_course (g : Governor) : g.exchange.aimed = g.aimed ∧ g.exchange.held = g.held := by
  unfold Governor.exchange
  simp only []
  split
  · exact ⟨rfl, rfl⟩
  · split <;> exact ⟨rfl, rfl⟩

theorem windowExchanged_settles : Settles { s with gov := windowGov s } (windowExchanged s) := by
  have offered : Settles { s with gov := windowGov s } (offerTarget s.gov.target { s with gov := windowGov s }) := by
    unfold offerTarget
    split
    · exact .refl _
    · exact (Settles.refl _).offerGovernor
  obtain ⟨aimed, held⟩ := (offerTarget s.gov.target { s with gov := windowGov s }).gov.exchange_course
  unfold windowExchanged driveExchange
  split
  · exact Settles.offerGovernor (offered.of_same rfl aimed held)
  · exact offered.of_same rfl aimed held

/-- The demands of stage 4 are in the set, and those that were. -/
theorem mem_windowRaised (x : Source) : x ∈ (windowRaised s).run.demands ↔
    x ∈ s.gov.measure.alarms s.run.state s.gov.increment ∨ x ∈ s.run.demands := by
  have run : (windowExchanged s).run = s.run := by
    unfold windowExchanged driveExchange offerTarget
    split <;> split <;> simp
  rw [windowRaised_eq, mem_raiseAll, run]

theorem windowRaised_course : Course { s with gov := windowGov s } (windowRaised s) :=
  (windowExchanged_settles s).toCourse.trans (raiseAll_course _ _)

/-- Run control's window result moves nothing that the governor aims at and no demand (R7, R10). -/
theorem windowResult_frame (s : State) : (windowResult s).gov.aimed = s.gov.aimed ∧
    s.run.demands ⊆ (windowResult s).run.demands ∧
    ∀ x, ownDemand x → (x ∈ (windowResult s).run.demands ↔ x ∈ s.run.demands) := by
  unfold windowResult
  simp only []
  split
  · split
    · have entered := enterState_run_gov (n := .running) (by decide) .referenceReached s
      have gated := (Settles.refl (enterState .running .referenceReached s)).gateTest
      unfold enterRunning
      refine ⟨gated.aimed.trans (by rw [entered.2, Governor.enter_aimed]), ?_, fun x hx => ?_⟩
      · exact List.Subset.trans (by rw [entered.1]; exact List.Subset.refl _) gated.kept
      · rw [gated.own x hx, entered.1]
    · exact ⟨rfl, List.Subset.refl _, fun _ _ => Iff.rfl⟩
  · split
    · split
      · unfold ropeAtRest
        rw [(enterState_run_gov (by decide) _ _).1, (enterState_run_gov (by decide) _ _).2, Governor.enter_aimed]
        exact ⟨rfl, List.Subset.refl _, fun _ _ => Iff.rfl⟩
      · exact ⟨rfl, List.Subset.refl _, fun _ _ => Iff.rfl⟩
    · exact ⟨rfl, List.Subset.refl _, fun _ _ => Iff.rfl⟩
  · exact ⟨rfl, List.Subset.refl _, fun _ _ => Iff.rfl⟩

/-- After the window result only arrivals come. -/
theorem windowEnd_settles : Settles (windowResult (windowRaised s)) (windowEnd s) := by
  rw [windowEnd_eq]
  refine Settles.trans (t := windowSettled s) ?_ (travelUpdate_settles _ _)
  unfold windowSettled
  split
  · exact (Settles.refl _).raise
  · exact .refl _

theorem windowEnd_aimed : (windowEnd s).gov.aimed = (windowGov s).aimed :=
  (windowEnd_settles s).aimed.trans ((windowResult_frame _).1.trans (windowRaised_course s).aimed)

theorem mem_windowEnd {x : Source} (own : ownDemand x) : x ∈ (windowEnd s).run.demands ↔
    x ∈ s.gov.measure.alarms s.run.state s.gov.increment ∨ x ∈ s.run.demands := by
  rw [(windowEnd_settles s).own x own, (windowResult_frame _).2.2 x own, mem_windowRaised]

end

end Sys2Proof.Machine
end

section
/-! SUPPORT. The ends of the supervision counts, the quiet windows, and the reference at a window end (R10, R24 to R30,
R35). -/

namespace Sys2Proof.Machine

open Config

section
variable {s t : State}

/-! ### The last windows of the counts (R10, R25, R27, R35) -/

/-- A governor edited, and then a demand raised. -/
theorem raise_after_gov (src : Source) (s : State) (g : Governor) :
    Raised src s (raise src { s with gov := g }) ∧ Within raiseBlocks s (raise src { s with gov := g }) :=
  ⟨(raise_run src { s with gov := g }).1,
    Within.trans ⟨by simp [touches_iff, raiseBlocks], by simp [DeskQuiet]⟩ (raise_within _ src)⟩

theorem raise_gov_counts (src : Source) (s : State) :
    (s.gov.overspeed = 0 → (raise src s).gov.overspeed = 0) ∧
      (s.gov.encoderLoss = 0 → (raise src s).gov.encoderLoss = 0) := by
  rcases raise_gov src s with h | ⟨n, h⟩
  · rw [h]
    exact ⟨id, id⟩
  · rw [h]
    cases n <;> simp [Governor.enter]

theorem quietReached_acts (state : s.run.state = .stopping) (reference : s.gov.reference = 0) (v : s.gov.v = 0)
    (count : 9 ≤ s.run.quiet) : quietReached s = enterState .stopped .ropeAtRest s := by
  have quiet : quietNow s = true := by simp [quietNow, state, reference, v]
  have last : decide (quietWindows ≤ s.run.quiet + 1) = true := decide_eq_true (by unfold quietWindows; omega)
  simp [quietReached, quiet, last, ropeAtRest]

theorem overspeedReached_acts (moving : s.run.state = .starting ∨ s.run.state = .running ∨ s.run.state = .stopping)
    (fast : (s.gov.reference : Int) + s.gov.settings.margin < s.gov.v) (count : 2 ≤ s.gov.overspeed) :
    overspeedReached s = raise .overspeed { s with gov := { s.gov with overspeed := 0 } } := by
  have moves : runMoves s.run.state = true := by rcases moving with h | h | h <;> simp [runMoves, h]
  have last : decide (overspeedWindows ≤ s.gov.overspeed + 1) = true :=
    decide_eq_true (by unfold overspeedWindows; omega)
  simp [overspeedReached, Governor.tooFast, moves, fast, last]

theorem encoderLossReached_acts (reference : 100 ≤ s.gov.reference) (pf : s.gov.pf = 0) (pb : s.gov.pb = 0)
    (count : 9 ≤ s.gov.encoderLoss) :
    encoderLossReached s = raise .encoderLost { s with gov := { s.gov with encoderLoss := 0 } } := by
  have last : decide (encoderLossWindows ≤ s.gov.encoderLoss + 1) = true :=
    decide_eq_true (by unfold encoderLossWindows; omega)
  simp [encoderLossReached, Governor.pulseless, encoderLossReference, reference, pf, pb, last]

theorem missedReached_acts (first : s.gov.firstWindow = false) (seen : s.gov.statusSeen = false)
    (count : s.gov.missed = 4) :
    missedReached s = raise .driveFault (offerGovernor { s with gov := s.gov.substituted }) := by
  simp [missedReached, Governor.lastMiss, Governor.misses, first, seen, count, missedExchanges]

/-! ### Rollback and Creep (R24, R26) -/

theorem Governor.measure_keeps (g : Governor) : g.measure.aimed = g.aimed ∧ g.measure.held = g.held ∧
    g.measure.settings = g.settings ∧ ∀ c, g.measure.ceiling c = g.ceiling c := by
  unfold Governor.measure
  simp only []
  split <;> exact ⟨rfl, rfl, rfl, fun c => by cases c <;> rfl⟩

theorem windowGov_rollback (s : State) :
    (windowGov s).rollback = (s.gov.measure.rollbackTest s.run.state s.gov.increment).1 := by
  unfold windowGov Governor.ramp
  split <;> (cases s.run.state <;> rfl)

theorem windowEnd_rollback (s : State) :
    (windowEnd s).gov.rollback = (s.gov.measure.rollbackTest s.run.state s.gov.increment).1 :=
  (Governor.aimed_eq_iff.mp (windowEnd_aimed s)).2.2.trans (windowGov_rollback s)

theorem rollback_mem_alarms (g : Governor) (rs : RunState) (d : Int) :
    .rollback ∈ g.alarms rs d ↔ (g.rollbackTest rs d).2 = true := by
  unfold Governor.alarms
  simp only [List.mem_append]
  constructor
  · rintro ((((h | h) | h) | h) | h)
    all_goals
      split at h <;> simp_all
  · intro h
    simp [h]

theorem creep_mem_alarms (g : Governor) (rs : RunState) (d : Int) :
    .creep ∈ g.alarms rs d ↔ g.crept rs = true := by
  unfold Governor.alarms
  simp only [List.mem_append]
  constructor
  · rintro ((((h | h) | h) | h) | h)
    all_goals
      split at h <;> simp_all
  · intro h
    simp [h]

theorem windowEnd_travel (s : State) : (windowEnd s).gov.travel = s.gov.measure.travel :=
  (Governor.measurement_eq_iff.mp (windowEnd_measurement s)).1

/-- In Stopped with a creep base the creep test is the drift of more than 500 mm (R26). -/
theorem crept_iff (s : State) {base : Travel} (state : s.run.state = .stopped) (hbase : s.gov.creepBase = some base) :
    s.gov.measure.crept s.run.state = true ↔
      500 < ((windowEnd s).gov.travel - base).toInt ∨ ((windowEnd s).gov.travel - base).toInt < -500 := by
  have measured : s.gov.measure.creepBase = some base :=
    (Governor.held_eq_iff.mp s.gov.measure_keeps.2.1).2.1.trans hbase
  simp [Governor.crept, state, measured, windowEnd_travel, travelDiff, creepLimit]

end

/-- Settles O21: the last windows by their tests, the quiet count by the invariant that every step keeps, Rollback and
Creep by the demands of stage 4. -/
theorem windowCountsReachTheirEnds : Obligations.WindowCountsReachTheirEnds := by
  refine ⟨fun s state reference v count => ?_, fun s => ⟨fun moving fast count => ?_, fun reference pf pb count => ?_,
    fun first seen count => ?_⟩, fun s t hstep h => ?_, fun s => ⟨windowEnd s, rfl, fun parked => ?_,
      fun r moving hr => ?_, fun base state hbase => ?_, fun state => ?_⟩⟩
  · have acts := quietReached_acts state reference v count
    have run := enterState_run_gov (n := .stopped) (by decide) .ropeAtRest s
    have calm := enterState_calm s .stopped .ropeAtRest
    have touches := enterState_touches .stopped .ropeAtRest s (.inr (by decide))
    rw [← acts] at run calm touches
    exact ⟨_, rfl, run.1, by rw [run.2]; rfl, by rw [run.2]; rfl, calm.desk, touches, calm.line⟩
  · have acts := overspeedReached_acts moving fast count
    obtain ⟨raised, within⟩ := raise_after_gov .overspeed s { s.gov with overspeed := 0 }
    have count := (raise_gov_counts .overspeed { s with gov := { s.gov with overspeed := 0 } }).1 rfl
    rw [← acts] at raised within count
    exact ⟨_, rfl, raised, count, within.desk, within.touches⟩
  · have acts := encoderLossReached_acts reference pf pb count
    obtain ⟨raised, within⟩ := raise_after_gov .encoderLost s { s.gov with encoderLoss := 0 }
    have count := (raise_gov_counts .encoderLost { s with gov := { s.gov with encoderLoss := 0 } }).2 rfl
    rw [← acts] at raised within count
    exact ⟨_, rfl, raised, count, within.desk, within.touches⟩
  · have acts := missedReached_acts first seen count
    have offered : Within raiseBlocks s (offerGovernor { s with gov := s.gov.substituted }) :=
      Within.trans ⟨by simp [touches_iff, raiseBlocks], by simp [DeskQuiet]⟩
        ((offerGovernor_calm _).toWithin.mono (by decide))
    have raised := (raise_run .driveFault (offerGovernor { s with gov := s.gov.substituted })).1
    have kept := raise_gov_keeps .driveFault (offerGovernor { s with gov := s.gov.substituted })
    have within := offered.trans (raise_within _ .driveFault)
    rw [← acts] at raised kept within
    refine ⟨_, rfl, ?_, by rw [kept.2.1]; simp [Governor.substituted, missedExchanges], by rw [kept.1]; simp [Governor.substituted],
      within.desk, within.touches⟩
    simpa [Raised] using raised
  · exact step_keeps_quietCounted hstep h
  · rw [windowEnd_rollback]
    simp [Governor.rollbackTest, parked]
  · have rolls : r = rolled s.gov.measure.rollback s.gov.increment := by
      rw [hr, (Governor.aimed_eq_iff.mp s.gov.measure_keeps.1).2.2, windowEnd_update]
      rfl
    have settings : s.gov.measure.settings = s.gov.settings := s.gov.measure_keeps.2.2.1
    rw [mem_windowEnd s (.inl rfl), rollback_mem_alarms, windowEnd_rollback, Governor.rollbackTest, if_neg moving, settings,
      ← rolls]
    refine ⟨fun beyond => ?_, fun within => ?_⟩
    · simp [beyond]
    · simp [Nat.not_lt.mpr within]
  · rw [mem_windowEnd s (.inr (.inl rfl)), creep_mem_alarms, crept_iff s state hbase]
    refine ⟨.inl, fun low high => or_iff_right ?_⟩
    omega
  · rw [mem_windowEnd s (.inr (.inl rfl)), creep_mem_alarms]
    exact or_iff_right (by simp [Governor.crept, state])

end Sys2Proof.Machine
end

section
/-! SUPPORT. The reference at a window end (R7, R29, R30), and the governor's settings requests (R43 to R45). -/

namespace Sys2Proof.Machine

open Config

/-- The reference stands at `r`, but in Tripped at 0. -/
def Obeys (r : Nat) (s : State) : Prop := s.gov.reference = if s.run.state = .tripped then 0 else r

section
variable {s t : State} {r : Nat}

theorem Obeys.course (h : Obeys r s) (c : Course s t) : Obeys r t := by
  unfold Obeys at *
  rcases c.moves with ⟨state, -, held⟩ | ⟨-, ⟨tripped, zero⟩ | ⟨stopping, moving, reference⟩⟩
  · rw [state, (Governor.held_eq_iff.mp held).1, h]
  · rw [if_pos tripped, zero]
  · have up : s.run.state ≠ .tripped := by rcases moving with h | h <;> simp [h]
    rw [reference, h, if_neg up, if_neg (by simp [stopping])]

theorem Obeys.windowResult (h : Obeys r s) : Obeys r (windowResult s) := by
  unfold Machine.windowResult
  simp only []
  split
  · rename_i starting
    split
    · obtain ⟨run, gov⟩ := enterState_run_gov (n := .running) (by decide) .referenceReached s
      refine Obeys.course ?_ (Settles.gateTest (.refl _)).toCourse
      unfold Obeys at *
      rw [run, gov]
      simpa [starting, Governor.enter] using h
    · exact h
  · rename_i stopping
    split
    · rename_i quiet
      have zero : s.gov.reference = 0 := by
        simp only [quietNow, Bool.and_eq_true, decide_eq_true_eq] at quiet
        exact quiet.1.2
      split
      · obtain ⟨run, gov⟩ := enterState_run_gov (n := .stopped) (by decide) .ropeAtRest
          { s with run := { s.run with quiet := s.run.quiet + 1 } }
        unfold Obeys ropeAtRest at *
        rw [run, gov]
        simpa [Governor.enter, stopping, zero] using h
      · exact h
    · exact h
  · exact h

/-- Out of motion, an arrival that does not trip leaves run control and the reference. -/
theorem Course.stands (c : Course s t) (still : s.run.state ≠ .starting ∧ s.run.state ≠ .running)
    (up : t.run.state ≠ .tripped) :
    t.run.state = s.run.state ∧ t.run.quiet = s.run.quiet ∧ t.gov.held = s.gov.held := by
  rcases c.moves with stands | ⟨-, ⟨tripped, -⟩ | ⟨-, moving, -⟩⟩
  · exact stands
  · exact absurd tripped up
  · rcases moving with h | h <;> simp [h] at still

/-- Without a demand nothing has moved. -/
theorem Course.stands_of_nil (c : Course s t) (none : t.run.demands = []) :
    t.run.state = s.run.state ∧ t.run.quiet = s.run.quiet ∧ t.gov.held = s.gov.held :=
  c.moves.resolve_right fun h => h.1 none

/-- Tripped stays Tripped (R12). -/
theorem Course.tripped (c : Course s t) (h : s.run.state = .tripped) : t.run.state = .tripped := by
  rcases c.moves with ⟨state, -⟩ | ⟨-, ⟨tripped, -⟩ | ⟨-, moving, -⟩⟩
  · exact state.trans h
  · exact tripped
  · simp [h] at moving

theorem windowResult_of_tripped (h : s.run.state = .tripped) : windowResult s = s := by
  simp [windowResult, h]

end

/-! ### The governor of a window end (R29, R30) -/

section
variable (s : State)

theorem windowEnd_obeys (h : s.run.state = .tripped → (windowGov s).reference = 0) :
    Obeys (windowGov s).reference (windowEnd s) := by
  have start : Obeys (windowGov s).reference { s with gov := windowGov s } := by
    unfold Obeys
    split
    · rename_i tripped
      exact h tripped
    · rfl
  exact ((start.course (windowRaised_course s)).windowResult).course (windowEnd_settles s).toCourse

theorem windowEnd_aims : (windowEnd s).gov.target = (windowGov s).target ∧
    (windowEnd s).gov.limiting = (windowGov s).limiting := by
  obtain ⟨target, limiting, -⟩ := Governor.aimed_eq_iff.mp (windowEnd_aimed s)
  exact ⟨target, limiting⟩

theorem windowGov_moving (h : s.run.state = .starting ∨ s.run.state = .running) :
    (windowGov s).target = s.gov.lowest ∧
      (windowGov s).limiting = Ceiling.all.filter (fun c => decide (s.gov.ceiling c = some s.gov.lowest)) ∧
      (windowGov s).reference =
        rampStep s.gov.reference s.gov.lowest s.gov.settings.up s.gov.settings.down := by
  obtain ⟨-, held, settings, ceilings⟩ := s.gov.measure_keeps
  have reference := (Governor.held_eq_iff.mp held).1
  have supervised : ∀ c, (s.gov.measure.supervise s.run.state s.gov.increment).ceiling c = s.gov.ceiling c := fun c => by
    rw [← ceilings]
    cases c <;> rfl
  have lowest : (s.gov.measure.supervise s.run.state s.gov.increment).lowest = s.gov.lowest := by
    unfold Governor.lowest
    congr 3
    exact funext supervised
  have aimed : (s.gov.measure.supervise s.run.state s.gov.increment).aim s.run.state =
      { s.gov.measure.supervise s.run.state s.gov.increment with
        target := s.gov.lowest
        limiting := Ceiling.all.filter fun c => decide (s.gov.ceiling c = some s.gov.lowest) } := by
    rcases h with h | h <;> rw [h] at supervised lowest ⊢ <;> simp only [Governor.aim, supervised, lowest]
  have moves : runMoves s.run.state = true := by rcases h with h | h <;> simp [runMoves, h]
  rw [windowGov, aimed, Governor.ramp, if_pos moves, ← settings, ← reference]
  exact ⟨rfl, rfl, rfl⟩

theorem windowGov_stopping (h : s.run.state = .stopping) : (windowGov s).target = 0 ∧ (windowGov s).limiting = [] ∧
    (windowGov s).reference = s.gov.reference - s.gov.settings.down := by
  obtain ⟨-, held, settings, -⟩ := s.gov.measure_keeps
  have reference := (Governor.held_eq_iff.mp held).1
  have ramped : (windowGov s).reference = rampStep s.gov.reference 0 s.gov.settings.up s.gov.settings.down := by
    rw [windowGov, h, ← settings, ← reference]
    rfl
  refine ⟨by rw [windowGov, h]; rfl, by rw [windowGov, h]; rfl, ?_⟩
  rw [ramped, rampStep, if_neg (Nat.not_lt_zero _)]
  split <;> omega

theorem windowGov_held
    (h : s.run.state = .parked ∨ s.run.state = .waking ∨ s.run.state = .stopped ∨ s.run.state = .tripped) :
    (windowGov s).target = 0 ∧ (windowGov s).limiting = [] ∧ (windowGov s).reference = 0 := by
  rcases h with h | h | h | h <;> rw [windowGov, h] <;> exact ⟨rfl, rfl, rfl⟩

/-- Max is always present, so that the target of motion is a ceiling, and the lowest one (R28, R29). -/
theorem Governor.lowest_isLeast (g : Governor) :
    (∃ c, g.ceiling c = some g.lowest) ∧ ∀ c v, g.ceiling c = some v → g.lowest ≤ v := by
  have mem (v : Nat) : v ∈ Ceiling.all.filterMap g.ceiling ↔ ∃ c, g.ceiling c = some v := by
    rw [List.mem_filterMap]
    exact ⟨fun ⟨c, _, h⟩ => ⟨c, h⟩, fun ⟨c, h⟩ => ⟨c, by cases c <;> decide, h⟩⟩
  have present : g.settings.max ∈ Ceiling.all.filterMap g.ceiling := (mem _).mpr ⟨.max, rfl⟩
  obtain ⟨low, hlow⟩ := Option.isSome_iff_exists.mp (List.isSome_min?_of_mem present)
  have eq : g.lowest = low := by rw [Governor.lowest, hlow, Option.getD_some]
  obtain ⟨least, bound⟩ := List.min?_eq_some_iff.mp hlow
  rw [eq]
  exact ⟨(mem low).mp least, fun c v h => bound v ((mem v).mpr ⟨c, h⟩)⟩

theorem rampStep_eq (reference target up down : Nat) : rampStep reference target up down =
    if reference < target then min target (reference + up) else max target (reference - down) := by
  unfold rampStep
  split_ifs <;> omega

/-! ### The end of Starting and of Stopping (R7, R10) -/

theorem windowResult_starting (h : s.run.state = .starting) (none : (windowResult s).run.demands = []) :
    (windowResult s).run.state = if s.gov.reference = s.gov.target then .running else .starting := by
  by_cases reached : s.gov.reference = s.gov.target
  · have result : windowResult s = gateTest (enterState .running .referenceReached s) := by
      simp [windowResult, h, reached, enterRunning]
    have gated := (Settles.gateTest (.refl (enterState .running .referenceReached s))).toCourse
    rw [result] at none
    rw [result, (gated.stands_of_nil none).1, (enterState_run_gov (by decide) _ _).1, if_pos reached]
  · simp [windowResult, h, reached]

theorem windowEnd_starting (h : s.run.state = .starting) (none : (windowEnd s).run.demands = []) :
    (windowEnd s).run.state =
      if (windowEnd s).gov.reference = (windowEnd s).gov.target then .running else .starting := by
  have ends := windowEnd_settles s
  have noResult : (windowResult (windowRaised s)).run.demands = [] := List.eq_nil_of_subset_nil (none ▸ ends.kept)
  have noRaise : (windowRaised s).run.demands = [] :=
    List.eq_nil_of_subset_nil (noResult ▸ (windowResult_frame _).2.1)
  obtain ⟨state, -, held⟩ := (windowRaised_course s).stands_of_nil noRaise
  have result := windowResult_starting _ (state.trans h) noResult
  rw [(Governor.held_eq_iff.mp held).1, (Governor.aimed_eq_iff.mp (windowRaised_course s).aimed).1] at result
  have final : (windowEnd s).run.state =
      if (windowGov s).reference = (windowGov s).target then .running else .starting :=
    (ends.toCourse.stands_of_nil none).1.trans result
  have up : (windowEnd s).run.state ≠ .tripped := by
    rw [final]
    split <;> decide
  have obeys := windowEnd_obeys s (by simp [h])
  rw [Obeys, if_neg up] at obeys
  rw [final, obeys, (windowEnd_aims s).1]

/-- A window end in Stopping that does not trip: what run control makes of it (R10). -/
theorem windowEnd_stopping (h : s.run.state = .stopping) (up : (windowEnd s).run.state ≠ .tripped) :
    ∃ u, u.run.state = .stopping ∧ u.run.quiet = s.run.quiet ∧ u.gov.reference = (windowEnd s).gov.reference ∧
      u.gov.v = (windowEnd s).gov.v ∧ u.gov.travel = (windowEnd s).gov.travel ∧ Settles (windowResult u) (windowEnd s) := by
  have upResult : (windowResult (windowRaised s)).run.state ≠ .tripped := fun tripped =>
    up ((windowEnd_settles s).toCourse.tripped tripped)
  have upRaised : (windowRaised s).run.state ≠ .tripped := fun tripped =>
    upResult (by rw [windowResult_of_tripped tripped, tripped])
  obtain ⟨state, quiet, held⟩ := (windowRaised_course s).stands (by simp [h]) upRaised
  have obeys := windowEnd_obeys s (by simp [h])
  rw [Obeys, if_neg up] at obeys
  have measured := (windowRaised_arrives s).measurement.trans (windowGov_measurement s)
  obtain ⟨travel, -, -, v, -⟩ :=
    Governor.measurement_eq_iff.mp (measured.trans (windowEnd_measurement s).symm)
  exact ⟨windowRaised s, state.trans h, quiet, (Governor.held_eq_iff.mp held).1.trans obeys.symm, v, travel,
    windowEnd_settles s⟩

theorem quietNow_iff : quietNow s = true ↔ s.run.state = .stopping ∧ s.gov.reference = 0 ∧ s.gov.v = 0 := by
  simp [quietNow, and_assoc]

theorem windowResult_quiet (quiet : quietNow s = true) (few : s.run.quiet < 9) :
    windowResult s = { s with run := { s.run with quiet := s.run.quiet + 1 } } := by
  have early : ¬ quietWindows ≤ s.run.quiet + 1 := by unfold quietWindows; omega
  simp [windowResult, ((quietNow_iff s).mp quiet).1, quiet, early]

theorem windowResult_rest (quiet : quietNow s = true) (last : 9 ≤ s.run.quiet) :
    windowResult s = enterState .stopped .ropeAtRest { s with run := { s.run with quiet := s.run.quiet + 1 } } := by
  have reached : quietWindows ≤ s.run.quiet + 1 := by unfold quietWindows; omega
  simp [windowResult, ((quietNow_iff s).mp quiet).1, quiet, reached, ropeAtRest]

theorem windowResult_loud (state : s.run.state = .stopping) (loud : quietNow s = false) :
    windowResult s = { s with run := { s.run with quiet := 0 } } := by
  simp [windowResult, state, loud]

end

/-- Settles O23: the target and the ramp are the governor's own stages; of the arrivals only a trip moves the
reference. -/
theorem windowEndFollowsTheLowestCeiling : Obligations.WindowEndFollowsTheLowestCeiling := by
  refine ⟨fun s moving => ⟨windowEnd s, rfl, ?_, ?_, fun c => ?_, ?_, fun starting none => windowEnd_starting s starting none⟩,
    fun s stopping => ⟨windowEnd s, rfl, ?_, ?_, ?_, fun up reference v few => ?_, fun up reference v last => ?_,
      fun up loud => ?_⟩, fun s held => ⟨windowEnd s, rfl, ?_, ?_, ?_⟩⟩
  · rw [(windowEnd_aims s).1, (windowGov_moving s moving).1]
    exact s.gov.lowest_isLeast.1
  · rw [(windowEnd_aims s).1, (windowGov_moving s moving).1]
    exact s.gov.lowest_isLeast.2
  · rw [(windowEnd_aims s).1, (windowEnd_aims s).2, (windowGov_moving s moving).1, (windowGov_moving s moving).2.1,
      List.mem_filter, decide_eq_true_eq]
    exact and_iff_right (by cases c <;> decide)
  · have obeys := windowEnd_obeys s (by rcases moving with h | h <;> simp [h])
    rw [(windowEnd_aims s).1, (windowGov_moving s moving).1]
    rw [Obeys, (windowGov_moving s moving).2.2, rampStep_eq] at obeys
    exact obeys
  · rw [(windowEnd_aims s).1, (windowGov_stopping s stopping).1]
  · rw [(windowEnd_aims s).2, (windowGov_stopping s stopping).2.1]
  · have obeys := windowEnd_obeys s (by simp [stopping])
    rwa [Obeys, (windowGov_stopping s stopping).2.2] at obeys
  · obtain ⟨u, state, quiet, ref, speed, -, ends⟩ := windowEnd_stopping s stopping up
    rw [windowResult_quiet u ((quietNow_iff u).mpr ⟨state, ref.trans reference, speed.trans v⟩) (by omega)] at ends
    obtain ⟨state', quiet', -⟩ := ends.toCourse.stands (by simp [state]) up
    exact ⟨state'.trans state, quiet'.trans (congrArg (· + 1) quiet)⟩
  · obtain ⟨u, state, quiet, ref, speed, travel, ends⟩ := windowEnd_stopping s stopping up
    rw [windowResult_rest u ((quietNow_iff u).mpr ⟨state, ref.trans reference, speed.trans v⟩) (by omega)] at ends
    obtain ⟨run, gov⟩ := enterState_run_gov (n := .stopped) (by decide) .ropeAtRest
      { u with run := { u.run with quiet := u.run.quiet + 1 } }
    obtain ⟨state', quiet', held⟩ := ends.toCourse.stands (by rw [run]; simp) up
    obtain ⟨-, base, brake⟩ := Governor.held_eq_iff.mp held
    rw [run] at state' quiet'
    rw [gov] at base brake
    exact ⟨state', quiet', brake, by rw [base, ← travel]; rfl⟩
  · obtain ⟨u, state, quiet, ref, speed, -, ends⟩ := windowEnd_stopping s stopping up
    have loud' : quietNow u = false := by
      refine Bool.eq_false_iff.mpr fun q => ?_
      obtain ⟨-, zero, still⟩ := (quietNow_iff u).mp q
      rcases loud with h | h
      · exact h (ref ▸ zero)
      · exact h (speed ▸ still)
    rw [windowResult_loud u state loud'] at ends
    obtain ⟨state', quiet', -⟩ := ends.toCourse.stands (by simp [state]) up
    exact ⟨state'.trans state, quiet'⟩
  · rw [(windowEnd_aims s).1, (windowGov_held s held).1]
  · rw [(windowEnd_aims s).2, (windowGov_held s held).2.1]
  · have zero := (windowGov_held s held).2.2
    have obeys := windowEnd_obeys s fun _ => zero
    rw [Obeys, zero] at obeys
    simpa using obeys

/-! ### The requests (R43 to R45) -/

theorem setGov_calm (g : Governor) (s : State) : Calm [.gov] s { s with gov := g } :=
  ⟨⟨by simp [touches_iff], by simp [DeskQuiet]⟩, by simp [lineQuiet_iff]⟩

/-- Settles O25, by the request. -/
theorem governorSettingsAreTaken : Obligations.GovernorSettingsAreTaken := by
  intro tag s free
  refine ⟨fun g state range => ?_, fun v => ?_, fun bands h hold state range => ?_⟩
  · have calm := updateCeilings_calm s (s.gov.withSettings g)
    have accepted : perform (.setGovernor g) s = (updateCeilings (s.gov.withSettings g) s,
        .done (byte2 (Nat.max 50 (Nat.min s.gov.desk g.max)))) := by
      rcases state with h | h <;> simp [perform, doSetGovernor, heldState, h, range] <;> rfl
    exact ⟨_, congrArg Host.Outcome.next (submit_of_within free (by simp) accepted calm.toWithin), calm.answered,
      updateCeilings_gov _ _, calm.touched (by decide), calm.lineQuiet⟩
  · have calm := updateCeilings_calm s { s.gov with desk := clampDesk v s.gov.settings.max }
    exact ⟨_, congrArg Host.Outcome.next (submit_of_within free (by simp) rfl calm.toWithin), calm.answered,
      updateCeilings_gov _ _, calm.touched (by decide), calm.lineQuiet⟩
  · have set := setGov_calm
      { s.gov.stopHold with wind := { bands := bands.map bandOf, hysteresis := h, hold := hold }, band := 0 } s
    have held : heldState s = true := by rcases state with h | h <;> simp [heldState, h]
    by_cases zero : s.gov.band = 0
    · have accepted : perform (.setWind bands h hold) s = ({ s with gov := { s.gov.stopHold with
          wind := { bands := bands.map bandOf, hysteresis := h, hold := hold }, band := 0 } }, .done []) := by
        simp only [perform, doSetWind, held, range, zero]
        rfl
      have calm := set.mono (cs := [.gov, .line, .desk]) (by decide)
      exact ⟨_, congrArg Host.Outcome.next (submit_of_within free (by simp) accepted calm.toWithin), calm.answered,
        rfl, calm.touched (by decide), calm.lineQuiet⟩
    · have accepted : perform (.setWind bands h hold) s = (offerGovernor { s with gov := { s.gov.stopHold with
          wind := { bands := bands.map bandOf, hysteresis := h, hold := hold }, band := 0 } }, .done []) := by
        simp only [perform, doSetWind, held, range, if_neg zero]
        rfl
      have calm := (set.mono (cs := [.gov, .line, .desk]) (by decide)).andThen (offerGovernor_calm _) (by decide)
      exact ⟨_, congrArg Host.Outcome.next (submit_of_within free (by simp) accepted calm.toWithin), calm.answered,
        by simp [Governor.stopHold], calm.touched (by decide), calm.lineQuiet⟩

end Sys2Proof.Machine
end

section
/-! SUPPORT. What an event that raises or counts leaves of track, berths and line; the launch gate, the grip test result
and the end of an index step (R57 to R66, R74, R81, R91). -/

namespace Sys2Proof.Machine

open Config

/-- Of the line an event that raises or counts moves the beat that waits, the valley stop class it carries, and a Notice
given back (R18, R166, R190). -/
def SameLine (s t : State) : Prop :=
  t.line = { s.line with safety := t.line.safety, transmit := t.line.transmit, stopClass := t.line.stopClass,
                         noticeTaken := t.line.noticeTaken }

/-- An event beside the track and the line: the records keep their places, the berths their occupancy, the queues of the
line their frames. -/
structure Aside (s t : State) : Prop where
  track : SameTrack s t
  occupied : ∀ i, (t.berth i).occupied = (s.berth i).occupied
  line : SameLine s t

section
variable {s t u : State} {i : Idx4} {b : Berth} {bs : List Block}

theorem SameLine.of_eq (h : t.line = s.line) : SameLine s t := by rw [SameLine, h]

theorem SameLine.trans (h : SameLine s t) (k : SameLine t u) : SameLine s u := by
  unfold SameLine at *
  rw [k, h]

theorem LineQuiet.sameLine (h : LineQuiet s t) : SameLine s t := by
  unfold LineQuiet SameLine at *
  rw [h]

theorem sameLine_giveClass (s : State) : SameLine s (giveClass s) := by
  unfold giveClass
  split
  · exact .of_eq rfl
  · rfl

theorem Aside.refl (s : State) : Aside s s := ⟨.of_eq rfl, fun _ => rfl, .of_eq rfl⟩

theorem Aside.trans (h : Aside s t) (k : Aside t u) : Aside s u :=
  ⟨h.track.trans k.track, fun i => (k.occupied i).trans (h.occupied i), h.line.trans k.line⟩

/-- An operation that touches neither berths nor track and offers nothing to the line. -/
theorem Calm.aside (h : Calm bs s t) (hb : .berths ∉ bs := by decide) (ht : .track ∉ bs := by decide) : Aside s t :=
  ⟨.of_eq (h.track ht), fun i => by rw [State.berth_eq, h.berths hb, State.berth_eq], h.line.sameLine⟩

theorem setBerth_aside (h : b.occupied = (s.berth i).occupied) : Aside s (s.setBerth i b) := by
  refine ⟨.of_eq rfl, fun j => ?_, .of_eq rfl⟩
  rw [State.berth_eq, State.setBerth, Quad.get_set]
  split
  · rename_i same
    rw [same, h]
  · rfl

theorem changeBerth_aside (h : b.occupied = (s.berth i).occupied) : Aside s (changeBerth i b s) := by
  refine ⟨.of_eq ((changeBerth_calm s i b).track), fun j => ?_, (changeBerth_calm s i b).line.sameLine⟩
  rw [State.berth_eq, changeBerth_berths, Quad.get_set]
  split
  · rename_i same
    rw [same, h]
  · rfl

theorem Cycles.occupied (h : Cycles s t) (i : Idx4) : (t.berth i).occupied = (s.berth i).occupied := by
  rcases h i with same | ⟨-, started⟩
  · rw [same]
  · rw [started]
    rfl

theorem cycleTests_aside (s : State) : Aside s (cycleTests s) :=
  ⟨.of_eq (cycleTests_calm s).track, (cycles_cycleTests s).occupied, (cycleTests_calm s).line.sameLine⟩

theorem indexTest_aside (s : State) : Aside s (indexTest s) :=
  ⟨sameTrack_indexTest s, fun i => by rw [State.berth_eq, (indexTest_calm s).berths, State.berth_eq],
    (indexTest_calm s).line.sameLine⟩

theorem sameLine_raise (src : Source) (s : State) : SameLine s (raise src s) := by
  unfold raise
  split
  · exact .of_eq rfl
  · refine SameLine.trans ?_ (sameLine_giveClass _)
    have reported : SameLine s (queueReport (.stopDemand src src.cls)
        { s with run := { s.run with demands := addSource src s.run.demands } }) :=
      SameLine.trans (.of_eq rfl) (queueReport_calm _ _).line.sameLine
    rcases demandTransition_cases src (queueReport (.stopDemand src src.cls)
      { s with run := { s.run with demands := addSource src s.run.demands } }) with h | ⟨n, -, h⟩ <;> rw [h]
    · exact reported
    · exact reported.trans (enterState_calm _ _ _).line.sameLine

theorem raise_aside (src : Source) (s : State) : Aside s (raise src s) :=
  ⟨sameTrack_raise src s, (cycles_raise src s).occupied, sameLine_raise src s⟩

theorem sameLine_counterTake (i : Idx4) (ev : CounterEvent) (s : State) : SameLine s (counterTake i ev s) := by
  unfold counterTake
  split
  · split
    · have reported (c : Counter) : SameLine s (queueReport (counterReport i c) (s.setCounter i c)) :=
        SameLine.trans (.of_eq rfl) (queueReport_calm _ _).line.sameLine
      unfold expire fireAction
      simp only []
      split
      · exact reported _
      · exact (reported _).trans (setCeiling_calm _ _ _).line.sameLine
      · exact (reported _).trans (sameLine_raise _ _)
    · exact .of_eq rfl
  · exact .of_eq rfl

theorem offerEvent_aside (ev : CounterEvent) (s : State) : Aside s (offerEvent ev s) :=
  ⟨sameTrack_offerEvent ev s, (cycles_offerEvent ev s).occupied,
    (((sameLine_counterTake _ _ _).trans (sameLine_counterTake _ _ _)).trans (sameLine_counterTake _ _ _)).trans
      (sameLine_counterTake _ _ _)⟩

/-! ### The launch gate (R60 to R62) -/

theorem gateTest_cases (s : State) : gateTest s = s ∨
    ∃ r, s.track.launchBerth = some r ∧ gateOpen s r = true ∧ gateTest s = release r s := by
  unfold gateTest
  split
  · rename_i r hr
    split
    · rename_i opens
      exact .inr ⟨r, hr, opens, rfl⟩
    · exact .inl rfl
  · exact .inl rfl

theorem offerControl_within (f : ControlFrame) (s : State) : Within [.line, .desk] s (offerControl f s) :=
  ⟨by simp [touches_iff], by simp [DeskQuiet]⟩

theorem setTrack_calm (k : Track) (s : State) : Calm [.track] s { s with track := k } :=
  ⟨⟨by simp [touches_iff], by simp [DeskQuiet]⟩, by simp [lineQuiet_iff]⟩

/-- The state with a record let go, before its frame, its event and its report (R62). -/
def released (r : CarrierRec) (s : State) : State :=
  { s with track := { s.track with
    releaseMark := s.update.t, launch := some { r with releaseTravel := some s.update.t }, launchBerth := none,
    launchCommand := true } }

theorem release_eq (r : CarrierRec) (s : State) : release r s =
    indexTest (queueReport (carrierReport (.released s.update.t) .launchRecord r)
      (offerEvent { code := 1, carrier := carrierOf r.number r.marks }
        (offerControl (.passage r.number) (released r s)))) := rfl

theorem release_within (r : CarrierRec) (s : State) : Within eventBlocks s (release r s) := by
  rw [release_eq]
  exact (((((setTrack_calm _ s).toWithin.mono (by decide)).andThen (offerControl_within _ _) (by decide)).andThen
    (offerEvent_within _ _) (by decide)).andThen (queueReport_calm _ _).toWithin (by decide)).andThen
    (indexTest_calm _).toWithin (by decide)

theorem release_track (r : CarrierRec) (s : State) : SameTrack (released r s) (release r s) := by
  have offered : SameTrack (released r s) (offerControl (.passage r.number) (released r s)) := .of_eq (by simp)
  rw [release_eq]
  exact ((offered.trans (sameTrack_offerEvent _ _)).trans (.of_eq (queueReport_calm _ _).track)).trans
    (sameTrack_indexTest _)

theorem release_occupied (r : CarrierRec) (s : State) (i : Idx4) :
    ((release r s).berth i).occupied = (s.berth i).occupied := by
  rw [release_eq, (indexTest_aside _).occupied, ((queueReport_calm _ _).aside).occupied, (offerEvent_aside _ _).occupied,
    State.berth_eq, (offerControl_within _ _).berths]
  rfl

/-- The Passage frame waits in the Control queue, where it has room (R62, R162). -/
theorem release_passage (r : CarrierRec) (s : State) (room : s.line.control.length < 16) :
    .passage r.number ∈ (release r s).line.control := by
  have later : SameLine (offerControl (.passage r.number) (released r s)) (release r s) := by
    rw [release_eq]
    exact ((offerEvent_aside _ _).line.trans (queueReport_calm _ _).line.sameLine).trans (indexTest_calm _).line.sameLine
  rw [later]
  have offered : (offerControl (.passage r.number) (released r s)).line.control =
      s.line.control ++ [.passage r.number] := by
    rw [offerControl, if_pos (show (released r s).line.control.length < controlQueue from room)]
    rfl
  simp [offered]

theorem gateTest_within (s : State) : Within eventBlocks s (gateTest s) := by
  rcases gateTest_cases s with h | ⟨r, -, -, h⟩ <;> rw [h]
  · exact .refl _ _
  · exact release_within r s

theorem gateTest_occupied (s : State) (i : Idx4) : ((gateTest s).berth i).occupied = (s.berth i).occupied := by
  rcases gateTest_cases s with h | ⟨r, -, -, h⟩ <;> rw [h]
  exact release_occupied r s i

/-- What the gate may move of the track: nothing, or the launch berth's record into flight, with an index step. -/
theorem gateTest_track (s : State) : gateTest s = s ∨ ∃ r, s.track.launchBerth = some r ∧ gateOpen s r = true ∧
    SameTrack (released r s) (gateTest s) := by
  rcases gateTest_cases s with h | ⟨r, hr, opens, h⟩
  · exact .inl h
  · exact .inr ⟨r, hr, opens, by rw [h]; exact release_track r s⟩

/-- The gate leaves the places but for the launch berth, whose record may be in flight afterwards. -/
theorem gateTest_places (s : State) : (gateTest s).track.buffer = s.track.buffer ∧
    (gateTest s).track.berths = s.track.berths ∧ (gateTest s).track.settings = s.track.settings ∧
    (gateTest s).track.inhibit = s.track.inhibit ∧
    ((gateTest s).track.launchBerth = s.track.launchBerth ∨
      ((gateTest s).track.launchBerth = none ∧ (gateTest s).track.launch.isSome = true)) := by
  rcases gateTest_track s with h | ⟨r, -, -, same⟩
  · rw [h]
    exact ⟨rfl, rfl, rfl, rfl, .inl rfl⟩
  · rw [same]
    exact ⟨rfl, rfl, rfl, rfl, .inr ⟨rfl, rfl⟩⟩

theorem gateOpen_iff (s : State) (r : CarrierRec) : gateOpen s r = true ↔
    (s.run.state = .running ∧ (s.track.settings.vMin : Int) ≤ s.update.v ∧
      (s.track.settings.spacing : Int) * 1000 ≤ (s.update.t - s.track.releaseMark).toInt ∧
      s.track.launch = none ∧ s.roster.records.length < 96 ∧
      Mark.stranger ∉ r.marks ∧ Mark.duplicate ∉ r.marks ∧ Mark.stuck ∉ r.marks ∧ Mark.held ∉ r.marks ∧
      s.track.inhibit = false) := by
  simp only [gateOpen, Bool.and_eq_true, decide_eq_true_eq]
  simp [blocked, travelDiff, rosterMax, and_assoc, -BitVec.toInt_sub]

end

/-- Settles O31: the gate by its seven conditions, and the three requests. -/
theorem launchGateAndTrackSettings : Obligations.LaunchGateAndTrackSettings := by
  refine ⟨fun r s hr => ⟨fun opens => ?_, fun shut => ?_⟩, fun tag s free => ⟨fun g v h1 h2 h3 h4 => ?_,
    fun slow limit accept h1 h2 h3 h4 => ?_, fun fMin fOk h1 h2 h3 => ?_⟩⟩
  · have acts : gateTest s = release r s := by
      simp only [gateTest, hr]
      exact if_pos ((gateOpen_iff s r).mpr opens)
    have same := release_track r s
    rw [acts]
    refine ⟨by rw [same]; rfl, by rw [same]; rfl, by rw [same]; rfl, by rw [same]; rfl, (release_within r s).roster,
      release_passage r s⟩
  · simp only [gateTest, hr]
    exact if_neg (mt (gateOpen_iff s r).mp shut)
  · have accepted : perform (.setSpacing g v) s = (gateTest { s with track := { s.track with
        settings := { s.track.settings with spacing := g, vMin := v } } }, .done []) := if_pos ⟨h1, h2, h3, h4⟩
    have within := ((setTrack_calm { s.track with settings := { s.track.settings with spacing := g, vMin := v } } s).toWithin.mono
      (cs := eventBlocks) (by decide)).trans (gateTest_within _)
    obtain ⟨buffer, berths, settings, -, launch⟩ := gateTest_places { s with track := { s.track with
        settings := { s.track.settings with spacing := g, vMin := v } } }
    exact ⟨_, congrArg Host.Outcome.next (submit_of_within free (by simp) accepted within), within.answered, settings, buffer,
      berths, launch, within.touched (by decide)⟩
  · have accepted : perform (.setTrack slow limit accept) s = (trackCeilingTest { s with track := { s.track with
        settings := { s.track.settings with slow := slow, limit := limit, acceptUnlisted := accept } } }, .done []) :=
      if_pos ⟨h1, h2, h3, h4⟩
    have set := setTrack_calm { s.track with
      settings := { s.track.settings with slow := slow, limit := limit, acceptUnlisted := accept } } s
    have tested := setCeiling_calm { s with track := { s.track with
      settings := { s.track.settings with slow := slow, limit := limit, acceptUnlisted := accept } } } .track
      (decide (slow ≤ s.track.buffer.length))
    have calm := (set.mono (cs := [.gov, .track, .line, .desk]) (by decide)).andThen tested (by decide)
    exact ⟨_, congrArg Host.Outcome.next (submit_of_within free (by simp) accepted calm.toWithin), calm.answered,
      tested.track, setCeiling_gov _ _ _, calm.touched (by decide), calm.lineQuiet⟩
  · have calm := (setTrack_calm { s.track with settings := { s.track.settings with fMin := fMin, fOk := fOk } } s).mono
      (cs := [.track, .desk]) (by decide)
    have accepted : perform (.setGrip fMin fOk) s = ({ s with track := { s.track with
        settings := { s.track.settings with fMin := fMin, fOk := fOk } } }, .done []) :=
      if_pos ⟨h1, h2.trans h3, h1.trans h2, h3, h2⟩
    exact ⟨_, congrArg Host.Outcome.next (submit_of_within free (by simp) accepted calm.toWithin), calm.answered, rfl,
      calm.touched (by decide)⟩

end Sys2Proof.Machine
end

section
/-! SUPPORT. The grip test result, the index step's limit and the index-done (R57, R58, R63 to R66, R81, R91). -/

namespace Sys2Proof.Machine

open Config

section
variable {s t : State} {i : Idx4}

/-! ### The grip test result (R63, R64) -/

theorem gripEffect_aside (cls : GripClass) (k : Option (Nat × Bool)) (s : State) : Aside s (gripEffect cls k s) := by
  unfold gripEffect
  split
  · exact offerEvent_aside _ _
  · exact raise_aside _ _
  · exact .refl s

theorem gripEffect_within (cls : GripClass) (k : Option (Nat × Bool)) (s : State) :
    Within eventBlocks s (gripEffect cls k s) := by
  unfold gripEffect
  split
  · exact offerEvent_within _ _
  · exact (raise_within _ _).mono (by decide)
  · exact .refl _ s

theorem gripEffect_course (cls : GripClass) (k : Option (Nat × Bool)) (s : State) : Course s (gripEffect cls k s) := by
  unfold gripEffect
  split
  · exact (Settles.refl s).offerEvent.toCourse
  · exact raise_course _ _
  · exact .refl s

/-- A result on a launch in flight, before its record joins the roster (R63). -/
def gripTested (received : Nat) (r : CarrierRec) (s : State) : State :=
  let force := min received forceMax
  let cls := gripClass s.track.settings force
  let r1 := tested cls force r
  let carrier := carrierOf r1.number r1.marks
  queueReport (carrierReport (.launchResult (some force) cls) .launchRecord r1)
    (offerEvent { code := 4, carrier := carrier, value := force }
      (gripEffect cls carrier { s with track := { s.track with launch := some r1 } }))

theorem gripResult_of_launch {r : CarrierRec} (h : s.track.launch = some r) (received : Nat) :
    gripResult received s = completeLaunch (gripClass s.track.settings (min received forceMax))
      (tested (gripClass s.track.settings (min received forceMax)) (min received forceMax) r)
      (gripTested received r s) := by
  rw [gripResult, h]
  rfl

/-- The result moves the launch record and what its events move; the record's class at Fail raises GripFail. -/
theorem gripTested_frame (received : Nat) (r : CarrierRec) (s : State) :
    (∃ k, SameTrack { s with track := { s.track with launch := k } } (gripTested received r s)) ∧
      Course s (gripTested received r s) ∧ Within eventBlocks s (gripTested received r s) ∧
      (gripClass s.track.settings (min received forceMax) = .fail →
        Source.gripFail ∈ (gripTested received r s).run.demands) := by
  unfold gripTested
  simp only []
  generalize tested (gripClass s.track.settings (min received forceMax)) (min received forceMax) r = r1
  generalize gripClass s.track.settings (min received forceMax) = cls
  have set := setTrack_calm { s.track with launch := some r1 } s
  have aside := gripEffect_aside cls (carrierOf r1.number r1.marks) { s with track := { s.track with launch := some r1 } }
  have course := gripEffect_course cls (carrierOf r1.number r1.marks) { s with track := { s.track with launch := some r1 } }
  have within := gripEffect_within cls (carrierOf r1.number r1.marks) { s with track := { s.track with launch := some r1 } }
  have failed : cls = .fail → Source.gripFail ∈ (gripEffect cls (carrierOf r1.number r1.marks)
      { s with track := { s.track with launch := some r1 } }).run.demands := by
    rintro rfl
    exact (mem_raise _ _ _).mpr (.inl rfl)
  generalize gripEffect cls (carrierOf r1.number r1.marks) { s with track := { s.track with launch := some r1 } } = u at *
  have later : Settles u (queueReport (carrierReport (.launchResult (some (min received forceMax)) cls) .launchRecord r1)
      (offerEvent { code := 4, carrier := carrierOf r1.number r1.marks, value := min received forceMax } u)) :=
    (Settles.refl u).offerEvent.queueReport
  have reported := queueReport_calm
    (offerEvent { code := 4, carrier := carrierOf r1.number r1.marks, value := min received forceMax } u)
    (carrierReport (.launchResult (some (min received forceMax)) cls) .launchRecord r1)
  have still : Course s { s with track := { s.track with launch := some r1 } } :=
    ⟨rfl, List.Subset.refl _, .inl ⟨rfl, rfl, rfl⟩⟩
  refine ⟨⟨some r1, (aside.track.trans (sameTrack_offerEvent _ _)).trans (.of_eq reported.track)⟩,
    (still.trans course).trans later.toCourse, ?_, fun fail => later.kept (failed fail)⟩
  exact (((set.toWithin.mono (by decide)).trans within).trans (offerEvent_within _ _)).andThen reported.toWithin
    (by decide)

/-- The marks of a tested record: the one of its class, and no other of the three (R63). -/
theorem tested_marks (cls : GripClass) (force : Nat) (r : CarrierRec) (t : Travel) :
    (Mark.marginal ∈ (rosterRecord t cls (tested cls force r)).carrier.marks ↔ cls = .marginal) ∧
      (Mark.gripFail ∈ (rosterRecord t cls (tested cls force r)).carrier.marks ↔ cls = .fail) ∧
      Mark.noTest ∉ (rosterRecord t cls (tested cls force r)).carrier.marks := by
  cases cls <;> simp [rosterRecord, tested, CarrierRec.unmark, CarrierRec.mark, removeMarks]

theorem tested_fields (cls : GripClass) (force : Nat) (r : CarrierRec) (t : Travel) :
    (rosterRecord t cls (tested cls force r)).carrier.number = r.number ∧
      (rosterRecord t cls (tested cls force r)).carrier.force = some force := by
  cases cls <;> exact ⟨rfl, rfl⟩

/-- A launch completed: its record at the roster's tail, and the gate's test (R64). -/
theorem completeLaunch_acts (cls : GripClass) (r : CarrierRec) (s : State) :
    (completeLaunch cls r s).roster.records = s.roster.records ++ [rosterRecord s.update.t cls r] ∧
      (SameTrack { s with track := { s.track with launch := none, launchCommand := false } } (completeLaunch cls r s) ∨
        ∃ b, s.run.state = .running ∧ s.track.launchBerth = some b ∧ SameTrack { s with track := { s.track with
          releaseMark := s.update.t, launch := some { b with releaseTravel := some s.update.t }, launchBerth := none,
          launchCommand := true } } (completeLaunch cls r s)) ∧
      Within (.roster :: eventBlocks) s (completeLaunch cls r s) := by
  have joined : Within (.roster :: eventBlocks) s { s with
      roster := { s.roster with records := s.roster.records ++ [rosterRecord s.update.t cls r] }
      track := { s.track with launch := none, launchCommand := false } } :=
    ⟨by simp [touches_iff, eventBlocks, raiseBlocks], by simp [DeskQuiet]⟩
  have gate := gateTest_within { s with
      roster := { s.roster with records := s.roster.records ++ [rosterRecord s.update.t cls r] }
      track := { s.track with launch := none, launchCommand := false } }
  refine ⟨congrArg Roster.records gate.roster, ?_, joined.andThen gate (by decide)⟩
  rcases gateTest_track { s with
      roster := { s.roster with records := s.roster.records ++ [rosterRecord s.update.t cls r] }
      track := { s.track with launch := none, launchCommand := false } } with same | ⟨b, hb, opens, moved⟩
  · exact .inl (.of_eq (by rw [completeLaunch, same]))
  · exact .inr ⟨b, ((gateOpen_iff _ _).mp opens).1, hb, moved⟩

end

/-- Settles O28: the result's effect on the record in flight, then the roster's new tail and the gate's test. -/
theorem gripResultCompletesTheLaunch : Obligations.GripResultCompletesTheLaunch := by
  intro record received s hparse
  have taken : exec (.gripTestResult record) s = .next (gripResult received s) := by
    refine congrArg Host.Outcome.next ?_
    rw [testRecord, hparse]
  refine ⟨fun r hr => ?_, fun none => ?_⟩
  · obtain ⟨⟨k, track⟩, course, within, failed⟩ := gripTested_frame received r s
    rw [gripResult_of_launch hr] at taken
    generalize gripTested received r s = u at *
    obtain ⟨records, launch, completed⟩ := completeLaunch_acts (gripClass s.track.settings (min received forceMax))
      (tested (gripClass s.track.settings (min received forceMax)) (min received forceMax) r) u
    have own := (within.mono (cs := .roster :: eventBlocks) (by decide)).trans completed
    obtain ⟨marginal, fail, noTest⟩ := tested_marks (gripClass s.track.settings (min received forceMax))
      (min received forceMax) r s.update.t
    obtain ⟨number, force⟩ := tested_fields (gripClass s.track.settings (min received forceMax))
      (min received forceMax) r s.update.t
    rw [within.roster, within.update] at records
    have demands : u.run.demands ⊆ (completeLaunch (gripClass s.track.settings (min received forceMax))
        (tested (gripClass s.track.settings (min received forceMax)) (min received forceMax) r) u).run.demands :=
      (Settles.completeLaunch (.refl u)).kept
    refine ⟨_, _, taken, records, number, force, rfl, rfl, rfl, rfl, rfl, rfl, marginal, fail, noTest,
      fun h => demands (failed h), ?_, own.desk, own.touches⟩
    rcases launch with same | ⟨b, running, hb, same⟩
    · rw [same, track]
      exact .inl ⟨rfl, rfl, rfl⟩
    · refine .inr ⟨b, ?_, ?_, ?_⟩
      · rcases course.moves with ⟨state, -⟩ | ⟨-, ⟨tripped, -⟩ | ⟨stopping, -⟩⟩
        · exact state ▸ running
        · simp [tripped] at running
        · simp [stopping] at running
      · rw [track] at hb
        exact hb
      · rw [same, within.update]
        exact ⟨rfl, rfl, rfl⟩
  · have acts : gripResult received s =
        queueReport (.carrier (.launchResult (some received) .unexpected) 0 .none []) (discardInput s) := by
      rw [gripResult, none]
    have calm := ((setTrack_calm { s.track with discarded := satInc s.track.discarded } s).mono
      (cs := [.track, .line, .desk]) (by decide)).andThen (queueReport_calm _ (.carrier
        (.launchResult (some received) .unexpected) 0 .none [])) (by decide)
    rw [acts] at taken
    exact ⟨_, taken, (queueReport_calm _ _).track, calm.desk, calm.line, calm.touches⟩

/-! ### The index step's limit (R57) -/

section
variable {s t : State} {i : Idx4}

/-- With an index step in flight no cycle starts, and no further step (R55, R82). -/
theorem cycleTests_of_stepping (h : s.track.step.isSome = true) : cycleTests s = s := by
  have unready : ∀ b, cycleReady s b = false := fun b => by simp [cycleReady, Option.isNone_eq_false_iff.mpr h]
  simp [cycleTests, cycleTest, unready]

theorem indexTest_of_stepping (h : s.track.step.isSome = true) : indexTest s = s := by
  simp [indexTest, indexReady, Option.isNone_eq_false_iff.mpr h]

/-- With an index step in flight a demand moves neither track nor berths. -/
theorem raise_of_stepping (src : Source) (h : s.track.step.isSome = true) :
    (raise src s).track = s.track ∧ (raise src s).berths = s.berths := by
  unfold raise
  split
  · exact ⟨rfl, rfl⟩
  · simp only [giveClass_keeps]
    rcases demandTransition_cases src (queueReport (.stopDemand src src.cls)
      { s with run := { s.run with demands := addSource src s.run.demands } }) with same | ⟨n, hn, entered⟩
    · rw [same]
      simp
    · rw [entered, enterState_of_ne_starting hn, cycleTests_of_stepping (by simpa using h),
        indexTest_of_stepping (by simpa using h)]
      simp

/-- A block that has stood need not be named. -/
theorem Touches.drop {bs : List Block} {b : Block} (h : Touches bs s t) (kept : b.kept s t) :
    Touches (bs.filter fun x => !decide (x = b)) s t := by
  intro x hx
  by_cases same : x = b
  · exact same ▸ kept
  · exact h x fun hm => hx (List.mem_filter.mpr ⟨hm, by simp [same]⟩)

/-! ### The index-done (R58, R81, R91) -/

theorem queueRequest_aside (i : Idx4) (m : Motion) (s : State) : Aside s (queueRequest i m s) :=
  (queueRequest_calm i m s).aside

theorem faultBerth_aside (i : Idx4) (r : FaultReason) (s : State) : Aside s (faultBerth i r s) :=
  (withdrawRequest_calm i s).aside.trans (changeBerth_aside rfl)

theorem limitTest_aside (i : Idx4) (s : State) : Aside s (limitTest i s) := by
  unfold limitTest
  split
  · exact changeBerth_aside rfl
  · exact .refl s

theorem countReversal_aside (i : Idx4) (s : State) : Aside s (countReversal i s) := by
  refine Aside.trans (Aside.trans ?_ (offerEvent_aside _ _)) (limitTest_aside i _)
  exact setBerth_aside rfl

theorem grantHead_aside {test : State → State} (htest : ∀ u, Aside u (test u)) (s : State) :
    Aside s (grantHead test s) := by
  unfold grantHead
  split
  · exact .refl s
  · rename_i k m rest _
    have taken : Aside s { s with supply := { s.supply with wait := rest, sinceGrant := some 0 } } :=
      (setSupply_calm _ s).aside
    cases m with
    | opening => exact taken.trans (changeBerth_aside rfl)
    | homing =>
      simp only [grantHoming]
      split
      · exact taken.trans (faultBerth_aside _ _ _)
      · exact taken.trans (setBerth_aside rfl)
    | closing =>
      simp only [grantClose]
      split
      · have counted := (taken.trans (htest _)).trans (countReversal_aside k _)
        split
        · exact counted.trans (queueRequest_aside _ _ _)
        · exact counted
      · exact taken.trans (changeBerth_aside rfl)

theorem supplyLoop_aside (n : Nat) (s : State) : Aside s (supplyLoop n s) := by
  induction n generalizing s with
  | zero => exact .refl s
  | succ n ih =>
    unfold supplyLoop
    split
    · exact (grantHead_aside ih s).trans (ih _)
    · exact .refl s

theorem fault_aside (i : Idx4) (r : FaultReason) (s : State) : Aside s (fault i r s) := by
  unfold fault
  split
  · exact (faultBerth_aside i r s).trans (supplyLoop_aside 32 _)
  · exact faultBerth_aside i r s

theorem pendingFault_frame (i : Idx4) (s : State) : Aside s (pendingFault i s) ∧ DoorEvent s (pendingFault i s) := by
  unfold pendingFault
  split
  · exact ⟨fault_aside _ _ _, fault_doorEvent _ _ _⟩
  · exact ⟨.refl s, .refl s⟩

theorem pendingFaults_frame (s : State) : Aside s (pendingFaults s) ∧ DoorEvent s (pendingFaults s) := by
  have all (i j : Idx4) (u v : State) (h : Aside u v ∧ DoorEvent u v) :
      Aside u (pendingFault i v) ∧ DoorEvent u (pendingFault i v) :=
    ⟨h.1.trans (pendingFault_frame i v).1, h.2.trans (pendingFault_frame i v).2⟩
  exact all .i4 .i3 _ _ (all .i3 .i2 _ _ (all .i2 .i1 _ _ (pendingFault_frame .i1 s)))

theorem bufferChanged_frame (n : Nat) (s : State) : Aside s (bufferChanged n s) ∧ Within raiseBlocks s (bufferChanged n s) := by
  have tested : Aside s (trackCeilingTest s) ∧ Within raiseBlocks s (trackCeilingTest s) :=
    ⟨(setCeiling_calm s _ _).aside, (setCeiling_calm s _ _).toWithin.mono (by decide)⟩
  unfold bufferChanged
  split
  · exact ⟨.refl s, .refl _ s⟩
  · split
    · exact ⟨tested.1.trans (raise_aside _ _), tested.2.trans (raise_within _ _)⟩
    · exact tested

/-- The berths take the occupancy of the track's places (R81). -/
theorem occupyBerths_occupied (s : State) (i : Idx4) :
    ((occupyBerths s).berth i).occupied = (s.track.berths.get i).isSome := by
  have get : (occupyBerths s).berth i = (s.berth i).occupy (s.track.berths.get i).isSome := by
    unfold occupyBerths changeBerths
    split <;> simp [State.berth_eq, occupied_get]
  rw [get, (Berth.occupy_keeps _ _).1]

/-- The state of an index-done before the gate's test: places shifted, berths occupied, pending faults taken. -/
theorem indexDone_eq {st : IndexStep} (h : s.track.step = some st) : ∃ u, indexDone s = indexTest (gateTest u) ∧
    SameTrack { s with track := s.track.shift } u ∧ (∀ i, (u.berth i).occupied = (s.track.shift.berths.get i).isSome) ∧
    Within doorBlocks s u := by
  have shifted : Within doorBlocks s (occupyBerths { s with track := s.track.shift }) :=
    Within.trans ((setTrack_calm s.track.shift s).toWithin.mono (by decide))
      ((changeBerths_calm _ _).toWithin.mono (by decide))
  have track : SameTrack { s with track := s.track.shift } (occupyBerths { s with track := s.track.shift }) :=
    .of_eq (changeBerths_calm _ _).track
  have occupied := occupyBerths_occupied { s with track := s.track.shift }
  have acts : indexDone s = indexTest (gateTest (offerEvent { code := 16 } (bufferChanged s.track.buffer.length
      (cycleTests (pendingFaults (occupyBerths { s with track := s.track.shift })))))) := by
    simp only [indexDone, h]
  generalize occupyBerths { s with track := s.track.shift } = v at *
  have faulted := pendingFaults_frame v
  have cycled := cycleTests_calm (pendingFaults v)
  have counted := bufferChanged_frame s.track.buffer.length (cycleTests (pendingFaults v))
  have aside := ((faulted.1.trans (cycleTests_aside _)).trans counted.1).trans (offerEvent_aside { code := 16 } _)
  refine ⟨_, acts, track.trans aside.track, fun i => (aside.occupied i).trans (occupied i), ?_⟩
  exact (((shifted.trans faulted.2.toWithin).andThen cycled.toWithin (by decide)).andThen counted.2 (by decide)).andThen
    (offerEvent_within _ _) (by decide)

end

/-- Settles O27: the limit of a step in flight, the shift of an index-done, and the discarded input. -/
theorem indexStepEndsAsItShould : Obligations.IndexStepEndsAsItShould := by
  intro s
  refine ⟨fun st hst running unfrozen => ?_, fun st hst => ?_, fun none => ?_⟩
  · have acts : indexLimitExpired s = raise .indexJam { s with track := { s.track with step := some ⟨0, true⟩ } } := by
      simp [indexLimitExpired, hst, running, unfrozen]
    have raised := (raise_run .indexJam { s with track := { s.track with step := some ⟨0, true⟩ } }).1
    obtain ⟨track, berths⟩ := raise_of_stepping (s := { s with track := { s.track with step := some ⟨0, true⟩ } })
      .indexJam rfl
    have within := Within.trans ((setTrack_calm { s.track with step := some ⟨0, true⟩ } s).toWithin.mono (by decide))
      (raise_within _ .indexJam)
    rw [← acts] at raised track berths within
    exact ⟨_, rfl, raised, track, berths, within.desk, within.touches.drop (b := .berths) berths⟩
  · obtain ⟨u, acts, track, occupied, within⟩ := indexDone_eq hst
    obtain ⟨buffer, berths, -, -, launch⟩ := gateTest_places u
    have ended := sameTrack_indexTest (gateTest u)
    have gate := within.andThen (gateTest_within u) (by decide)
    have all := gate.andThen (indexTest_calm _).toWithin (by decide)
    refine ⟨_, congrArg Host.Outcome.next acts, ?_, ?_, ?_, fun i => ?_, all.desk, all.touches⟩
    · rw [ended, buffer, track]
      rfl
    · rw [ended, berths, track]
      rfl
    · rw [track] at launch
      rw [ended]
      exact launch
    · rw [(indexTest_aside _).occupied, gateTest_occupied, occupied, ended, berths, track]
  · refine congrArg Host.Outcome.next ?_
    rw [indexDone, none]
    rfl

end Sys2Proof.Machine
end

section
/-! SUPPORT. An entry at the buffer's tail: what its match with the roster gives it, and what follows (R52 to R54, R116 to
R119). -/

namespace Sys2Proof.Machine

open Config

section
variable {s t : State} {r x : CarrierRec}

/-! ### The overrun (R52) -/

theorem demandTransition_emergency {src : Source} (h : src.cls = .emergency) (s : State) :
    demandTransition src s = s ∨ demandTransition src s = enterState .tripped (.demand src) s := by
  unfold demandTransition
  rw [h]
  split
  iterate 4 exact .inr rfl
  iterate 2 contradiction
  exact .inl rfl

/-- A demand of class Emergency leads to Tripped, where no index step starts. -/
theorem raise_emergency_track {src : Source} (h : src.cls = .emergency) (s : State) : (raise src s).track = s.track := by
  unfold raise
  split
  · rfl
  · simp only [giveClass_keeps]
    rcases demandTransition_emergency h (queueReport (.stopDemand src src.cls)
      { s with run := { s.run with demands := addSource src s.run.demands } }) with same | tripped
    · rw [same]
      simp
    · rw [tripped, enterState_of_ne_starting (by decide), indexTest_of_held _ (by simp [runIndexes])]
      simp

/-! ### Records passed over (R112, R116) -/

theorem reportSkipped_calm (l : List RosterRec) (s : State) : Calm [.line, .desk] s (reportSkipped l s) := by
  induction l generalizing s with
  | nil => exact .refl _ s
  | cons y l ih => exact (queueReport_calm s _).trans (ih _)

theorem passedOver_within (leg : Leg) (l : List RosterRec) (s : State) : Within raiseBlocks s (passedOver leg l s) := by
  unfold passedOver
  split
  · exact ((reportSkipped_calm _ s).toWithin.mono (by decide)).trans (raise_within _ _)
  · exact .refl _ s

/-- Order is raised exactly where a record is passed over. -/
theorem passedOver_order (leg : Leg) (l : List RosterRec) (s : State) :
    Source.order ∈ (passedOver leg l s).run.demands ↔
      (∃ y ∈ l, y.leg = leg) ∨ Source.order ∈ s.run.demands := by
  unfold passedOver
  split
  · rename_i passed
    rw [mem_raise]
    simpa [onLeg] using Or.inl passed
  · rename_i none
    have nobody : ¬ ∃ y ∈ l, y.leg = leg := by simpa [onLeg] using none
    exact (or_iff_right nobody).symm

/-! ### The match with the roster (R116 to R119) -/

/-- The new record at the tail of the buffer as it was before the entry. -/
def withTail (r : CarrierRec) (s : State) : State :=
  { s with track := { s.track with buffer := s.track.buffer ++ [r] } }

theorem setTail_withTail (r x : CarrierRec) (s : State) : setTail x (withTail r s) = withTail x s := setTail_append r x s

theorem withTail_within (r : CarrierRec) (s : State) : Within (.roster :: eventBlocks) s (withTail r s) :=
  (setTrack_calm _ s).toWithin.mono (by decide)

/-- The state in which a matched record has left the roster for the buffer's tail. -/
def taken (unread : Bool) (before : List RosterRec) (x : RosterRec) (behind : List RosterRec) (r : CarrierRec) (s : State) :
    State :=
  rosterWith ((if unread then before else before.map (skipLeg .inbound)) ++ behind) (withTail (adopt unread x r) s)

theorem takeMatch_eq (unread : Bool) (before : List RosterRec) (x : RosterRec) (behind : List RosterRec) (r : CarrierRec)
    (s : State) : takeMatch unread before x behind r (withTail r s) =
      gateTest (if unread then taken unread before x behind r s
        else passedOver .inbound before (taken unread before x behind r s)) := by
  rw [takeMatch, setTail_withTail]
  rfl

/-- What a match leaves: the adopted record at the tail, the roster without its record, Order where records were passed
over. -/
theorem takeMatch_acts (unread : Bool) (before : List RosterRec) (x : RosterRec) (behind : List RosterRec)
    (r : CarrierRec) (s : State) : ∃ m, takeMatch unread before x behind r (withTail r s) = m ∧
      m.track.buffer = s.track.buffer ++ [adopt unread x r] ∧
      m.roster.records = (if unread then before else before.map (skipLeg .inbound)) ++ behind ∧
      (unread = false → (Source.order ∈ m.run.demands ↔
        (∃ y ∈ before, y.leg = .inbound) ∨ Source.order ∈ s.run.demands)) ∧
      Within (.roster :: eventBlocks) s m := by
  have placed : Within (.roster :: eventBlocks) s (taken unread before x behind r s) :=
    ⟨by simp [touches_iff, taken, rosterWith, withTail, eventBlocks, raiseBlocks],
      by simp [DeskQuiet, taken, rosterWith, withTail]⟩
  have buffer : (taken unread before x behind r s).track.buffer = s.track.buffer ++ [adopt unread x r] := rfl
  have records : (taken unread before x behind r s).roster.records =
      (if unread then before else before.map (skipLeg .inbound)) ++ behind := rfl
  have demands : (taken unread before x behind r s).run = s.run := rfl
  rw [takeMatch_eq]
  generalize taken unread before x behind r s = u at *
  cases unread with
  | true =>
    have gate := gateTest_within u
    exact ⟨_, rfl, (gateTest_places u).1.trans buffer, by rw [if_pos rfl, gate.roster, records], (fun h => nomatch h),
      placed.andThen gate (by decide)⟩
  | false =>
    have passed := passedOver_within .inbound before u
    have order := passedOver_order .inbound before u
    have same := SameTrack.passedOver .inbound before u
    simp only [Bool.false_eq_true, if_false] at records ⊢
    generalize passedOver .inbound before u = v at *
    have gate := gateTest_within v
    refine ⟨_, rfl, (gateTest_places v).1.trans (same.buffer.trans buffer), by rw [gate.roster, passed.roster, records],
      fun _ => ?_, (placed.andThen passed (by decide)).andThen gate (by decide)⟩
    rw [(Settles.gateTest (.refl v)).own _ (.inr (.inr rfl)), order, demands]

theorem splitFirst_none {p : RosterRec → Bool} {l : List RosterRec} (h : ∀ y ∈ l, p y = false) :
    splitFirst p l = none := by
  induction l with
  | nil => rfl
  | cons y l ih =>
    obtain ⟨hy, hl⟩ := List.forall_mem_cons.mp h
    simp [splitFirst, hy, ih hl]

section
variable {borne : Bool}

theorem matchEntry_unreadMatch {before behind : List RosterRec} {y : RosterRec} (hr : r.number = 0)
    (records : s.roster.records = before ++ y :: behind) (hy : y.leg = .inbound)
    (older : ∀ z ∈ before, z.leg ≠ .inbound) :
    matchEntry borne r (withTail r s) = takeMatch true before y behind r (withTail r s) := by
  have found : splitFirst (onLeg .inbound) (withTail r s).roster.records = some (before, y, behind) := by
    rw [show (withTail r s).roster.records = before ++ y :: behind from records]
    exact splitFirst_append_cons behind (fun z hz => by simp [onLeg, older z hz]) (by simp [onLeg, hy])
  simp only [matchEntry, if_pos hr, found]

theorem matchEntry_unreadAlone (hr : r.number = 0) (nobody : ∀ y ∈ s.roster.records, y.leg ≠ .inbound) :
    matchEntry borne r (withTail r s) = withTail ((r.mark .unread).mark .stranger) s := by
  have found : splitFirst (onLeg .inbound) (withTail r s).roster.records = none :=
    splitFirst_none fun z hz => by simp [onLeg, nobody z hz]
  simp only [matchEntry, if_pos hr, found]
  exact setTail_withTail _ _ _

theorem matchEntry_match {before behind : List RosterRec} {y : RosterRec} (hr : r.number ≠ 0)
    (records : s.roster.records = before ++ y :: behind) (hy : y.leg = .inbound) (number : y.carrier.number = r.number)
    (older : ∀ z ∈ before, z.leg = .inbound → z.carrier.number ≠ r.number) :
    matchEntry borne r (withTail r s) = takeMatch false before y behind r (withTail r s) := by
  have found : splitFirst (fun x => onLeg .inbound x && bears r.number x) (withTail r s).roster.records =
      some (before, y, behind) := by
    rw [show (withTail r s).roster.records = before ++ y :: behind from records]
    refine splitFirst_append_cons behind (fun z hz => ?_) (by simp [onLeg, hy, bears, number])
    by_cases leg : z.leg = .inbound
    · simp [onLeg, leg, bears, older z hz leg]
    · simp [onLeg, leg]
  simp only [matchEntry, if_neg hr, found]

theorem matchEntry_alone (hr : r.number ≠ 0)
    (nobody : ∀ y ∈ s.roster.records, y.carrier.number = r.number → y.leg ≠ .inbound) :
    matchEntry borne r (withTail r s) = withTail (if borne then r.mark .duplicate
      else if s.track.settings.acceptUnlisted then r else r.mark .stranger) s := by
  have found : splitFirst (fun x => onLeg .inbound x && bears r.number x) (withTail r s).roster.records = none := by
    refine splitFirst_none fun z hz => ?_
    by_cases number : z.carrier.number = r.number
    · simp [onLeg, nobody z hz number]
    · simp [bears, number]
  simp only [matchEntry, if_neg hr, found, setTail_withTail]
  cases borne
  · simp only [Bool.false_eq_true, if_false]
    rw [show (withTail r s).track.settings = s.track.settings from rfl]
    cases s.track.settings.acceptUnlisted <;> rfl
  · rfl

end

theorem splitFirst_cases (p : RosterRec → Bool) (l : List RosterRec) : (∀ y ∈ l, p y = false) ∨
    ∃ before y behind, l = before ++ y :: behind ∧ p y = true ∧ ∀ z ∈ before, p z = false := by
  induction l with
  | nil => exact .inl (by simp)
  | cons y l ih =>
    cases hy : p y with
    | true => exact .inr ⟨[], y, l, rfl, hy, by simp⟩
    | false =>
      rcases ih with none | ⟨before, z, behind, rfl, hz, older⟩
      · exact .inl (List.forall_mem_cons.mpr ⟨hy, none⟩)
      · exact .inr ⟨y :: before, z, behind, rfl, hz, List.forall_mem_cons.mpr ⟨hy, older⟩⟩

/-- Whatever the match finds, the new record is the buffer's tail: with its own travel, and its own number where its tag
was read. -/
theorem matchEntry_tail (borne : Bool) (r : CarrierRec) (s : State) : ∃ x,
    (matchEntry borne r (withTail r s)).track.buffer = s.track.buffer ++ [x] ∧
      Within (.roster :: eventBlocks) s (matchEntry borne r (withTail r s)) ∧
      x = { r with number := x.number, marks := x.marks, force := x.force } ∧ (r.number ≠ 0 → x.number = r.number) := by
  have adopted (unread : Bool) (y : RosterRec) : adopt unread y r = { r with
      number := (adopt unread y r).number, marks := (adopt unread y r).marks, force := (adopt unread y r).force } := by
    cases unread <;> rfl
  by_cases hr : r.number = 0
  · rcases splitFirst_cases (onLeg .inbound) s.roster.records with none | ⟨before, y, behind, records, hy, older⟩
    · rw [matchEntry_unreadAlone hr fun z hz => by simpa [onLeg] using none z hz]
      exact ⟨_, rfl, withTail_within _ s, rfl, fun h => absurd hr h⟩
    · rw [matchEntry_unreadMatch hr records (by simpa [onLeg] using hy) fun z hz => by simpa [onLeg] using older z hz]
      obtain ⟨m, acts, buffer, -, -, within⟩ := takeMatch_acts true before y behind r s
      rw [acts]
      exact ⟨_, buffer, within, adopted _ _, fun h => absurd hr h⟩
  · rcases splitFirst_cases (fun x => onLeg .inbound x && bears r.number x) s.roster.records with
      none | ⟨before, y, behind, records, hy, older⟩
    · rw [matchEntry_alone hr fun z hz number => by simpa [onLeg, bears, number] using none z hz]
      refine ⟨_, rfl, withTail_within _ s, ?_, fun _ => ?_⟩
      all_goals cases borne <;> cases s.track.settings.acceptUnlisted <;> rfl
    · simp only [onLeg, bears, Bool.and_eq_true, decide_eq_true_eq] at hy
      rw [matchEntry_match hr records hy.1 hy.2 fun z hz leg => by simpa [onLeg, bears, leg] using older z hz]
      obtain ⟨m, acts, buffer, -, -, within⟩ := takeMatch_acts false before y behind r s
      rw [acts]
      exact ⟨_, buffer, within, adopted _ _, fun _ => hy.2⟩

/-! ### What follows the match (R50, R53, R54) -/

theorem entryMarks_fields (stuck : Bool) (x : CarrierRec) :
    entryMarks stuck x = { x with marks := (entryMarks stuck x).marks } := by
  unfold entryMarks
  simp only []
  (repeat' split) <;> rfl

theorem mem_entryMarks (stuck : Bool) (x : CarrierRec) (m : Mark) : m ∈ (entryMarks stuck x).marks ↔
    m ∈ x.marks ∨ (m = .held ∧ (Mark.gripFail ∈ x.marks ∨ Mark.noTest ∈ x.marks)) ∨ (m = .stuck ∧ stuck = true) := by
  unfold entryMarks
  by_cases graded : Mark.gripFail ∈ x.marks ∨ Mark.noTest ∈ x.marks <;> cases stuck <;>
    simp only [graded, if_true, if_false, CarrierRec.mark, mem_addMark, Bool.false_eq_true] <;> tauto

protected theorem Settles.bufferChanged {n : Nat} (h : Settles s t) : Settles s (bufferChanged n t) := by
  unfold Machine.bufferChanged
  split
  · exact h
  · split
    · exact (Settles.setCeiling h).raise
    · exact h.setCeiling

protected theorem Settles.indexTest (h : Settles s t) : Settles s (indexTest t) :=
  h.same (indexTest_keeps t).1 (indexTest_keeps t).2.1

/-- The entry after its match `m`, whose record at the tail is `x`. -/
def entered (stuck : Bool) (count : Nat) (x : CarrierRec) (m : State) : State :=
  let r2 := entryMarks stuck x
  let s3 := setTail r2 m
  let s4 := if stuck then raise .gripStuck s3 else s3
  let s6 := offerEvent { code := 2, carrier := carrierOf r2.number r2.marks } (bufferChanged count s4)
  indexTest (queueReport (carrierReport (.entry stuck s6.track.buffer.length) .buffer r2) s6)

theorem entry_eq {tag : Nat} {stuck : Bool} {m : State} {x : CarrierRec} (room : s.track.buffer.length < 6)
    (hm : matchEntry (borne (entryTag tag) s) (entryRecord (entryTag tag) stuck s.update.t)
      (withTail (entryRecord (entryTag tag) stuck s.update.t) s) = m) (hx : m.track.buffer = s.track.buffer ++ [x]) :
    entry tag stuck s = entered stuck s.track.buffer.length x m := by
  have tail : tailRecord (entryRecord (entryTag tag) stuck s.update.t) m = x := by simp [tailRecord, hx]
  have open_ : ¬ bufferPlaces ≤ s.track.buffer.length := by
    unfold bufferPlaces
    omega
  unfold entry
  rw [if_neg open_]
  simp only []
  rw [show ({ s with track := { s.track with
    buffer := s.track.buffer ++ [entryRecord (entryTag tag) stuck s.update.t] } } : State) =
      withTail (entryRecord (entryTag tag) stuck s.update.t) s from rfl, hm, tail]
  rfl

theorem entered_acts {m : State} (stuck : Bool) (count : Nat) (hx : m.track.buffer = s.track.buffer ++ [x]) :
    (entered stuck count x m).track.buffer = s.track.buffer ++ [entryMarks stuck x] ∧
      Settles m (entered stuck count x m) ∧ Within eventBlocks m (entered stuck count x m) ∧
      (stuck = true → Source.gripStuck ∈ (entered stuck count x m).run.demands) := by
  have set : Calm [.track] m (setTail (entryMarks stuck x) m) := setTrack_calm _ m
  have buffer : (setTail (entryMarks stuck x) m).track.buffer = s.track.buffer ++ [entryMarks stuck x] := by
    simp [setTail, hx]
  have still : Settles m (setTail (entryMarks stuck x) m) := (Settles.refl m).same rfl rfl
  unfold entered
  simp only []
  generalize entryMarks stuck x = r2 at *
  generalize setTail r2 m = u at *
  have stuckRaised : SameTrack u (if stuck then raise .gripStuck u else u) ∧
      Settles u (if stuck then raise .gripStuck u else u) ∧ Within raiseBlocks u (if stuck then raise .gripStuck u else u) ∧
      (stuck = true → Source.gripStuck ∈ (if stuck then raise .gripStuck u else u).run.demands) := by
    cases stuck
    · exact ⟨.of_eq rfl, .refl u, .refl _ u, (fun h => nomatch h)⟩
    · exact ⟨sameTrack_raise _ _, (Settles.refl u).raise, raise_within _ _, fun _ => (mem_raise _ _ _).mpr (.inl rfl)⟩
  obtain ⟨track, settles, within, stuckIn⟩ := stuckRaised
  generalize (if stuck then raise .gripStuck u else u) = v at *
  have counted := bufferChanged_frame count v
  have tail : Settles v (offerEvent { code := 2, carrier := carrierOf r2.number r2.marks } (bufferChanged count v)) :=
    (Settles.refl v).bufferChanged.offerEvent
  have same := counted.1.track.trans
    (sameTrack_offerEvent { code := 2, carrier := carrierOf r2.number r2.marks } (bufferChanged count v))
  have events := counted.2.mono (cs := eventBlocks) (by decide) |>.trans
    (offerEvent_within (bufferChanged count v) { code := 2, carrier := carrierOf r2.number r2.marks })
  generalize offerEvent { code := 2, carrier := carrierOf r2.number r2.marks } (bufferChanged count v) = w at *
  have ended : Settles v (indexTest (queueReport (carrierReport (.entry stuck w.track.buffer.length) .buffer r2) w)) :=
    tail.queueReport.indexTest
  refine ⟨?_, still.trans (settles.trans ended), ?_, fun h => ended.kept (stuckIn h)⟩
  · rw [((sameTrack_queueReport _ w).trans (sameTrack_indexTest _)).buffer, same.buffer, track.buffer, buffer]
  · refine Within.trans ((set.toWithin.mono (by decide)).trans (within.mono (by decide))) ?_
    exact (events.andThen (queueReport_calm _ _).toWithin (by decide)).andThen (indexTest_calm _).toWithin (by decide)

theorem bearers_eq_nil_iff (n : Nat) (s : State) : bearers n s = [] ↔ ∀ p ∈ placed s, p.2.number ≠ n := by
  simp [bearers, List.filter_eq_nil_iff]

theorem entryTag_read {tag : Nat} (high : tag ≤ 250) : entryTag tag = tag := by
  simp [entryTag, Nat.not_lt.mpr high]

theorem entryTag_unread {tag : Nat} (h : tag = 0 ∨ 250 < tag) : entryTag tag = 0 := by
  unfold entryTag
  split <;> omega

theorem mem_unionMarks (m : Mark) (a b : List Mark) : m ∈ unionMarks a b ↔ m ∈ a ∨ m ∈ b := by
  simp [unionMarks, Mark.mem_all]

end

/-- Settles O26: the overrun; else the record that the match leaves at the tail, by the tag and what the roster holds. -/
theorem entryJoinsTheBuffer : Obligations.EntryJoinsTheBuffer := by
  intro tag stuck s
  refine ⟨fun full => ?_, fun room => ?_⟩
  · have acts : entry tag stuck s =
        queueReport (.carrier (.overrun stuck) (entryTag tag) .none []) (raise .entryOverrun s) := by
      have closed : bufferPlaces ≤ s.track.buffer.length := full
      simp [entry, closed]
    have raised := (raise_run .entryOverrun s).1
    have track := raise_emergency_track (src := .entryOverrun) rfl s
    have within := (raise_within s .entryOverrun).andThen (queueReport_calm (raise .entryOverrun s)
      (.carrier (.overrun stuck) (entryTag tag) .none [])).toWithin (by decide)
    have same : (queueReport (.carrier (.overrun stuck) (entryTag tag) .none []) (raise .entryOverrun s)).track = s.track := by
      rw [(queueReport_calm _ _).track, track]
    have run : Raised .entryOverrun s
        (queueReport (.carrier (.overrun stuck) (entryTag tag) .none []) (raise .entryOverrun s)) := by
      simpa [Raised] using raised
    rw [← acts] at within same run
    exact ⟨_, rfl, run, same, within.desk, within.touches.drop (b := .track) same⟩
  · obtain ⟨x, buffer, matched, header, number⟩ := matchEntry_tail (borne (entryTag tag) s)
      (entryRecord (entryTag tag) stuck s.update.t) s
    have tail (y : CarrierRec) (h : (matchEntry (borne (entryTag tag) s) (entryRecord (entryTag tag) stuck s.update.t)
        (withTail (entryRecord (entryTag tag) stuck s.update.t) s)).track.buffer = s.track.buffer ++ [y]) : x = y := by
      have := buffer.symm.trans h
      simpa using this
    have acts := entry_eq room rfl buffer
    obtain ⟨ends, settles, within, stuckIn⟩ := entered_acts stuck s.track.buffer.length buffer
    rw [← acts] at ends settles within stuckIn
    have marks := mem_entryMarks stuck x
    have fields := entryMarks_fields stuck x
    refine ⟨_, entryMarks stuck x, rfl, ends, ?_, ?_, ?_, ?_, ?_, fun low high => ?_, fun h => ⟨?_, stuckIn h⟩,
      fun graded => ?_, fun low high none => ?_, fun unread none => ?_,
      fun before y behind unread records leg older => ?_,
      fun before y behind low high records leg number older => ?_,
      (matched.andThen within (by decide)).desk, (matched.andThen within (by decide)).touches⟩
    · rw [fields, header]; rfl
    · rw [fields, header]; rfl
    · rw [fields, header]; rfl
    · rw [fields, header]; rfl
    · rw [fields, header]; rfl
    · rw [fields]
      refine (number ?_).trans (entryTag_read high)
      rw [entryRecord, entryTag_read high]
      exact Nat.ne_of_gt low
    · exact (marks _).mpr (.inr (.inr ⟨rfl, h⟩))
    · simp only [marks, reduceCtorEq, false_and, or_false] at graded
      exact (marks _).mpr (.inr (.inl ⟨rfl, graded⟩))
    · have hr : (entryRecord (entryTag tag) stuck s.update.t).number ≠ 0 := by
        rw [entryRecord, entryTag_read high]
        exact Nat.ne_of_gt low
      have alone := matchEntry_alone (borne := borne (entryTag tag) s) hr fun z hz h =>
        none z hz (h.trans (entryTag_read high))
      rw [alone] at tail within
      have tailed := tail _ rfl
      refine ⟨within.roster, ?_, fun borne_ => ?_, fun free => ?_⟩
      · rw [fields, tailed]
        simp only []
        (repeat' split) <;> rfl
      · have borneTrue : borne (entryTag tag) s = true := by
          obtain ⟨p, hp, hn⟩ := borne_
          rw [entryTag_read high]
          by_contra none
          have none' : bearers tag s = [] := by simpa [borne] using none
          exact (bearers_eq_nil_iff tag s).mp none' p hp hn
        rw [marks, tailed, borneTrue]
        exact .inl (by simp [CarrierRec.mark])
      · have borneFalse : borne (entryTag tag) s = false := by
          rw [entryTag_read high, borne, (bearers_eq_nil_iff tag s).mpr free]
          rfl
        rw [marks, tailed, borneFalse]
        cases accept : s.track.settings.acceptUnlisted <;> simp [CarrierRec.mark, entryRecord]
    · have hr : (entryRecord (entryTag tag) stuck s.update.t).number = 0 := entryTag_unread unread
      have alone := matchEntry_unreadAlone (borne := borne (entryTag tag) s) hr none
      rw [alone] at tail within
      have tailed := tail _ rfl
      refine ⟨?_, ?_, ?_, within.roster⟩
      · rw [fields, tailed]
        exact hr
      · rw [marks, tailed]
        simp [CarrierRec.mark]
      · rw [marks, tailed]
        simp [CarrierRec.mark]
    · have hr : (entryRecord (entryTag tag) stuck s.update.t).number = 0 := entryTag_unread unread
      obtain ⟨m, acts', buffer', records', -, -⟩ := takeMatch_acts true before y behind
        (entryRecord (entryTag tag) stuck s.update.t) s
      have found := (matchEntry_unreadMatch (borne := borne (entryTag tag) s) hr records leg older).trans acts'
      rw [found] at tail within
      have tailed := tail _ buffer'
      refine ⟨?_, ?_, ?_, ?_, by rw [within.roster, records']; rfl⟩
      · rw [fields, tailed]
        rfl
      · rw [marks, tailed]
        simp [adopt, CarrierRec.mark]
      · rw [marks, tailed]
        simp [adopt, CarrierRec.mark]
      · rw [fields, tailed]
        rfl
    · have read := entryTag_read high
      have hr : (entryRecord (entryTag tag) stuck s.update.t).number ≠ 0 := by
        rw [entryRecord, read]
        exact Nat.ne_of_gt low
      obtain ⟨m, acts', buffer', records', order, -⟩ := takeMatch_acts false before y behind
        (entryRecord (entryTag tag) stuck s.update.t) s
      have found := (matchEntry_match (borne := borne (entryTag tag) s) hr records leg (number.trans read.symm)
        fun z hz h => by
          rw [show (entryRecord (entryTag tag) stuck s.update.t).number = tag from read]
          exact older z hz h).trans acts'
      rw [found] at tail within settles
      have tailed := tail _ buffer'
      have given : ∀ m, m ∈ x.marks ↔ m ∈ removeMarks [.skipped, .unread, .inferred] y.carrier.marks := fun m => by
        rw [tailed]
        simp [adopt, mem_unionMarks, entryRecord]
      have ordered := (settles.own .order (.inr (.inr rfl))).trans (order rfl)
      refine ⟨?_, ?_, ?_, ?_, fun m hm h1 h2 h3 => ?_, ?_, fun z hz h => ordered.mpr (.inl ⟨z, hz, h⟩), fun none => ?_⟩
      · rw [fields, tailed]
        rfl
      · simp [marks, given, removeMarks]
      · simp [marks, given, removeMarks]
      · simp [marks, given, removeMarks]
      · exact (marks m).mpr (.inl ((given m).mpr (by simp [removeMarks, hm, h1, h2, h3])))
      · rw [within.roster, records']
        rfl
      · rw [ordered]
        exact or_iff_right fun ⟨z, hz, h⟩ => none z hz h

end Sys2Proof.Machine
end

section
/-! SUPPORT. The roster: passages out of order and of strangers, the roster's requests, and the positions after a window
end (R107 to R114, R120, R121). -/

namespace Sys2Proof.Machine

open Config

section
variable {s t : State} {n : Nat} {before behind : List RosterRec} {r : RosterRec}

/-! ### Passages (R112 to R114) -/

theorem countLine_calm (f : LineCounts → LineCounts) (s : State) : Within [.line] s (countLine f s) :=
  ⟨by simp [touches_iff, countLine], by simp [DeskQuiet, countLine]⟩

theorem passage_departed (h : n ≤ 250) (metres : Nat) (s : State) : passage true n metres s =
    departed n metres (countLine (fun c => { c with passages := satInc c.passages }) s) := by
  simp [passage, Nat.not_lt.mpr h]

theorem departed_of_split {metres : Nat} (hn : 1 ≤ n) (leg : r.leg ≠ .outbound)
    (h : splitFirst (fun x => !onLeg .inbound x && bears n x) s.roster.records = some (before, r, behind)) :
    departed n metres s =
      rosterWith (before ++ r.depart s.roster.lUp s.update.t metres :: behind) s := by
  simp [departed, Nat.ne_of_gt hn, h, leg]

/-- An arrival behind other Outbound records: those are passed over (R112). -/
theorem arrived_late (hn : 1 ≤ n) (records : s.roster.records = before ++ r :: behind) (leg : r.leg = .outbound)
    (number : r.carrier.number = n) (older : ∀ x ∈ before, x.leg = .outbound → x.carrier.number ≠ n) :
    arrived n s = passedOver .outbound before
      (rosterWith (before.map (skipLeg .outbound) ++ r.arrive s.roster.lUp :: behind) s) := by
  refine arrived_of_split hn ?_
  rw [records]
  refine splitFirst_append_cons behind (fun x hx => ?_) (by simp [onLeg, leg, bears, number])
  by_cases out : x.leg = .outbound
  · simp [onLeg, out, bears, older x hx out]
  · simp [onLeg, out]

/-- A number that no roster record bears, or 0, moves no record (R113, R114). -/
theorem passage_stranger {departing : Bool} {metres : Nat}
    (h : n = 0 ∨ ∀ x ∈ s.roster.records, x.carrier.number ≠ n) :
    Aside s (if departing then departed n metres s else arrived n s) ∧
      Within eventBlocks s (if departing then departed n metres s else arrived n s) := by
  have split (p : RosterRec → Bool) (hp : ∀ x, p x = true → x.carrier.number = n) :
      (if n = 0 then none else splitFirst p s.roster.records) = none := by
    rcases h with zero | nobody
    · rw [if_pos zero]
    · rw [splitFirst_none fun y hy => Bool.eq_false_iff.mpr fun hpy => nobody y hy (hp y hpy)]
      split <;> rfl
  have reported (found : Option RosterRec) := queueReport_calm s (strangerReport n found)
  cases departing with
  | true =>
    have acts : departed n metres s = queueReport (strangerReport n (rosterFind n s)) s := by
      unfold departed
      rw [split _ fun x hx => by simpa [bears] using (Bool.and_eq_true_iff.mp hx).2]
    simp only [if_true, acts]
    exact ⟨(reported _).aside, (reported _).toWithin.mono (by decide)⟩
  | false =>
    simp only [Bool.false_eq_true, if_false]
    unfold arrived
    rw [split _ fun x hx => by simpa [bears] using (Bool.and_eq_true_iff.mp hx).2]
    exact ⟨(reported _).aside.trans (offerEvent_aside _ _),
      ((reported _).toWithin.mono (by decide)).trans (offerEvent_within _ _)⟩

end

/-- Settles O39: an arrival out of order by the records passed over; a departure as one edit; a stranger by what its
report and its event leave. -/
theorem otherPassagesMoveTheRecord : Obligations.OtherPassagesMoveTheRecord := by
  refine ⟨fun n metres before behind r s hn hmax records number => ⟨fun leg older passed => ?_, fun leg older => ?_⟩,
    fun n metres departing s h => ?_⟩
  · have acts := (passage_arrived hmax metres s).trans (arrived_late
      (s := countLine (fun c => { c with passages := satInc c.passages }) s) hn records leg number older)
    have counted := countLine_calm (fun c => { c with passages := satInc c.passages }) s
    have moved : Within [.roster] (countLine (fun c => { c with passages := satInc c.passages }) s)
        (rosterWith (before.map (skipLeg .outbound) ++ r.arrive s.roster.lUp :: behind)
          (countLine (fun c => { c with passages := satInc c.passages }) s)) :=
      ⟨by simp [touches_iff, rosterWith], by simp [DeskQuiet, rosterWith]⟩
    have run : (rosterWith (before.map (skipLeg .outbound) ++ r.arrive s.roster.lUp :: behind)
        (countLine (fun c => { c with passages := satInc c.passages }) s)).run = s.run := rfl
    have held : (rosterWith (before.map (skipLeg .outbound) ++ r.arrive s.roster.lUp :: behind)
        (countLine (fun c => { c with passages := satInc c.passages }) s)).roster.records =
      before.map (skipLeg .outbound) ++ r.arrive s.roster.lUp :: behind := rfl
    change passage false n metres s = passedOver .outbound before
      (rosterWith (before.map (skipLeg .outbound) ++ r.arrive s.roster.lUp :: behind)
        (countLine (fun c => { c with passages := satInc c.passages }) s)) at acts
    generalize rosterWith (before.map (skipLeg .outbound) ++ r.arrive s.roster.lUp :: behind)
      (countLine (fun c => { c with passages := satInc c.passages }) s) = u at *
    have any : before.any (onLeg .outbound) = true := by simpa [onLeg] using passed
    have passedEq : passedOver .outbound before u = raise .order (reportSkipped (newlySkipped .outbound before) u) :=
      if_pos any
    have skipped := reportSkipped_calm (newlySkipped .outbound before) u
    have raised := (raise_run .order (reportSkipped (newlySkipped .outbound before) u)).1
    have within := passedOver_within .outbound before u
    rw [← passedEq] at raised
    have all := ((counted.mono (cs := [.run, .gov, .track, .berths, .roster, .line, .desk]) (by decide)).andThen moved
      (by decide)).andThen within (by decide)
    refine ⟨_, congrArg Host.Outcome.next acts, ?_, all.desk, ?_, all.touches⟩
    · rw [Raised, skipped.run, run] at raised
      exact raised
    · rw [within.roster, held]
      rfl
  · have found : splitFirst (fun x => !onLeg .inbound x && bears n x) s.roster.records = some (before, r, behind) := by
      rw [records]
      refine splitFirst_append_cons behind (fun x hx => ?_) (by simp [onLeg, leg, bears, number])
      by_cases inbound : x.leg = .inbound
      · simp [onLeg, inbound]
      · simp [onLeg, inbound, bears, older x hx inbound]
    have acts := (passage_departed hmax metres s).trans (departed_of_split (metres := metres)
      (s := countLine (fun c => { c with passages := satInc c.passages }) s) hn (by simp [leg]) found)
    refine congrArg Host.Outcome.next (acts.trans ?_)
    simp [rosterWith, RosterRec.depart, leg, countLine, Line.count, travelAdd, satInc, countMax]
  · have counted := countLine_calm (fun c => { c with passages := satInc c.passages }) s
    have stranger := passage_stranger (n := if 250 < n then 0 else n) (departing := departing) (metres := metres)
      (s := countLine (fun c => { c with passages := satInc c.passages }) s) (by
        split
        · exact .inl rfl
        · exact h.imp_right fun k => k.resolve_left ‹_›)
    have acts : passage departing n metres s = if departing then
        departed (if 250 < n then 0 else n) metres (countLine (fun c => { c with passages := satInc c.passages }) s)
        else arrived (if 250 < n then 0 else n) (countLine (fun c => { c with passages := satInc c.passages }) s) := rfl
    rw [← acts] at stranger
    obtain ⟨aside, within⟩ := stranger
    have all := (counted.mono (cs := eventBlocks) (by decide)).trans within
    refine ⟨_, rfl, within.roster, all.desk, all.touches, ?_, aside.track.buffer⟩
    rw [aside.line]
    rfl

/-! ### The requests (R120, R121) -/

theorem gateTest_of_still {s : State} (h : s.run.state ≠ .running) : gateTest s = s := by
  rcases gateTest_cases s with same | ⟨r, -, opens, -⟩
  · exact same
  · exact absurd ((gateOpen_iff s r).mp opens).1 h

theorem setRoster_calm (k : Roster) (s : State) : Calm [.roster] s { s with roster := k } :=
  ⟨⟨by simp [touches_iff], by simp [DeskQuiet]⟩, by simp [lineQuiet_iff]⟩

/-- Settles O40, by the tests of R120 and R121. -/
theorem rosterRequestsAct : Obligations.RosterRequestsAct := by
  intro tag s free
  refine ⟨fun n before r behind state low high records number older => ?_, fun n running tripped => ?_,
    fun n state low high nobody => ?_, fun u d k state h1 h2 h3 h4 h5 h6 => ?_⟩
  · have found : splitFirst (bears n) s.roster.records = some (before, r, behind) := by
      rw [records]
      exact splitFirst_append_cons behind (fun x hx => by simp [bears, older x hx]) (by simp [bears, number])
    have set := setRoster_calm { s.roster with records := before ++ behind } s
    have reported := queueReport_calm (rosterWith (before ++ behind) s)
      (.carrier (.removed r.leg (coordOf r.position)) n .roster r.carrier.marks)
    have calm := (set.mono (cs := [.roster, .line, .desk]) (by decide)).andThen reported (by decide)
    have accepted : perform (.removeCarrier n) s = (queueReport
        (.carrier (.removed r.leg (coordOf r.position)) n .roster r.carrier.marks)
        (rosterWith (before ++ behind) s), .done []) := by
      have still : (queueReport (.carrier (.removed r.leg (coordOf r.position)) n .roster r.carrier.marks)
          (rosterWith (before ++ behind) s)).run.state ≠ .running := by
        rw [reported.run]
        rcases state with h | h <;> simp [rosterWith, h]
      have inRange : ¬ (n = 0 ∨ 250 < n) := by omega
      simp only [perform, doRemoveCarrier, if_pos state, if_neg inRange, found, gateTest_of_still still]
      rfl
    exact ⟨_, congrArg Host.Outcome.next (submit_of_within free (by simp) accepted calm.toWithin), calm.answered,
      reported.roster, calm.touched (by decide), calm.lineQuiet⟩
  · exact run_refused tag free rfl (by simp) (if_neg (by simp [running, tripped]))
  · refine run_refused tag free rfl (by simp) ?_
    have inRange : ¬ (n = 0 ∨ 250 < n) := by omega
    have none := splitFirst_none (p := bears n) (l := s.roster.records) fun y hy => by simp [bears, nobody y hy]
    simp only [perform, doRemoveCarrier, if_pos state, if_neg inRange, none]
  · have calm := (setRoster_calm ⟨s.roster.records.map (placeSummit u), u, d, k⟩ s).mono (cs := [.roster, .desk])
      (by decide)
    have accepted : perform (.setGeometry u d k) s =
        ({ s with roster := ⟨s.roster.records.map (placeSummit u), u, d, k⟩ }, .done []) := by
      have inRange : 500 ≤ u ∧ u ≤ 9000 ∧ 500 ≤ d ∧ d ≤ 9000 ∧ 10 ≤ k ∧ k ≤ 500 := ⟨h1, h2, h3, h4, h5, h6⟩
      simp only [perform, doSetGeometry, if_pos state, if_pos inRange]
      rfl
    exact ⟨_, congrArg Host.Outcome.next (submit_of_within free (by simp) accepted calm.toWithin), calm.answered, rfl,
      calm.touched (by decide)⟩

/-! ### Positions at a window end (R107, R109, R110) -/

/-- A record without its exemptions. -/
def RosterRec.bare (r : RosterRec) : RosterRec := { r with exempt := [] }

/-- The roster stands but for the exemptions of its records (R151, R154). -/
def SameRoster (s t : State) : Prop :=
  t.roster = { s.roster with records := t.roster.records } ∧
    t.roster.records.map RosterRec.bare = s.roster.records.map RosterRec.bare

section
variable {s t u : State}

theorem SameRoster.of_eq (h : t.roster = s.roster) : SameRoster s t := by
  unfold SameRoster
  rw [h]
  exact ⟨rfl, rfl⟩

theorem SameRoster.trans (h : SameRoster s t) (k : SameRoster t u) : SameRoster s u :=
  ⟨k.1.trans (by rw [h.1]), k.2.trans h.2⟩

theorem sameRoster_exempt {f : RosterRec → RosterRec} (hf : ∀ r, (f r).bare = r.bare) (s : State) :
    SameRoster s { s with roster := { s.roster with records := s.roster.records.map f } } :=
  ⟨rfl, by simp [hf]⟩

theorem exemptRecord_bare (m : WatchMatch) (r : RosterRec) : (exemptRecord m r).bare = r.bare := by
  unfold exemptRecord
  split <;> rfl

theorem offerHits_roster (ms : List WatchMatch) (s : State) : (offerHits ms s).roster = s.roster := by
  induction ms generalizing s with
  | nil => rfl
  | cons m ms ih => exact (ih _).trans (offerEvent_within s _).roster

theorem stopMatches_sameRoster (ms : List WatchMatch) (s : State) : SameRoster s (stopMatches ms s) := by
  induction ms generalizing s with
  | nil => exact .of_eq rfl
  | cons m ms ih =>
    unfold stopMatches
    split
    · exact ((sameRoster_exempt (exemptRecord_bare m) s).trans (.of_eq (raise_within _ _).roster)).trans (ih _)
    · exact ih s

theorem occasion_sameRoster (ms : List WatchMatch) (s : State) : SameRoster s (occasion ms s) := by
  unfold occasion
  split
  · refine SameRoster.trans (.of_eq ?_) (stopMatches_sameRoster _ _)
    rw [offerHits_roster]
    exact (queueReport_calm _ _).roster
  · exact .of_eq rfl

theorem watchesTravel_sameRoster (s : State) : SameRoster s (watchesTravel s) := by
  have dropped := sameRoster_exempt (f := dropExemptions (occasion (carrierMatches s) s).watches.units) (fun _ => rfl)
    (occasion (carrierMatches s) s)
  exact ((occasion_sameRoster _ s).trans dropped).trans (.of_eq (setCeiling_calm _ _ _).roster)

theorem countersTravel_within (s : State) : Within eventBlocks s (countersTravel s) := by
  have set (k : Counters) : Within eventBlocks s { s with counters := k } :=
    ⟨by simp [touches_iff, eventBlocks, raiseBlocks], by simp [DeskQuiet]⟩
  unfold countersTravel
  simp only []
  split
  · exact (set _).trans (offerEvent_within _ _)
  · exact set _

theorem reportOverdue_within (l : List RosterRec) (s : State) : Within eventBlocks s (reportOverdue l s) := by
  induction l generalizing s with
  | nil => exact .refl _ s
  | cons r l ih =>
    exact ((offerEvent_within s _).andThen (queueReport_calm _ _).toWithin (by decide)).trans (ih _)

/-- A record as the travel update leaves it: its position by its leg, Overdue beyond the slack (R107, R109). -/
def travelled (k : Roster) (t : Travel) (r : RosterRec) : RosterRec :=
  let r1 := r.travel k t
  if newlyOverdue k r1 then { r1 with overdue := true } else r1

/-- The records after a travel update, and Missing where one is beyond twice the slack (R110). -/
theorem rosterTravel_acts (s : State) : ∃ v, rosterTravel s = watchesTravel v ∧
    v.roster = { s.roster with records := s.roster.records.map (travelled s.roster s.update.t) } ∧
    (missing v.roster = true → Source.missing ∈ v.run.demands) ∧ Within (.roster :: eventBlocks) s v := by
  have records : (s.roster.records.map (RosterRec.travel s.roster s.update.t)).map
      (fun r => if newlyOverdue s.roster r then { r with overdue := true } else r) =
      s.roster.records.map (travelled s.roster s.update.t) := by
    rw [List.map_map]
    rfl
  have placed : Within [.roster] s (rosterWith (s.roster.records.map (travelled s.roster s.update.t)) s) :=
    ⟨by simp [touches_iff, rosterWith], by simp [DeskQuiet, rosterWith]⟩
  have reported := reportOverdue_within ((s.roster.records.map (RosterRec.travel s.roster s.update.t)).filter
    (newlyOverdue s.roster)) (rosterWith (s.roster.records.map (travelled s.roster s.update.t)) s)
  unfold rosterTravel
  simp only [records]
  generalize reportOverdue ((s.roster.records.map (RosterRec.travel s.roster s.update.t)).filter
    (newlyOverdue s.roster)) (rosterWith (s.roster.records.map (travelled s.roster s.update.t)) s) = v at *
  have moved := (placed.mono (cs := .roster :: eventBlocks) (by decide)).andThen reported (by decide)
  refine ⟨_, rfl, ?_⟩
  split
  · refine ⟨?_, fun _ => (mem_raise _ _ _).mpr (.inl rfl), moved.andThen (raise_within _ _) (by decide)⟩
    rw [(raise_within _ _).roster, reported.roster]
    rfl
  · rename_i no
    refine ⟨?_, fun yes => absurd yes no, moved⟩
    rw [reported.roster]
    rfl

/-- Records without exemptions have joined the roster's tail. -/
def Grows (s t : State) : Prop := ∃ new : List RosterRec,
  t.roster = { s.roster with records := s.roster.records ++ new } ∧ ∀ q ∈ new, q.exempt = []

theorem Grows.of_eq (h : t.roster = s.roster) : Grows s t := ⟨[], by rw [h, List.append_nil], fun _ hq => absurd hq List.not_mem_nil⟩

theorem Grows.trans (h : Grows s t) (k : Grows t u) : Grows s u := by
  obtain ⟨l, hl, bare⟩ := h
  obtain ⟨m, hm, bare'⟩ := k
  refine ⟨l ++ m, ?_, fun q hq => (List.mem_append.mp hq).elim (bare q) (bare' q)⟩
  rw [hm, hl]
  simp only [List.append_assoc]

theorem endUntested_grows (r : CarrierRec) (s : State) :
    Grows s (endUntested true r s) ∧ Within (.roster :: eventBlocks) s (endUntested true r s) := by
  have set := (setTrack_calm { s.track with launch := some (untested r) } s).toWithin.mono (cs := raiseBlocks) (by decide)
  have raised := (set.trans (raise_within _ .lostLaunch)).andThen (queueReport_calm _
    (carrierReport (.launchResult none .noTest) .launchRecord (untested r))).toWithin (by decide)
  have done : endUntested true r s = completeLaunch .noTest (untested r) (queueReport
      (carrierReport (.launchResult none .noTest) .launchRecord (untested r))
      (raise .lostLaunch { s with track := { s.track with launch := some (untested r) } })) := rfl
  rw [done]
  generalize queueReport (carrierReport (.launchResult none .noTest) .launchRecord (untested r))
    (raise .lostLaunch { s with track := { s.track with launch := some (untested r) } }) = w at *
  have joined : Grows w (completeLaunch .noTest (untested r) w) := by
    refine ⟨[rosterRecord w.update.t .noTest (untested r)], ?_, fun q hq => ?_⟩
    · unfold completeLaunch
      rw [(gateTest_within _).roster]
    · rw [List.mem_singleton.mp hq]
      rfl
  exact ⟨(Grows.of_eq raised.roster).trans joined,
    (raised.mono (by decide)).trans (completeLaunch_acts .noTest (untested r) w).2.2⟩

/-- A travel update at the track adds at most a record to the roster (R65). -/
theorem trackTravel_grows (s : State) : Grows s (trackTravel s) ∧ Within (.roster :: eventBlocks) s (trackTravel s) := by
  have marked : Grows s (markLimit s) ∧ Within (.roster :: eventBlocks) s (markLimit s) := by
    unfold markLimit
    split
    · exact ⟨.of_eq rfl, (setTrack_calm _ s).toWithin.mono (by decide)⟩
    · exact ⟨.of_eq rfl, .refl _ s⟩
  have tested : Grows s (lostLaunchTest (markLimit s)) ∧ Within (.roster :: eventBlocks) s (lostLaunchTest (markLimit s)) := by
    generalize markLimit s = v at *
    unfold lostLaunchTest
    split
    · split
      · exact ⟨marked.1.trans (endUntested_grows _ v).1, marked.2.trans (endUntested_grows _ v).2⟩
      · exact marked
    · exact marked
  exact ⟨tested.1.trans (.of_eq (gateTest_within _).roster), tested.2.andThen (gateTest_within _) (by decide)⟩

theorem Grows.geometry (h : Grows s t) :
    t.roster.lUp = s.roster.lUp ∧ t.roster.lDown = s.roster.lDown ∧ t.roster.slack = s.roster.slack := by
  obtain ⟨l, hl, -⟩ := h
  rw [hl]
  exact ⟨rfl, rfl, rfl⟩

/-- The position that R107 gives a record, and what R109 makes of it. -/
theorem travelled_position (k : Roster) (t : Travel) (r : RosterRec) :
    (travelled k t r).position = positionOf k t (travelled k t r) ∧
      (beyond k 1 (travelled k t r) = true → (travelled k t r).overdue = true) := by
  have moved : (r.travel k t).position = positionOf k t (r.travel k t) := rfl
  unfold travelled
  simp only []
  split
  · exact ⟨moved, fun _ => rfl⟩
  · rename_i within
    refine ⟨moved, fun out => ?_⟩
    simpa [newlyOverdue, out] using within

theorem windowRaised_within (s : State) : Within raiseBlocks s (windowRaised s) := by
  rw [windowRaised_eq]
  refine Within.trans ?_ (raiseAll_within _ _)
  have governed := (setGov_calm (windowGov s) s).toWithin.mono (cs := [.gov, .line, .desk]) (by decide)
  have offered : Within [.gov, .line, .desk] s (offerTarget s.gov.target { s with gov := windowGov s }) := by
    unfold offerTarget
    split
    · exact governed
    · exact governed.andThen (offerGovernor_calm _).toWithin (by decide)
  refine Within.mono (bs := [.gov, .line, .desk]) ?_ (by decide)
  unfold windowExchanged driveExchange
  split
  · exact (offered.andThen (setGov_calm _ _).toWithin (by decide)).andThen (offerGovernor_calm _).toWithin (by decide)
  · exact offered.andThen (setGov_calm _ _).toWithin (by decide)

theorem windowResult_within (s : State) : Within eventBlocks s (windowResult s) := by
  have quiet (r : RunControl) (u : State) : Within eventBlocks u { u with run := r } :=
    ⟨by simp [touches_iff, eventBlocks, raiseBlocks], by simp [DeskQuiet]⟩
  have moved (n : RunState) (hn : n ≠ .starting) (c : Cause) (u : State) : Within eventBlocks u (enterState n c u) :=
    ⟨(enterState_touches n c u (.inr hn)).mono (by decide), enterState_deskQuiet n c u⟩
  unfold windowResult
  simp only []
  split
  · split
    · exact (moved _ (by decide) _ _).trans (gateTest_within _)
    · exact .refl _ _
  · split
    · split
      · exact (quiet _ _).trans (moved _ (by decide) _ _)
      · exact quiet _ _
    · exact quiet _ _
  · exact .refl _ _

/-- Up to its travel update a window end moves run control, the governor and what a demand or a release moves. -/
theorem windowSettled_within (s : State) : Within eventBlocks s (windowSettled s) := by
  have result := (windowRaised_within s).mono (cs := eventBlocks) (by decide) |>.trans (windowResult_within (windowRaised s))
  unfold windowSettled
  split
  · exact result.andThen (raise_within _ _) (by decide)
  · exact result

/-- The window end's roster: that of its start, with at most one record more, at the travel update. -/
theorem windowEnd_roster (s : State) : ∃ k : Roster, k.lUp = s.roster.lUp ∧ k.lDown = s.roster.lDown ∧
    k.slack = s.roster.slack ∧
    (windowEnd s).roster = { k with records := (windowEnd s).roster.records } ∧
    (windowEnd s).roster.records.map RosterRec.bare =
      (k.records.map (travelled k (windowEnd s).gov.travel)).map RosterRec.bare ∧
    ((k.records.map (travelled k (windowEnd s).gov.travel)).any (beyond k 2) = true →
      Source.missing ∈ (windowEnd s).run.demands) := by
  have travel : (windowUpdate s).t = (windowEnd s).gov.travel := by rw [windowUpdate_eq]
  have settled : (windowSettled s).roster = s.roster := (windowSettled_within s).roster
  obtain ⟨p, hp, ends, update⟩ : ∃ p : State, p.roster = s.roster ∧
      windowEnd s = countersTravel (rosterTravel (trackTravel p)) ∧ p.update = windowUpdate s :=
    ⟨{ windowSettled s with update := windowUpdate s }, settled, windowEnd_eq s, rfl⟩
  obtain ⟨grown, moved⟩ := trackTravel_grows p
  have geometry : Grows s (trackTravel p) := (Grows.of_eq hp).trans grown
  rw [← moved.update] at update
  generalize trackTravel p = u at *
  obtain ⟨hUp, hDown, hSlack⟩ := geometry.geometry
  obtain ⟨v, acts, records, gone, -⟩ := rosterTravel_acts u
  have watched := watchesTravel_sameRoster v
  have last := countersTravel_within (rosterTravel u)
  have kept : (watchesTravel v).run.demands ⊆ (windowEnd s).run.demands := by
    rw [ends, acts]
    exact (Settles.countersTravel (.refl _)).kept
  have later : v.run.demands ⊆ (watchesTravel v).run.demands := (Settles.watchesTravel (.refl v)).kept
  rw [← ends] at last
  have clock : u.update.t = (windowEnd s).gov.travel := by rw [update, ← travel]
  rw [clock] at records
  refine ⟨u.roster, hUp, hDown, hSlack, ?_, ?_, fun out => ?_⟩
  · rw [last.roster, acts, watched.1, records]
  · rw [last.roster, acts, watched.2, records]
  · refine kept (later (gone ?_))
    rw [records]
    exact out

end

/-- What R107, R109 and R110 say of one record of a roster, when the travel is `c` and the demands are `ds`. -/
def Placed (k : Roster) (c : Travel) (ds : List Source) (x : RosterRec) : Prop :=
  x.position = positionOf k c x ∧ (beyond k 1 x = true → x.overdue = true) ∧
    (beyond k 2 x = true → Source.missing ∈ ds)

theorem windowEnd_placed (s : State) {x : RosterRec} (hx : x ∈ (windowEnd s).roster.records) :
    Placed (windowEnd s).roster (windowEnd s).gov.travel (windowEnd s).run.demands x := by
  obtain ⟨k, -, -, -, geometry, bare, gone⟩ := windowEnd_roster s
  generalize windowEnd s = t at *
  have mem : x.bare ∈ (k.records.map (travelled k t.gov.travel)).map RosterRec.bare :=
    bare ▸ List.mem_map_of_mem hx
  obtain ⟨y, hy, same⟩ := List.mem_map.mp mem
  have far : beyond k 2 y = true → Source.missing ∈ t.run.demands := fun h =>
    gone (List.any_eq_true.mpr ⟨y, hy, h⟩)
  obtain ⟨r, -, placed⟩ := List.mem_map.mp hy
  obtain ⟨position, overdue⟩ := travelled_position k t.gov.travel r
  rw [placed] at position overdue
  have leg : y.leg = x.leg := (congrArg RosterRec.leg same :)
  have anchor : y.anchor = x.anchor := (congrArg RosterRec.anchor same :)
  have pos : y.position = x.position := (congrArg RosterRec.position same :)
  have late : y.overdue = x.overdue := (congrArg RosterRec.overdue same :)
  have excessEq (m : Nat) : beyond t.roster m x = beyond k m y := by
    rw [geometry]
    simp only [beyond, excess, legEnd, leg, pos]
  refine ⟨?_, fun h => late ▸ overdue (excessEq 1 ▸ h), fun h => far (excessEq 2 ▸ h)⟩
  rw [← pos, position, geometry]
  simp only [positionOf, leg, anchor]

/-- Settles O41: each record of the window end is one that the travel update placed. -/
theorem positionsFollowTheRope : Obligations.PositionsFollowTheRope := by
  intro s
  obtain ⟨k, hUp, hDown, hSlack, geometry, -, -⟩ := windowEnd_roster s
  refine ⟨windowEnd s, rfl, fun x hx => ?_, (congrArg Roster.lUp geometry).trans hUp,
    (congrArg Roster.lDown geometry).trans hDown, (congrArg Roster.slack geometry).trans hSlack⟩
  have placed := windowEnd_placed s hx
  clear hx geometry hUp hDown hSlack
  generalize windowEnd s = t at *
  obtain ⟨position, overdue, far⟩ := placed
  simp only [beyond, excess, legEnd, positionOf, travelDiff] at position overdue far
  refine ⟨fun h => ?_, fun h => ?_, fun h => ?_, fun h out => ?_, fun h out => ?_, fun h out => ?_, fun h out => ?_⟩
  all_goals simp only [h, Option.map_some, decide_eq_true_eq] at position overdue far
  · exact position
  · exact position
  · exact position
  · exact overdue (by omega)
  · exact far (by omega)
  · exact overdue (by omega)
  · exact far (by omega)

end Sys2Proof.Machine
end

section
/-! SUPPORT. The requests that name a record, and those of the launch (R68 to R73): what stands under each number
afterwards. -/

namespace Sys2Proof.Machine

open Config

section
variable {s t u : State} {n m new : Nat} {p : Place} {r : CarrierRec} {f : CarrierRec → CarrierRec}

/-! ### The records under a number (R68) -/

theorem placed_congr (track : SameTrack s t) (roster : t.roster = s.roster) : placed t = placed s := by
  unfold SameTrack at track
  unfold placed
  rw [roster, track]

theorem bearers_congr (m : Nat) (track : SameTrack s t) (roster : t.roster = s.roster) : bearers m t = bearers m s := by
  rw [bearers, placed_congr track roster, bearers]

theorem mem_placed_of_bearers (h : bearers n s = [(p, r)]) : (p, r) ∈ placed s ∧ r.number = n := by
  have mem : (p, r) ∈ bearers n s := by rw [h]; exact List.mem_singleton.mpr rfl
  simpa [bearers] using mem

theorem launchBerth_of_bearers (h : bearers n s = [(.launchBerth, r)]) : s.track.launchBerth = some r := by
  have mem := (mem_placed_of_bearers h).1
  simpa [placed] using mem

theorem placed_modifyNamed (n : Nat) (f : CarrierRec → CarrierRec) (s : State) :
    placed (modifyNamed n f s) = (placed s).map fun x => (x.1, onNumber n f x.2) := by
  have berths : (Idx4.all.filterMap fun i => ((s.track.berths.map (Option.map (onNumber n f))).get i).map
      fun r => (Place.berth i, r)) = (Idx4.all.filterMap fun i => (s.track.berths.get i).map
        fun r => (Place.berth i, r)).map fun x => (x.1, onNumber n f x.2) := by
    rw [List.map_filterMap]
    congr 1
    funext i
    simp [Option.map_map, Function.comp_def]
  simp only [placed, modifyNamed, berths, List.map_append, List.map_map, Option.toList_map]
  rfl

/-- What stands under a number after an edit of those that bear `n`. -/
theorem bearers_modifyNamed (m n : Nat) (f : CarrierRec → CarrierRec) (s : State) : bearers m (modifyNamed n f s) =
    ((placed s).filter fun x => decide ((onNumber n f x.2).number = m)).map fun x => (x.1, onNumber n f x.2) := by
  rw [bearers, placed_modifyNamed, List.filter_map]
  rfl

theorem bearers_modifyNamed_other (hm : m ≠ n) (hf : ∀ r, (f r).number ≠ m ∨ (f r).number = r.number) :
    bearers m (modifyNamed n f s) = bearers m s := by
  have number (x : CarrierRec) : (onNumber n f x).number = m ↔ x.number = m := by
    unfold onNumber
    split
    · rename_i named
      rcases hf x with away | stays
      · simp only [away, named, hm.symm]
      · rw [stays]
    · exact Iff.rfl
  rw [bearers_modifyNamed, bearers]
  simp only [number]
  refine (List.map_congr_left fun x hx => ?_).trans (List.map_id _)
  have borne : x.2.number = m := by simpa using (List.mem_filter.mp hx).2
  rw [onNumber, if_neg (by rw [borne]; exact hm)]
  rfl

/-- The one record that bears a number, edited; its number may become one that no record bears. -/
theorem bearers_modifyNamed_one (one : bearers n s = [(p, r)]) (number : ∀ x, x.number = n → (f x).number = new)
    (fresh : new = n ∨ bearers new s = []) : bearers new (modifyNamed n f s) = [(p, f r)] := by
  have same : ∀ x ∈ placed s, decide ((onNumber n f x.2).number = new) = decide (x.2.number = n) := by
    intro x hx
    unfold onNumber
    split
    · rename_i named
      simp [named, number _ named]
    · rename_i other
      rcases fresh with rfl | nobody
      · rfl
      · simp [other, (bearers_eq_nil_iff new s).mp nobody x hx]
  rw [bearers_modifyNamed, List.filter_congr same, ← bearers, one]
  simp [onNumber, (mem_placed_of_bearers one).2]

theorem bearers_modifyNamed_gone (number : ∀ x, (f x).number ≠ n) : bearers n (modifyNamed n f s) = [] := by
  rw [bearers_modifyNamed, List.map_eq_nil_iff, List.filter_eq_nil_iff]
  intro x _
  unfold onNumber
  split
  · simp [number]
  · simpa

theorem modifyNamed_calm (n : Nat) (f : CarrierRec → CarrierRec) (s : State) :
    Calm [.track, .roster] s (modifyNamed n f s) :=
  ⟨⟨by simp [touches_iff, modifyNamed], by simp [DeskQuiet, modifyNamed]⟩, by simp [lineQuiet_iff, modifyNamed]⟩

/-- Where the roster has no record of the number an edit leaves it. -/
theorem modifyNamed_roster (one : bearers n s = [(.launchBerth, r)]) : (modifyNamed n f s).roster = s.roster := by
  have away : ∀ x ∈ s.roster.records, x.carrier.number ≠ n := by
    intro x hx named
    have mem : (Place.roster, x.carrier) ∈ bearers n s := by
      simp only [bearers, placed, List.mem_filter, List.mem_append, List.mem_map]
      exact ⟨.inr ⟨x, hx, rfl⟩, by simpa using named⟩
    rw [one] at mem
    simp at mem
  have records : s.roster.records.map (fun x => { x with carrier := onNumber n f x.carrier }) = s.roster.records := by
    refine (List.map_congr_left fun x hx => ?_).trans (List.map_id _)
    rw [onNumber, if_neg (away x hx)]
    rfl
  exact congrArg (fun l => { s.roster with records := l }) records

/-- The gate moves no record of another number than that of the launch berth's. -/
theorem bearers_gateTest (m : Nat) (h : ∀ b, s.track.launchBerth = some b → b.number ≠ m) :
    bearers m (gateTest s) = bearers m s := by
  rcases gateTest_track s with same | ⟨b, hb, opens, moved⟩
  · rw [same]
  · have empty : s.track.launch = none := ((gateOpen_iff s b).mp opens).2.2.2.1
    have other := h b hb
    rw [bearers_congr m moved (gateTest_within s).roster]
    simp [bearers, placed, released, hb, empty, other]

/-! ### The named edit, with its report and the gate's test (R69 to R71) -/

theorem withNamed_of_bearers {act : Place → CarrierRec → State × ReplyResult} (low : 1 ≤ n) (high : n ≤ 250)
    (one : bearers n s = [(p, r)]) : withNamed n s act = act p r := by
  have found : lookup n s = .ok (p, r) := by
    rw [lookup, if_neg (by omega), one]
  rw [withNamed, found]

/-- An edit of the one record of a number, with its report. -/
def edited (n : Nat) (f : CarrierRec → CarrierRec) (rep : Report) (s : State) : State :=
  queueReport rep (modifyNamed n f s)

theorem edited_calm (n : Nat) (f : CarrierRec → CarrierRec) (rep : Report) (s : State) :
    Calm [.track, .roster, .line, .desk] s (edited n f rep s) :=
  ((modifyNamed_calm n f s).mono (by decide)).andThen (queueReport_calm _ rep) (by decide)

theorem bearers_edited (m n : Nat) (f : CarrierRec → CarrierRec) (rep : Report) (s : State) :
    bearers m (edited n f rep s) = bearers m (modifyNamed n f s) :=
  bearers_congr m (.of_eq (queueReport_calm _ rep).track) (queueReport_calm _ rep).roster

theorem edited_launchBerth (rep : Report) (one : bearers n s = [(.launchBerth, r)]) :
    (edited n f rep s).track.launchBerth = some (f r) := by
  rw [edited, (queueReport_calm _ rep).track]
  simp [modifyNamed, launchBerth_of_bearers one, onNumber, (mem_placed_of_bearers one).2]

/-- An edit in the launch berth, and the gate's test: the record stands there, or is in flight. -/
theorem gated_edit (rep : Report) (one : bearers n s = [(.launchBerth, r)])
    (number : ∀ x, x.number = n → (f x).number = new) :
    Within eventBlocks s (gateTest (edited n f rep s)) ∧
      (∀ m, m ≠ new → bearers m (gateTest (edited n f rep s)) = bearers m (modifyNamed n f s)) ∧
      ∃ q : CarrierRec, q.number = new ∧ q.marks = (f r).marks ∧
        ((gateTest (edited n f rep s)).track.launchBerth = some q ∨
          ((gateTest (edited n f rep s)).track.launchBerth = none ∧
            (gateTest (edited n f rep s)).track.launch = some q)) := by
  have calm := edited_calm n f rep s
  have berth := edited_launchBerth (f := f) rep one
  have renamed := number r (mem_placed_of_bearers one).2
  have roster : (edited n f rep s).roster = s.roster :=
    ((queueReport_calm _ rep).roster).trans (modifyNamed_roster one)
  have borne (m : Nat) := bearers_edited m n f rep s
  generalize edited n f rep s = w at *
  have early : Within eventBlocks s w :=
    ⟨(calm.touches.drop (b := .roster) roster).mono (by decide), calm.desk⟩
  refine ⟨early.trans (gateTest_within w), fun m hm => ?_, ?_⟩
  · rw [bearers_gateTest m (fun b hb => ?_), borne]
    rw [berth, Option.some.injEq] at hb
    rw [← hb, renamed]
    exact hm.symm
  · rcases gateTest_track w with same | ⟨b, hb, -, moved⟩
    · exact ⟨f r, renamed, rfl, .inl (by rw [same]; exact berth)⟩
    · rw [berth, Option.some.injEq] at hb
      subst hb
      refine ⟨{ f r with releaseTravel := some w.update.t }, renamed, rfl, .inr ⟨?_, ?_⟩⟩
      · rw [moved]; rfl
      · rw [moved]; rfl

/-- A record with a new number (R71). -/
def CarrierRec.renumber (new : Nat) (x : CarrierRec) : CarrierRec := { x.unmark [.unread, .inferred] with number := new }

/-- Renumber to a number that no record bears (R71). -/
theorem doRenumber_free (low : 1 ≤ n) (high : n ≤ 250) (one : bearers n s = [(p, r)]) (lowNew : 1 ≤ new)
    (highNew : new ≤ 250) (ne : new ≠ n) (nobody : bearers new s = []) : doRenumber n new s =
    done (gateTestAt p (edited n (.renumber new)
      (carrierReport (.renumbered n new) p (r.renumber new)) s)) := by
  have inRange : ¬ (new = 0 ∨ 250 < new) := by omega
  rw [doRenumber, withNamed_of_bearers low high one, if_neg inRange, if_neg ne, nobody]
  rfl

theorem gateTest_of_held {b : CarrierRec} (berth : s.track.launchBerth = some b) (held : Mark.held ∈ b.marks) :
    gateTest s = s := by
  rcases gateTest_cases s with same | ⟨r, hr, opens, -⟩
  · exact same
  · rw [berth, Option.some.injEq] at hr
    subst hr
    exact absurd held ((gateOpen_iff s _).mp opens).2.2.2.2.2.2.2.2.1

/-- The request that edits the one record of a number, with the report and without the gate's test. -/
theorem edit_answered {tag : Byte} {c : Instr} {req : Request} {rep : Report} (free : DeskFree s)
    (hexec : exec c s = .next (submit tag req s)) (hr : req ≠ .restart)
    (one : bearers n s = [(p, r)]) (number : ∀ x, (f x).number = x.number)
    (accepted : perform req s = (edited n f rep s, .done [])) :
    ∃ t, exec c s = .next t ∧ Answered tag req (.done []) s t ∧
      bearers n t = [(p, f r)] ∧ (∀ m, m ≠ n → bearers m t = bearers m s) ∧
      Touches [.track, .roster, .line, .desk] s t ∧ LineQuiet s t := by
  have calm := edited_calm n f rep s
  have borne (m : Nat) := bearers_edited m n f rep s
  refine ⟨_, hexec.trans (congrArg Host.Outcome.next (submit_of_within free hr accepted calm.toWithin)), calm.answered,
    (borne n).trans ?_, fun m hm => (borne m).trans ?_, calm.touched (by decide), calm.lineQuiet⟩
  · exact bearers_modifyNamed_one one (fun x hx => (number x).trans hx) (.inl rfl)
  · exact bearers_modifyNamed_other hm fun x => .inr (number x)

/-- Mark and Unmark: the edit alone (R71). -/
theorem remark_answered {tag : Byte} {c : Instr} {req : Request} (free : DeskFree s)
    (hexec : exec c s = .next (submit tag req s)) (hr : req ≠ .restart)
    (one : bearers n s = [(p, r)]) (number : ∀ x, (f x).number = x.number)
    (accepted : perform req s = (modifyNamed n f s, .done [])) :
    ∃ t, exec c s = .next t ∧ Answered tag req (.done []) s t ∧
      bearers n t = [(p, f r)] ∧ (∀ m, m ≠ n → bearers m t = bearers m s) ∧ Touches [.track, .roster, .desk] s t := by
  have calm := (modifyNamed_calm n f s).mono (cs := [.track, .roster, .desk]) (by decide)
  refine ⟨_, hexec.trans (congrArg Host.Outcome.next (submit_of_within free hr accepted calm.toWithin)), calm.answered, ?_,
    fun m hm => ?_, calm.touched (by decide)⟩
  · exact bearers_modifyNamed_one one (fun x hx => (number x).trans hx) (.inl rfl)
  · exact bearers_modifyNamed_other hm fun x => .inr (number x)

end

/-- Settles O29: each request edits the one record that bears the number; in the launch berth the gate is tested. -/
theorem namedRecordRequestsAct : Obligations.NamedRecordRequestsAct := by
  intro tag n p r s free low high one
  have act (a : Place → CarrierRec → State × ReplyResult) : withNamed n s a = a p r := withNamed_of_bearers low high one
  have away {q : State} (h : p ≠ .launchBerth) : gateTestAt p q = q := if_neg h
  have named := (mem_placed_of_bearers one).2
  refine ⟨fun aside unheld => ?_, fun aside held => ?_, fun flight => ?_, fun aside => ?_, fun berth => ?_,
    remark_answered (req := .mark n) (f := .mark .marked) free rfl (by simp) one (fun _ => rfl) (act _),
    remark_answered (req := .unmark n) (f := .unmark [.marked]) free rfl (by simp) one (fun _ => rfl) (act _),
    fun new lowNew highNew ne nobody aside => ?_, fun new lowNew highNew ne nobody berth => ?_,
    fun new lowNew highNew ne borne => ?_⟩
  · refine edit_answered (f := .mark .held) (rep := carrierReport .held p (r.mark .held)) free rfl (by simp) one (fun _ => rfl)
      ((act _).trans ((if_neg aside).trans ((if_neg unheld).trans ?_)))
    refine congrArg (·, ReplyResult.done []) ?_
    by_cases berth : p = .launchBerth
    · subst berth
      exact gateTest_of_held (edited_launchBerth (f := .mark .held) _ one) (by simp [CarrierRec.mark])
    · exact away berth
  · have accepted : perform (.hold n) s = (s, .done []) := (act _).trans ((if_neg aside).trans (if_pos held))
    exact congrArg Host.Outcome.next (submit_of_within free (by simp) accepted (.refl [] s))
  · exact run_refused tag free rfl (by simp) ((act _).trans (if_pos flight))
  · refine edit_answered (f := .unmark [.held, .stranger, .stuck, .duplicate]) free rfl (by simp) one (fun _ => rfl)
      ((act _).trans (congrArg (·, ReplyResult.done []) (away aside)))
  · subst berth
    obtain ⟨within, others, q, number, marks, stands⟩ := gated_edit (f := .unmark [.held, .stranger, .stuck, .duplicate])
      (new := n) (carrierReport .freed .launchBerth (r.unmark [.held, .stranger, .stuck, .duplicate])) one
      (fun _ hx => hx)
    refine ⟨_, congrArg Host.Outcome.next (submit_of_within free (by simp) (act _) within), within.answered,
      within.touched (by decide), fun m hm => ?_, q, number, fun m hm => ?_, stands⟩
    · exact (others m hm).trans (bearers_modifyNamed_other hm fun _ => .inr rfl)
    · rw [marks]
      exact fun kept => by simpa [hm] using (List.mem_filter.mp kept).2
  · have accepted := doRenumber_free low high one lowNew highNew ne nobody
    have calm := edited_calm n (.renumber new) (carrierReport (.renumbered n new) p (r.renumber new)) s
    have borne (m : Nat) := bearers_edited m n (.renumber new) (carrierReport (.renumbered n new) p (r.renumber new)) s
    rw [away aside] at accepted
    refine ⟨_, congrArg Host.Outcome.next (submit_of_within free (by simp) accepted calm.toWithin), calm.answered,
      (borne n).trans (bearers_modifyNamed_gone fun _ => ne), (borne new).trans ?_, fun m hm hnew => (borne m).trans ?_,
      calm.touched (by decide), calm.lineQuiet⟩
    · exact bearers_modifyNamed_one one (fun _ _ => rfl) (.inr nobody)
    · exact bearers_modifyNamed_other hm fun _ => .inl (Ne.symm hnew)
  · have accepted := doRenumber_free low high one lowNew highNew ne nobody
    subst berth
    obtain ⟨within, others, q, number, -, stands⟩ := gated_edit (f := .renumber new)
      (carrierReport (.renumbered n new) .launchBerth (r.renumber new)) one (fun _ _ => rfl)
    refine ⟨_, congrArg Host.Outcome.next (submit_of_within free (by simp) accepted within), within.answered,
      within.touched (by decide), (others n ne.symm).trans (bearers_modifyNamed_gone fun _ => ne), fun m hm hnew => ?_,
      q, number, stands⟩
    exact (others m hnew).trans (bearers_modifyNamed_other hm fun _ => .inl (Ne.symm hnew))
  · refine run_refused tag free rfl (by simp) ((act _).trans ?_)
    have inRange : ¬ (new = 0 ∨ 250 < new) := by omega
    have some : (!(bearers new s).isEmpty) = true := by simpa using borne
    exact (if_neg inRange).trans ((if_neg ne).trans (if_pos some))

end Sys2Proof.Machine
end

section
/-! SUPPORT. The requests of the launch berth and of the launch in flight, and Declare (R72, R73). -/

namespace Sys2Proof.Machine

open Config

section
variable {s t : State} {n m : Nat} {p : Place} {r : CarrierRec}

/-! ### Abandon (R73) -/

/-- The launch at rest ended as NoTest. -/
theorem endUntested_still (h : s.run.state ≠ .running) (r : CarrierRec) :
    (endUntested false r s).track = { s.track with launch := none, launchCommand := false } ∧
      (endUntested false r s).roster =
        { s.roster with records := s.roster.records ++ [rosterRecord s.update.t .noTest (untested r)] } ∧
      Calm [.track, .roster, .line, .desk] s (endUntested false r s) := by
  have tested := (setTrack_calm { s.track with launch := some (untested r) } s).mono (cs := [.track, .roster, .line, .desk])
    (by decide)
  have reported := queueReport_calm { s with track := { s.track with launch := some (untested r) } }
    (carrierReport (.launchResult none .noTest) .launchRecord (untested r))
  have ends : endUntested false r s = completeLaunch .noTest (untested r) (queueReport
    (carrierReport (.launchResult none .noTest) .launchRecord (untested r))
    { s with track := { s.track with launch := some (untested r) } }) := rfl
  have all := tested.andThen reported (by decide)
  rw [ends]
  have track := reported.track
  have roster := reported.roster
  generalize queueReport (carrierReport (.launchResult none .noTest) .launchRecord (untested r))
    { s with track := { s.track with launch := some (untested r) } } = w at *
  have joined : Calm [.track, .roster] w { w with
      roster := { w.roster with records := w.roster.records ++ [rosterRecord w.update.t .noTest (untested r)] }
      track := { w.track with launch := none, launchCommand := false } } :=
    ⟨⟨by simp [touches_iff], by simp [DeskQuiet]⟩, by simp [lineQuiet_iff]⟩
  have update : w.update = s.update := all.update
  have done : completeLaunch .noTest (untested r) w = { w with
      roster := { w.roster with records := w.roster.records ++ [rosterRecord w.update.t .noTest (untested r)] }
      track := { w.track with launch := none, launchCommand := false } } :=
    gateTest_of_still (show w.run.state ≠ .running by rw [all.run]; exact h)
  rw [done]
  refine ⟨?_, ?_, all.andThen joined (by decide)⟩
  · simp only [track]
  · simp only [roster, update]

theorem mem_untested (t : Travel) (r : CarrierRec) :
    Mark.noTest ∈ (rosterRecord t .noTest (untested r)).carrier.marks := by
  simp [rosterRecord, untested, CarrierRec.mark, CarrierRec.unmark, removeMarks]

/-! ### Declare (R73) -/

/-- The records of the eleven places, with their places. -/
def Track.spots (k : Track) : List (Place × CarrierRec) :=
  k.buffer.map (fun r => (Place.buffer, r)) ++
    (Idx4.all.filterMap fun i => (k.berths.get i).map fun r => (Place.berth i, r)) ++
    k.launchBerth.toList.map fun r => (Place.launchBerth, r)

/-- The records in flight and on the rope, with their places. -/
def State.launched (s : State) : List (Place × CarrierRec) :=
  s.track.launch.toList.map (fun r => (Place.launchRecord, r)) ++
    s.roster.records.map fun r => (Place.roster, r.carrier)

theorem bearers_eq (n : Nat) (s : State) : bearers n s =
    s.track.spots.filter (fun x => decide (x.2.number = n)) ++
      s.launched.filter fun x => decide (x.2.number = n) := by
  rw [bearers, ← List.filter_append, placed, Track.spots, State.launched]
  simp only [List.append_assoc]

theorem spots_place {k : Track} {x : Place × CarrierRec} (h : x ∈ k.spots) : x.1 ≠ .launchRecord ∧ x.1 ≠ .roster := by
  simp only [Track.spots, List.mem_append, List.mem_map, List.mem_filterMap, Option.map_eq_some_iff] at h
  rcases h with (⟨y, -, rfl⟩ | ⟨i, -, y, -, rfl⟩) | ⟨y, -, rfl⟩ <;> exact ⟨nofun, nofun⟩

theorem launched_place {x : Place × CarrierRec} (h : x ∈ s.launched) : x.1 = .launchRecord ∨ x.1 = .roster := by
  simp only [State.launched, List.mem_append, List.mem_map] at h
  rcases h with ⟨y, -, rfl⟩ | ⟨y, -, rfl⟩
  · exact .inl rfl
  · exact .inr rfl

/-- No record in flight or on the rope bears a number that `launchedBears` denies. -/
theorem launched_of_free (h : launchedBears n s = false) : s.launched.filter (fun x => decide (x.2.number = n)) = [] := by
  rw [List.filter_eq_nil_iff]
  intro x hx named
  have place := launched_place hx
  rw [launchedBears, List.any_eq_false] at h
  have mem : x ∈ bearers n s := by
    rw [bearers_eq]
    exact List.mem_append_right _ (List.mem_filter.mpr ⟨hx, named⟩)
  exact h x mem (by rcases place with e | e <;> simp [e])

theorem inPlaces_eq (n : Nat) (s : State) :
    inPlaces n s = (s.track.spots.filter fun x => decide (x.2.number = n)).map Prod.snd := by
  have kept : ((s.track.spots.filter fun x => decide (x.2.number = n)).filter
      fun x => !decide (x.1 = .launchRecord) && !decide (x.1 = .roster)) =
      s.track.spots.filter fun x => decide (x.2.number = n) :=
    List.filter_eq_self.mpr fun x hx => by
      obtain ⟨flight, rope⟩ := spots_place (List.mem_filter.mp hx).1
      simp [flight, rope]
  have gone : ((s.launched.filter fun x => decide (x.2.number = n)).filter
      fun x => !decide (x.1 = .launchRecord) && !decide (x.1 = .roster)) = [] :=
    List.filter_eq_nil_iff.mpr fun x hx => by
      rcases launched_place (List.mem_filter.mp hx).1 with e | e <;> simp [e]
  rw [inPlaces, bearers_eq, List.filter_append, kept, gone, List.append_nil]

/-- The records of one place, with it, and of those the ones under a number. -/
def under (m : Nat) (q : Place) (l : List CarrierRec) : List (Place × CarrierRec) :=
  (l.filter fun r => decide (r.number = m)).map fun r => (q, r)

/-- The places under a number, one by one. -/
theorem spots_under (m : Nat) (k : Track) : k.spots.filter (fun x => decide (x.2.number = m)) =
    under m .buffer k.buffer ++ (under m (.berth .i1) k.berths.v1.toList ++ under m (.berth .i2) k.berths.v2.toList ++
      under m (.berth .i3) k.berths.v3.toList ++ under m (.berth .i4) k.berths.v4.toList) ++
      under m .launchBerth k.launchBerth.toList := by
  have part (q : Place) (l : List CarrierRec) :
      (l.map fun r => (q, r)).filter (fun x => decide (x.2.number = m)) = under m q l := by
    rw [List.filter_map]
    rfl
  have berths : (Idx4.all.filterMap fun i => (k.berths.get i).map fun r => (Place.berth i, r)) =
      (k.berths.v1.toList.map fun r => (Place.berth .i1, r)) ++ (k.berths.v2.toList.map fun r => (Place.berth .i2, r)) ++
      (k.berths.v3.toList.map fun r => (Place.berth .i3, r)) ++ (k.berths.v4.toList.map fun r => (Place.berth .i4, r)) := by
    rw [List.filterMap_eq_flatMap_toList]
    simp [Idx4.all, Quad.get, Option.toList_map]
  simp only [Track.spots, berths, List.filter_append, part]

theorem under_without (m n : Nat) (q : Place) (l : List CarrierRec) :
    under m q (l.filter fun r => !decide (r.number = n)) = if m = n then [] else under m q l := by
  unfold under
  rw [List.filter_filter]
  split
  · rename_i same
    simp [same]
  · rename_i other
    refine congrArg (List.map _) (List.filter_congr fun x _ => ?_)
    by_cases h : x.number = m <;> simp [h, other]

theorem under_cons (m : Nat) (q : Place) (r : CarrierRec) : under m q [r] = if m = r.number then [(q, r)] else [] := by
  by_cases h : r.number = m
  · simp [under, h]
  · simp [under, h, Ne.symm h]

/-- The places under a number when the record `r` of number `n` has been put into a free place. -/
theorem spots_put (hp : p = .buffer ∨ (∃ i, p = .berth i) ∨ p = .launchBerth) (hr : r.number = n) {k : Track}
    (free : k.occupiedAt p = false) (m : Nat) :
    ((k.without n).put p r).spots.filter (fun x => decide (x.2.number = m)) =
      if m = n then [(p, r)] else k.spots.filter fun x => decide (x.2.number = m) := by
  have cell (q : Place) (o : Option CarrierRec) : under m q (o.filter fun r => !decide (r.number = n)).toList =
      if m = n then [] else under m q o.toList := by
    rw [Option.toList_filter, under_without]
  have single (q : Place) : under m q [r] = if m = n then [(q, r)] else [] := by rw [under_cons, hr]
  have two (q : Place) (l l' : List CarrierRec) : under m q (l ++ l') = under m q l ++ under m q l' := by
    simp [under]
  have empty (q : Place) : under m q [] = [] := rfl
  rw [spots_under, spots_under]
  rcases hp with rfl | ⟨i, rfl⟩ | rfl
  · simp only [Track.put, Track.without, Quad.map, two, under_without, cell, single]
    split <;> simp
  · have vacant : k.berths.get i = none := by simpa [Track.occupiedAt] using free
    cases i <;> simp only [Quad.get] at vacant <;>
      simp only [Track.put, Track.without, Quad.map, Quad.set, under_without, cell, vacant, Option.toList_some,
        Option.toList_none, single, empty] <;>
      split <;> simp
  · have vacant : k.launchBerth = none := by simpa [Track.occupiedAt] using free
    simp only [Track.put, Track.without, Quad.map, under_without, cell, vacant, Option.toList_some,
      Option.toList_none, single, empty]
    split <;> simp

/-- A demand in Parked leaves the run state (R13). -/
theorem raise_parked (src : Source) (h : s.run.state = .parked) : (raise src s).run.state = .parked := by
  unfold raise
  split
  · exact h
  · rw [(giveClass_keeps _).1, demandTransition]
    split <;> simp_all

theorem bufferChanged_parked (n : Nat) (h : s.run.state = .parked) : (bufferChanged n s).run.state = .parked := by
  have tested : (trackCeilingTest s).run.state = .parked := by
    rw [show (trackCeilingTest s).run = s.run from (setCeiling_calm s _ _).run]
    exact h
  unfold bufferChanged
  split
  · exact h
  · split
    · exact raise_parked _ tested
    · exact tested

/-- An accepted Declare in Parked (R73). -/
theorem placeDeclared_acts (hp : p = .buffer ∨ (∃ i, p = .berth i) ∨ p = .launchBerth) (parked : s.run.state = .parked)
    (unlaunched : launchedBears n s = false) (free : s.track.occupiedAt p = false)
    (number : (((inPlaces n s).head?).getD (declaredRecord n s.update.t)).number = n) (m : Nat) :
    bearers m (placeDeclared p n s) = (if m = n then [(p, ((inPlaces n s).head?).getD (declaredRecord n s.update.t))]
        else bearers m s) ∧
      (placeDeclared p n s).run.state = .parked ∧ Within raiseBlocks s (placeDeclared p n s) := by
  have acts : placeDeclared p n s = indexTest (gateTest (bufferChanged s.track.buffer.length { s with
    track := (s.track.without n).put p (((inPlaces n s).head?).getD (declaredRecord n s.update.t))
    berths := declareBerths s.track.berths ((s.track.without n).put p
      (((inPlaces n s).head?).getD (declaredRecord n s.update.t))).berths s.berths })) := rfl
  rw [acts]
  generalize ((inPlaces n s).head?).getD (declaredRecord n s.update.t) = r at *
  have placedIn : Within raiseBlocks s { s with
      track := (s.track.without n).put p r
      berths := declareBerths s.track.berths ((s.track.without n).put p r).berths s.berths } :=
    ⟨by simp [touches_iff, raiseBlocks], by simp [DeskQuiet]⟩
  have launched : State.launched { s with
      track := (s.track.without n).put p r
      berths := declareBerths s.track.berths ((s.track.without n).put p r).berths s.berths } = s.launched := by
    rcases hp with rfl | ⟨i, rfl⟩ | rfl <;> rfl
  have spots := spots_put hp number free m
  have run : { s with
      track := (s.track.without n).put p r
      berths := declareBerths s.track.berths ((s.track.without n).put p r).berths s.berths }.run.state = .parked := parked
  have track : { s with
      track := (s.track.without n).put p r
      berths := declareBerths s.track.berths ((s.track.without n).put p r).berths s.berths }.track =
        (s.track.without n).put p r := rfl
  rw [← track] at spots
  generalize { s with
      track := (s.track.without n).put p r
      berths := declareBerths s.track.berths ((s.track.without n).put p r).berths s.berths : State } = w at *
  have changed := bufferChanged_frame s.track.buffer.length w
  have still := bufferChanged_parked s.track.buffer.length run
  generalize bufferChanged s.track.buffer.length w = v at *
  rw [gateTest_of_still (by simp [still])]
  have tested := indexTest_calm v
  refine ⟨?_, by rw [tested.run, still], placedIn.trans (changed.2.trans (tested.toWithin.mono (by decide)))⟩
  rw [bearers_congr m (changed.1.track.trans (sameTrack_indexTest v)) (tested.roster.trans changed.2.roster), bearers_eq,
    spots, launched, bearers_eq]
  split
  · rename_i same
    rw [same, launched_of_free unlaunched, List.append_nil]
  · rfl

end

/-- Settles O30, by the branches of R72 and R73. -/
theorem launchRequestsAct : Obligations.LaunchRequestsAct := by
  refine ⟨fun tag s free => ⟨fun empty => ?_, fun r berth => ?_, ?_, ?_, fun r rest flight still => ?_⟩,
    fun tag place n p s free parked named low high unlaunched single room vacant => ?_⟩
  · exact run_refused tag free rfl (by simp) (by simp only [perform, doGarage, empty])
  · have emptied := (setTrack_calm { s.track with launchBerth := none } s).mono (cs := [.track, .line, .desk]) (by decide)
    have reported := emptied.andThen (queueReport_calm _ (carrierReport .garaged .launchBerth r)) (by decide)
    have calm := reported.andThen (indexTest_calm _) (by decide)
    have accepted : perform .garage s = (indexTest (queueReport (carrierReport .garaged .launchBerth r)
        { s with track := { s.track with launchBerth := none } }), .done []) := by
      simp only [perform, doGarage, berth]
      rfl
    have track : SameTrack { s with track := { s.track with launchBerth := none } }
        (indexTest (queueReport (carrierReport .garaged .launchBerth r)
          { s with track := { s.track with launchBerth := none } })) :=
      SameTrack.trans (.of_eq (queueReport_calm _ _).track) (sameTrack_indexTest _)
    exact ⟨_, congrArg Host.Outcome.next (submit_of_within free (by simp) accepted calm.toWithin), calm.answered, track,
      calm.touched (by decide), calm.lineQuiet⟩
  · have calm := (setTrack_calm { s.track with inhibit := true } s).mono (cs := [.track, .desk]) (by decide)
    exact ⟨_, congrArg Host.Outcome.next (submit_of_within (t := { s with track := { s.track with inhibit := true } })
      free (by simp) rfl calm.toWithin), calm.answered, rfl, calm.touched (by decide)⟩
  · have set := (setTrack_calm { s.track with inhibit := false } s).toWithin.mono (cs := eventBlocks) (by decide)
    have gated := set.trans (gateTest_within _)
    have within := gated.andThen (indexTest_calm _).toWithin (by decide)
    have track := sameTrack_indexTest (gateTest { s with track := { s.track with inhibit := false } })
    obtain ⟨buffer, berths, -, inhibit, launch⟩ := gateTest_places { s with track := { s.track with inhibit := false } }
    have accepted : perform (.inhibitLaunch false) s =
        (indexTest (gateTest { s with track := { s.track with inhibit := false } }), .done []) := rfl
    generalize gateTest { s with track := { s.track with inhibit := false } } = g at *
    refine ⟨_, congrArg Host.Outcome.next (submit_of_within free (by simp) accepted within), within.answered,
      within.touched (by decide), ?_⟩
    have same : (withReply tag (.inhibitLaunch false) (.done []) (indexTest g)).track = { g.track with
        step := (indexTest g).track.step, indexCommand := (indexTest g).track.indexCommand } := track
    rw [same]
    exact ⟨inhibit, buffer, berths, launch⟩
  · obtain ⟨track, roster, calm⟩ := endUntested_still (s := s) (by rcases rest with h | h <;> simp [h]) r
    have accepted : perform .abandon s = (endUntested false r s, .done []) := by
      simp only [perform, doAbandon, if_pos rest, flight, if_pos still]
      rfl
    exact ⟨_, rosterRecord s.update.t .noTest (untested r),
      congrArg Host.Outcome.next (submit_of_within free (by simp) accepted calm.toWithin), calm.answered, track, roster,
      rfl, rfl, mem_untested s.update.t r, rfl, rfl, rfl, calm.touched (by decide), calm.lineQuiet⟩
  · have number : (((inPlaces n s).head?).getD (declaredRecord n s.update.t)).number = n := by
      cases e : inPlaces n s with
      | nil => rfl
      | cons r rs => exact inPlaces_number (s := s) (by simp [e])
    have acts := placeDeclared_acts (declarePlace?_cases named) parked unlaunched vacant number
    have within := (acts n).2.2
    have accepted : perform (.declare place n) s = (placeDeclared p n s, .done []) := by
      have inRange : ¬ (n = 0 ∨ 250 < n) := by omega
      have roomy : ¬ (p = .buffer ∧ bufferPlaces ≤ s.track.buffer.length) := fun h =>
        absurd (room h.1) (Nat.not_lt.mpr h.2)
      have unique : ¬ (launchedBears n s = true ∨ 1 < (inPlaces n s).length) := by
        simp [unlaunched, single]
      simp only [perform, doDeclare, if_neg (not_not.mpr parked), named, if_neg inRange, if_neg unique, if_neg roomy,
        vacant, Bool.false_eq_true, if_false]
      rfl
    refine ⟨_, ((inPlaces n s).head?).getD (declaredRecord n s.update.t),
      congrArg Host.Outcome.next (submit_of_within free (by simp) accepted within), within.answered,
      (acts n).1.trans (if_pos rfl), fun none => by rw [none]; rfl, fun some => ?_,
      fun m hm => (acts m).1.trans (if_neg hm), (acts n).2.1, within.touched (by decide)⟩
    obtain ⟨x, xs, hx⟩ := List.exists_cons_of_ne_nil some
    rw [hx, List.length_cons] at single
    have alone : xs = [] := List.length_eq_zero_iff.mp (by omega)
    rw [hx, alone]
    rfl

end Sys2Proof.Machine
end

section
/-! SUPPORT. The tower string's schedule: the slots under a number, the next slot of a pass, and the turns of the
passes (R126, R128, R130). -/

namespace Sys2Proof.Machine

open Config

/-! ### Slots by number (R124) -/

/-- The slot of a number from 1 to 24 of a scanner. -/
def Scanner.slot (n : Nat) (k : Scanner) : Option Slot := if n = 0 then none else k.slots[n - 1]?

section
variable {s t : State} {k : Scanner} {a n m : Nat} {x y : Slot} {p : Slot → Bool}

theorem slotAt_eq (n : Nat) (s : State) : slotAt n s = s.scanner.slot n := rfl

theorem Scanner.slot_succ (i : Nat) (k : Scanner) : k.slot (1 + i) = k.slots[i]? := by
  rw [Nat.add_comm 1 i]
  rfl

theorem Scanner.slot_eq_some (h : k.slot n = some x) : ∃ i, n = 1 + i ∧ k.slots[i]? = some x := by
  cases n with
  | zero => simp [Scanner.slot] at h
  | succ i => exact ⟨i, by omega, h⟩

theorem slotAt_setSlot (h : slotAt n s = some x) (y : Slot) : slotAt n (setSlot n y s) = some y := by
  obtain ⟨low, at'⟩ := slotAt_eq_some h
  have inside := (List.getElem?_eq_some_iff.mp at').1
  simp [slotAt, setSlot, Nat.ne_of_gt low, inside]

theorem slotAt_setSlot_ne (hn : n ≠ m) (h : slotAt n s = some x) (y : Slot) :
    slotAt m (setSlot n y s) = slotAt m s := by
  obtain ⟨low, -⟩ := slotAt_eq_some h
  unfold slotAt setSlot
  split
  · rfl
  · exact List.getElem?_set_ne (by omega)

/-! ### The next slot (R128) -/

/-- The first slot past `a` that satisfies `p`. -/
def Scanner.next (p : Slot → Bool) (a : Nat) (k : Scanner) : Option Nat :=
  (slotNumbers p 1 k.slots).find? fun n => decide (a < n)

theorem nextInPass_eq (k : Scanner) : nextInPass k = k.next (Slot.inPass k.pass) k.passSlot := rfl

theorem of_mem_slotNumbers {l : List Slot} {b : Nat} (h : n ∈ slotNumbers p b l) :
    ∃ i y, n = b + i ∧ l[i]? = some y ∧ p y = true := by
  induction l generalizing b with
  | nil => simp [slotNumbers] at h
  | cons z l ih =>
    have tail (h : n ∈ slotNumbers p (b + 1) l) : ∃ i y, n = b + i ∧ (z :: l)[i]? = some y ∧ p y = true := by
      obtain ⟨i, y, rfl, hy, hp⟩ := ih h
      exact ⟨i + 1, y, by omega, hy, hp⟩
    unfold slotNumbers at h
    split at h
    · rename_i hz
      rcases List.mem_cons.mp h with rfl | h
      · exact ⟨0, z, rfl, rfl, hz⟩
      · exact tail h
    · exact tail h

theorem find_slotNumbers {l : List Slot} {b i : Nat} (hy : l[i]? = some y) (hp : p y = true) (past : a < b + i)
    (first : ∀ j z, j < i → a < b + j → l[j]? = some z → p z = false) :
    (slotNumbers p b l).find? (fun n => decide (a < n)) = some (b + i) := by
  induction l generalizing b i with
  | nil => simp at hy
  | cons z l ih =>
    unfold slotNumbers
    cases i with
    | zero =>
      obtain rfl : z = y := by simpa using hy
      simp only [Nat.add_zero] at past
      simp [hp, past]
    | succ i =>
      have tail := ih (b := b + 1) (i := i) (by simpa using hy) (by omega)
        fun j w hj hw hl => first (j + 1) w (by omega) (by omega) (by simpa using hl)
      rw [show b + (i + 1) = b + 1 + i by omega]
      split
      · rename_i hz
        rw [List.find?_cons_of_neg, tail]
        simp only [decide_eq_true_eq]
        intro hb
        have none := first 0 z (by omega) (by simpa using hb) rfl
        rw [hz] at none
        cases none
      · exact tail

theorem Scanner.next_eq_some (hy : k.slot n = some y) (hp : p y = true) (past : a < n)
    (first : ∀ m z, m < n → a < m → k.slot m = some z → p z = false) : k.next p a = some n := by
  obtain ⟨i, rfl, hi⟩ := Scanner.slot_eq_some hy
  exact find_slotNumbers hi hp past fun j z hj hz hl => first (1 + j) z (by omega) (by omega)
    (by rw [Scanner.slot_succ]; exact hl)

theorem Scanner.next_eq_none (gone : ∀ m z, a < m → k.slot m = some z → p z = false) : k.next p a = none := by
  refine List.find?_eq_none.mpr fun m hm past => ?_
  obtain ⟨i, y, rfl, hi, hp⟩ := of_mem_slotNumbers hm
  rw [gone (1 + i) y (by simpa using past) (by rw [Scanner.slot_succ]; exact hi)] at hp
  cases hp

theorem Scanner.of_next (h : k.next p a = some n) : ∃ y, k.slot n = some y ∧ p y = true ∧ a < n := by
  obtain ⟨i, y, rfl, hi, hp⟩ := of_mem_slotNumbers (List.mem_of_find?_eq_some h)
  exact ⟨y, by rw [Scanner.slot_succ]; exact hi, hp, by simpa using List.find?_some h⟩

theorem Scanner.next_of_mem (hx : x ∈ k.slots) (hp : p x = true) : ∃ n, k.next p 0 = some n := by
  obtain ⟨i, inside, hi⟩ := List.mem_iff_getElem.mp hx
  have mem : 1 + i ∈ slotNumbers p 1 k.slots := mem_slotNumbers (by rw [List.getElem?_eq_getElem inside, hi]) hp
  exact Option.isSome_iff_exists.mp (List.find?_isSome.mpr ⟨1 + i, mem, by simp⟩)

/-- The first slot of all is the first past 0. -/
theorem Scanner.head_slotNumbers (p : Slot → Bool) (k : Scanner) : (slotNumbers p 1 k.slots).head? = k.next p 0 := by
  unfold Scanner.next
  cases h : slotNumbers p 1 k.slots with
  | nil => rfl
  | cons m l =>
    obtain ⟨i, y, rfl, -⟩ := of_mem_slotNumbers (n := m) (by rw [h]; simp)
    simp

/-! ### The turns of the passes (R128) -/

theorem Scanner.turn_of_next (h : nextInPass k = some n) : k.turn = k := by
  simp [Scanner.turn, h]

theorem Scanner.turn_main (h : nextInPass k = none) (hp : k.pass = .main) :
    k.turn = { k with slots := k.slots.map markExtra, pass := .extra, passSlot := 0 } := by
  simp [Scanner.turn, h, hp]

theorem Scanner.turn_extra (h : nextInPass k = none) (hp : k.pass = .extra) :
    k.turn = { k with pass := .main, passSlot := 0 } := by
  simp [Scanner.turn, h, hp]

theorem Scanner.turn_rest (k : Scanner) :
    k.turn = { k with slots := k.turn.slots, pass := k.turn.pass, passSlot := k.turn.passSlot } := by
  unfold Scanner.turn
  split <;> rfl

theorem Scanner.advance_rest (k : Scanner) :
    k.advance = { k with slots := k.advance.slots, pass := k.advance.pass, passSlot := k.advance.passSlot } := by
  have first := Scanner.turn_rest k
  have second := Scanner.turn_rest k.turn
  unfold Scanner.advance
  generalize k.turn.turn = l at *
  rw [second, first]

theorem markExtra_markExtra (x : Slot) : markExtra (markExtra x) = markExtra x := rfl

/-- The schedule moves on without changing a slot but for the extra dues of a main pass ended (R128). -/
theorem Scanner.advance_slots (k : Scanner) : k.advance.slots = k.slots ∨ k.advance.slots = k.slots.map markExtra := by
  rcases k.turn.turn_slots with e | e <;> rcases k.turn_slots with f | f
  · exact .inl (e.trans f)
  · exact .inr (e.trans f)
  · exact .inr (by rw [Scanner.advance, e, f])
  · refine .inr (by rw [Scanner.advance, e, f, List.map_map]; rfl)

theorem Scanner.advance_of_next (h : nextInPass k = some n) : k.advance = k := by
  rw [Scanner.advance, Scanner.turn_of_next h, Scanner.turn_of_next h]

/-- A slot of the schedule moved on is the slot as it was, but for its extra due. -/
theorem Scanner.slot_advance (h : k.advance.slot n = some x) : ∃ y, k.slot n = some y ∧ x = { y with extraDue := x.extraDue } := by
  obtain ⟨i, rfl, hi⟩ := Scanner.slot_eq_some h
  rw [Scanner.slot_succ]
  rcases k.advance_slots with e | e <;> rw [e] at hi
  · exact ⟨x, hi, rfl⟩
  · rw [List.getElem?_map, Option.map_eq_some_iff] at hi
    obtain ⟨y, hy, rfl⟩ := hi
    exact ⟨y, hy, rfl⟩

theorem Slot.used_of_inPass {q : Pass} (h : x.inPass q = true) : x.used = true := by
  cases q
  · exact h
  · exact (Bool.and_eq_true_iff.mp h).1

/-- Where a slot is used the schedule comes to one. -/
theorem Scanner.next_advance (h : ∃ x ∈ k.slots, x.used = true) : ∃ n, nextInPass k.advance = some n := by
  obtain ⟨x, hx, used⟩ := h
  have home (k : Scanner) (hp : k.pass = .main) (h0 : k.passSlot = 0) (hs : ∃ x ∈ k.slots, x.used = true) :
      ∃ n, nextInPass k = some n := by
    obtain ⟨x, hx, used⟩ := hs
    rw [nextInPass_eq, hp, h0]
    exact Scanner.next_of_mem hx used
  cases here : nextInPass k with
  | some n => exact ⟨n, by rw [Scanner.advance_of_next here, here]⟩
  | none =>
    cases pass : k.pass with
    | main =>
      have turned := Scanner.turn_main here pass
      cases next : nextInPass k.turn with
      | some n => exact ⟨n, by rw [Scanner.advance, Scanner.turn_of_next next, next]⟩
      | none =>
        rw [Scanner.advance, Scanner.turn_extra next (by rw [turned])]
        refine home _ rfl rfl ⟨markExtra x, ?_, used⟩
        rw [turned]
        exact List.mem_map_of_mem hx
    | extra =>
      have turned := Scanner.turn_extra here pass
      obtain ⟨n, next⟩ := home k.turn (by rw [turned]) (by rw [turned]) ⟨x, by rw [turned]; exact hx, used⟩
      exact ⟨n, by rw [Scanner.advance, Scanner.turn_of_next next, next]⟩

/-- The main pass ended with a tower non-Normal: the extra pass, its first slot next (R128). -/
theorem Scanner.advance_to_extra (pass : k.pass = .main)
    (gone : ∀ m z, k.passSlot < m → k.slot m = some z → z.used = false) (hx : k.slot n = some x)
    (used : x.used = true) (ill : x.nonNormal = true)
    (first : ∀ m z, m < n → k.slot m = some z → z.used = true → z.nonNormal = false) :
    k.advance = { k with slots := k.slots.map markExtra, pass := .extra, passSlot := 0 } ∧
      nextInPass k.advance = some n := by
  have here : nextInPass k = none := by
    rw [nextInPass_eq, pass]
    exact Scanner.next_eq_none gone
  have turned := Scanner.turn_main here pass
  have marked (m : Nat) (z : Slot) (h : k.turn.slot m = some z) : ∃ w, k.slot m = some w ∧ z = markExtra w := by
    obtain ⟨i, rfl, hi⟩ := Scanner.slot_eq_some h
    rw [turned, List.getElem?_map, Option.map_eq_some_iff] at hi
    obtain ⟨w, hw, rfl⟩ := hi
    exact ⟨w, by rw [Scanner.slot_succ]; exact hw, rfl⟩
  have at' : k.turn.slot n = some (markExtra x) := by
    obtain ⟨i, rfl, hi⟩ := Scanner.slot_eq_some hx
    rw [Scanner.slot_succ, turned, List.getElem?_map, hi]
    rfl
  have next : nextInPass k.turn = some n := by
    have low : 0 < n := by
      obtain ⟨i, rfl, -⟩ := Scanner.slot_eq_some hx
      omega
    rw [nextInPass_eq]
    have shape : k.turn.pass = .extra ∧ k.turn.passSlot = 0 := by rw [turned]; exact ⟨rfl, rfl⟩
    rw [shape.1, shape.2]
    refine Scanner.next_eq_some at' (by simp [Slot.inPass, markExtra, ill, used]; exact used) low fun m z hm _ hz => ?_
    obtain ⟨w, hw, rfl⟩ := marked m z hz
    by_cases hu : w.used = true
    · have fine := first m w hm hw hu
      simp [Slot.inPass, markExtra, fine]
    · have idle : w.used = false := by simpa using hu
      simp [Slot.inPass, markExtra, idle]
  have stays : k.advance = k.turn := Scanner.turn_of_next next
  rw [stays]
  exact ⟨turned, next⟩

/-- The pass ended with no extra pass to run: the next round's main pass, its first slot next (R128). -/
theorem Scanner.advance_to_main
    (gone : ∀ m z, k.passSlot < m → k.slot m = some z → z.inPass k.pass = false)
    (fine : k.pass = .main → ∀ m z, k.slot m = some z → z.used = true → z.nonNormal = false)
    (hx : k.slot n = some x) (used : x.used = true) (first : ∀ m z, m < n → k.slot m = some z → z.used = false) :
    k.advance.pass = .main ∧ nextInPass k.advance = some n := by
  have here : nextInPass k = none := Scanner.next_eq_none gone
  have low : 0 < n := by
    obtain ⟨i, rfl, -⟩ := Scanner.slot_eq_some hx
    omega
  have home (j : Scanner) (hp : j.pass = .main) (h0 : j.passSlot = 0)
      (slots : j.slots = k.slots ∨ j.slots = k.slots.map markExtra) : nextInPass j = some n := by
    have used' (m : Nat) : (j.slot m).map Slot.used = (k.slot m).map Slot.used := by
      unfold Scanner.slot
      split
      · rfl
      · rcases slots with e | e
        · rw [e]
        · rw [e, List.getElem?_map, Option.map_map]
          rfl
    have at' := used' n
    rw [hx, Option.map_some, used] at at'
    obtain ⟨y, hy, hused⟩ := Option.map_eq_some_iff.mp at'
    rw [nextInPass_eq, hp, h0]
    refine Scanner.next_eq_some hy hused low fun m z hm _ hz => ?_
    have before := used' m
    rw [hz, Option.map_some] at before
    obtain ⟨w, hw, same⟩ := Option.map_eq_some_iff.mp before.symm
    exact same.symm.trans (first m w hm hw)
  cases pass : k.pass with
  | main =>
    have turned := Scanner.turn_main here pass
    have empty : nextInPass k.turn = none := by
      rw [nextInPass_eq]
      refine Scanner.next_eq_none fun m z _ hz => ?_
      obtain ⟨i, rfl, hi⟩ := Scanner.slot_eq_some hz
      rw [turned, List.getElem?_map, Option.map_eq_some_iff] at hi
      obtain ⟨w, hw, rfl⟩ := hi
      rw [turned]
      by_cases hu : w.used = true
      · have normal := fine pass (1 + i) w (by rw [Scanner.slot_succ]; exact hw) hu
        simp [Slot.inPass, markExtra, normal]
      · have idle : w.used = false := by simpa using hu
        simp [Slot.inPass, markExtra, idle]
    have twice := Scanner.turn_extra empty (by rw [turned])
    rw [Scanner.advance, twice]
    exact ⟨rfl, home _ rfl rfl (.inr (by rw [turned]))⟩
  | extra =>
    have turned := Scanner.turn_extra here pass
    have next := home k.turn (by rw [turned]) (by rw [turned]) (.inl (by rw [turned]))
    rw [Scanner.advance, Scanner.turn_of_next next]
    exact ⟨by rw [turned], next⟩

/-! ### Transactions (R126, R128, R130) -/

/-- A transaction of the round starts at the slot the schedule comes to. -/
theorem startRound_at (h : nextInPass s.scanner.advance = some n) : startRound s = { s with scanner :=
    { s.scanner.advance.poll n false with passSlot := n } } := by
  simp only [startRound, h]

theorem poll_advance (k : Scanner) (n : Nat) : (k.advance.poll n false).transaction = some ⟨n, false, k.pollNumber, none⟩ ∧
    (k.advance.poll n false).pollNumber = (k.pollNumber + 1) % 256 := by
  rw [Scanner.advance_rest k]
  exact ⟨rfl, rfl⟩

theorem transactionDue_of_idle (outside : s.run.state ≠ .parked) (idle : s.scanner.transaction = none) :
    transactionDue s = startRound s := if_neg (by simp [outside, idle])

theorem parkedPoll_at (parked : s.run.state = .parked) (idle : s.scanner.transaction = none)
    (next : nextParked s.scanner = some n) : parkedPoll s = { s with
      scanner := ({ s.scanner with parkedTimer := some parkedPollMs } : Scanner).poll n false } := by
  simp only [parkedPoll, if_pos parked, idle, next]

theorem nextParked_eq (k : Scanner) : nextParked k = (k.next Slot.used k.lastPolled).or (k.next Slot.used 0) := by
  rw [← Scanner.head_slotNumbers]
  unfold nextParked Scanner.next
  simp only []
  split
  · rename_i h
    rw [h]
    rfl
  · rename_i h
    rw [h]
    rfl

theorem endTransaction_slots (s : State) : (endTransaction s).scanner.slots = s.scanner.slots ∨
    (endTransaction s).scanner.slots = s.scanner.slots.map markExtra := by
  unfold endTransaction
  simp only []
  split
  · exact .inl rfl
  · exact Scanner.advance_slots _

theorem endTransaction_calm (s : State) : Calm [.scanner] s (endTransaction s) := by
  unfold endTransaction
  simp only []
  split <;> exact ⟨⟨by simp [touches_iff], by simp [DeskQuiet]⟩, by simp [lineQuiet_iff]⟩

theorem endTransaction_transaction (s : State) : (endTransaction s).scanner.transaction = none := by
  unfold endTransaction
  simp only []
  split
  · rfl
  · rw [Scanner.advance_rest]

/-- A slot after a transaction's end: as it was, but for its extra due. -/
theorem slotAt_endTransaction (h : slotAt n s = some x) : ∃ y, slotAt n (endTransaction s) = some y ∧
    y = { x with extraDue := y.extraDue } := by
  obtain ⟨i, rfl, hi⟩ := Scanner.slot_eq_some h
  rcases endTransaction_slots s with e | e
  · exact ⟨x, by rw [slotAt_eq, Scanner.slot_succ, e, hi], rfl⟩
  · exact ⟨markExtra x, by rw [slotAt_eq, Scanner.slot_succ, e, List.getElem?_map, hi]; rfl, rfl⟩

end

/-- Settles O42: the transaction by its timers, the round by the schedule's turns. -/
theorem transactionsRun : Obligations.TransactionsRun := by
  intro slot number s
  refine ⟨fun retry flight => ?_, fun ms flight => ?_, fun ms x flight here => ?_, fun outside idle used => ?_,
    fun parked idle used => ?_, fun parked => congrArg Host.Outcome.next (if_pos (.inl parked)),
    fun outside => congrArg Host.Outcome.next (if_neg outside), fun x outside idle here => ⟨?_, ?_, ?_⟩,
    fun x parked idle here used order => ?_, fun parked busy => ?_⟩
  · refine congrArg Host.Outcome.next ?_
    simp only [pollSent, flight]
    rfl
  · refine congrArg Host.Outcome.next ?_
    simp only [replyExpired, flight]
    rfl
  · have acts : replyExpired s = endTransaction (setSlot slot { x with unread := satInc x.unread } s) := by
      simp only [replyExpired, flight, endUnread, here]
    have set : Within [.scanner] s (setSlot slot { x with unread := satInc x.unread } s) :=
      ⟨by simp [touches_iff], by simp [DeskQuiet]⟩
    obtain ⟨y, hy, same⟩ := slotAt_endTransaction (slotAt_setSlot here { x with unread := satInc x.unread })
    refine ⟨_, y, congrArg Host.Outcome.next acts, endTransaction_transaction _, hy, ?_⟩
    rw [same]
    exact ⟨rfl, rfl, rfl, rfl, rfl, (set.trans (endTransaction_calm _).toWithin).touches⟩
  · obtain ⟨n, next⟩ := Scanner.next_advance used
    obtain ⟨y, hy, inPass, -⟩ := Scanner.of_next next
    obtain ⟨x, hx, same⟩ := Scanner.slot_advance hy
    obtain ⟨polled, counted⟩ := poll_advance s.scanner n
    have frame := (startRound_frame s).1.touches
    rw [startRound_at next] at frame
    refine ⟨_, n, x, congrArg Host.Outcome.next ((transactionDue_of_idle outside idle).trans (startRound_at next)),
      polled, hx, ?_, counted, frame⟩
    have used := Slot.used_of_inPass inPass
    rw [same] at used
    exact used
  · obtain ⟨x, hx, hu⟩ := used
    obtain ⟨n, next⟩ : ∃ n, nextParked s.scanner = some n := by
      obtain ⟨m, hm⟩ := Scanner.next_of_mem hx hu
      rw [nextParked_eq, hm]
      cases s.scanner.next Slot.used s.scanner.lastPolled with
      | none => exact ⟨m, rfl⟩
      | some n => exact ⟨n, rfl⟩
    have borne : ∃ y, s.scanner.slot n = some y ∧ y.used = true := by
      rw [nextParked_eq, Option.or_eq_some_iff] at next
      rcases next with h | ⟨-, h⟩ <;> obtain ⟨y, hy, hp, -⟩ := Scanner.of_next h <;> exact ⟨y, hy, hp⟩
    obtain ⟨y, hy, hp⟩ := borne
    exact ⟨_, n, y, congrArg Host.Outcome.next (parkedPoll_at parked idle next), rfl, hy, hp, rfl, rfl,
      by simp [touches_iff]⟩
  · intro inPass past first
    have next : nextInPass s.scanner = some slot := Scanner.next_eq_some here inPass past fun m z hm ha hz =>
      first m z hm ha hz
    have stays := Scanner.advance_of_next next
    refine ⟨_, congrArg Host.Outcome.next ((transactionDue_of_idle outside idle).trans
      (startRound_at (n := slot) (by rw [stays, next]))), ?_, (poll_advance s.scanner slot).1, ?_, rfl⟩
    · exact (congrArg Scanner.slots stays :)
    · exact (congrArg Scanner.pass stays :)
  · intro pass gone used ill first
    obtain ⟨turned, next⟩ := Scanner.advance_to_extra pass gone here used ill first
    refine ⟨_, congrArg Host.Outcome.next ((transactionDue_of_idle outside idle).trans (startRound_at next)), ?_,
      (poll_advance s.scanner slot).1, ?_, rfl⟩
    · exact (congrArg Scanner.slots turned :)
    · exact (congrArg Scanner.pass turned :)
  · intro gone fine used first
    obtain ⟨pass, next⟩ := Scanner.advance_to_main gone fine here used first
    exact ⟨_, congrArg Host.Outcome.next ((transactionDue_of_idle outside idle).trans (startRound_at next)),
      (poll_advance s.scanner slot).1, pass, rfl⟩
  · have next : nextParked s.scanner = some slot := by
      have low : 0 < slot := by
        obtain ⟨i, rfl, -⟩ := Scanner.slot_eq_some here
        omega
      rw [nextParked_eq]
      rcases order with ⟨past, first⟩ | ⟨gone, first⟩
      · rw [Scanner.next_eq_some here used past fun m z hm ha hz => first m z hm ha hz]
        rfl
      · rw [Scanner.next_eq_none gone, Scanner.next_eq_some here used low fun m z hm _ hz => first m z hm hz]
        rfl
    exact ⟨_, congrArg Host.Outcome.next (parkedPoll_at parked idle next), rfl, rfl⟩
  · obtain ⟨tr, htr⟩ := Option.isSome_iff_exists.mp busy
    refine congrArg Host.Outcome.next ?_
    simp only [parkedPoll, if_pos parked, htr]
    rfl

end Sys2Proof.Machine
end

section
/-! SUPPORT. The tower string's events: the accepted reply, its codes and latches, late replies, and the deadlines
(R126 to R135). -/

namespace Sys2Proof.Machine

open Config

/-- The blocks of an occasion of the watches: those of an event, and the hit flags. -/
abbrev occasionBlocks : List Block := .watches :: eventBlocks

section
variable {s t u : State} {n slot : Nat} {x y before : Slot} {i j : Idx4}

/-! ### Occasions of tower events (R152 to R154) -/

theorem slotAt_congr (n : Nat) (h : t.scanner = s.scanner) : slotAt n t = slotAt n s := by
  rw [slotAt_eq, h, slotAt_eq]

theorem offerHits_within (ms : List WatchMatch) (s : State) : Within eventBlocks s (offerHits ms s) := by
  induction ms generalizing s with
  | nil => exact .refl _ s
  | cons m ms ih => exact (offerEvent_within s _).trans (ih _)

/-- Without a match that raises, an occasion's Stop actions do nothing. -/
theorem stopMatches_of_none {ms : List WatchMatch} (h : ∀ m ∈ ms, m.raised = false) (s : State) :
    stopMatches ms s = s := by
  induction ms with
  | nil => rfl
  | cons m ms ih =>
    rw [stopMatches, if_neg (by simp [h m])]
    exact ih fun m' hm => h m' (List.mem_cons_of_mem _ hm)

theorem towerMatches_raised {e : TowerEvent} {m : WatchMatch} (h : m ∈ towerMatches e s) : m.raised = false := by
  simp only [towerMatches, List.mem_filterMap] at h
  obtain ⟨i, -, hm⟩ := h
  split at hm
  · rw [← Option.some.inj hm]
  · cases hm

theorem towerOccasion_within (e : TowerEvent) (s : State) : Within occasionBlocks s (towerOccasion e s) := by
  unfold towerOccasion occasion
  split
  · simp only []
    rw [stopMatches_of_none fun m hm => towerMatches_raised hm]
    have set (w : Watches) : Within [.watches] s { s with watches := w } :=
      ⟨by simp [touches_iff], by simp [DeskQuiet]⟩
    exact (((set _).mono (by decide)).andThen (queueReport_calm _ _).toWithin (by decide)).andThen
      (offerHits_within _ _) (by decide)
  · exact .refl _ s

theorem offerTowerEvent_within (k : TowerKind) (n : Nat) (p : Option Nat) (x : Slot) (s : State) :
    Within occasionBlocks s (offerTowerEvent k n p x s) := towerOccasion_within _ s

protected theorem Settles.towerOccasion {e : TowerEvent} (h : Settles s t) : Settles s (towerOccasion e t) := h.occasion

/-- What tells others of a tower's change: the scanner stands, and no demand is withdrawn. -/
structure Telling (s t : State) : Prop where
  within : Within occasionBlocks s t
  kept : s.run.demands ⊆ t.run.demands

theorem Telling.refl (s : State) : Telling s s := ⟨.refl _ s, List.Subset.refl _⟩

theorem Telling.trans (h : Telling s t) (k : Telling t u) : Telling s u :=
  ⟨h.within.trans k.within, List.Subset.trans h.kept k.kept⟩

theorem Telling.slotAt (h : Telling s t) (n : Nat) : slotAt n t = slotAt n s := slotAt_congr n h.within.scanner

theorem Calm.telling {bs : List Block} (h : Calm bs s t) (sub : bs ⊆ occasionBlocks) (run : .run ∉ bs := by decide) :
    Telling s t := ⟨h.toWithin.mono sub, by rw [h.run run]; exact List.Subset.refl _⟩

theorem offerTower_telling (s : State) : Telling s (offerTower s) := (offerTower_calm s).telling (by decide)

theorem towerCeilingTest_telling (s : State) : Telling s (towerCeilingTest s) := (towerCeilingTest_calm s).telling (by decide)

theorem raise_telling (src : Source) (s : State) : Telling s (raise src s) :=
  ⟨(raise_within s src).mono (by decide), (raise_course src s).kept⟩

theorem offerEvent_telling (ev : CounterEvent) (s : State) : Telling s (offerEvent ev s) :=
  ⟨(offerEvent_within s ev).mono (by decide), (Settles.offerEvent (.refl s)).kept⟩

theorem towerOccasion_telling (e : TowerEvent) (s : State) : Telling s (towerOccasion e s) :=
  ⟨towerOccasion_within e s, (Settles.occasion (.refl s)).kept⟩

theorem wakingTest_telling (s : State) : Telling s (wakingTest s) := by
  unfold wakingTest
  split
  · refine ⟨Within.mono ⟨enterState_touches _ _ _ (.inr ?_), enterState_deskQuiet _ _ _⟩ (by decide), by simp⟩
    split <;> decide
  · exact .refl s

/-! ### The points of an accepted reply (R129, R131, R132) -/

/-- The latch a point has after a reply that gave it the code `c`. -/
def latchAfter (c : PointCode) (l : Latch) : Latch := (latchOf? c).getD l

theorem latchAfter_of_other {c : PointCode} {l : Latch} (out : c ≠ .out) (broken : c ≠ .broken) : latchAfter c l = l := by
  cases c with
  | out => exact absurd rfl out
  | broken => exact absurd rfl broken
  | _ => rfl

/-- The slot with one point's latch as its code in `x` asks for it. -/
def Slot.latchAt (x y : Slot) (i : Idx4) : Slot :=
  { y with latches := y.latches.set i (latchAfter (x.codes.get i) (y.latches.get i)) }

theorem setSlot_within (n : Nat) (x : Slot) (s : State) : Within [.scanner] s (setSlot n x s) :=
  ⟨by simp [touches_iff], by simp [DeskQuiet]⟩

theorem Quad.set_get_self {α : Type} (q : Quad α) (i : Idx4) : q.set i (q.get i) = q := by cases i <;> rfl

/-- One step of a reply's events: the slot under its number, and no demand withdrawn. -/
structure Latching (slot : Nat) (y : Slot) (s t : State) : Prop where
  slotAt : slotAt slot t = some y
  within : Within towerBlocks s t
  kept : s.run.demands ⊆ t.run.demands

theorem Telling.latching (h : Telling s t) (here : Machine.slotAt slot s = some y) : Latching slot y s t :=
  ⟨(h.slotAt slot).trans here, h.within.mono (by decide), h.kept⟩

theorem Latching.trans (h : Latching slot x s t) (k : Latching slot y t u) : Latching slot y s u :=
  ⟨k.slotAt, h.within.trans k.within, List.Subset.trans h.kept k.kept⟩

theorem setSlot_latching (h : slotAt slot s = some x) (y : Slot) : Latching slot y s (setSlot slot y s) :=
  ⟨slotAt_setSlot h y, (setSlot_within slot y s).mono (by decide), by simp⟩

theorem latchPoint_acts (h : slotAt slot s = some y) (l : Latch) :
    Latching slot { y with latches := y.latches.set i l } s (latchPoint slot i l s) ∧
      (y.latches.get i = .clear → Source.towerOut ∈ (latchPoint slot i l s).run.demands) := by
  have set := setSlot_latching h { y with latches := y.latches.set i l }
  unfold latchPoint
  simp only [h]
  generalize setSlot slot { y with latches := y.latches.set i l } s = v at *
  split
  · have raised := raise_telling .towerOut v
    have demand : Source.towerOut ∈ (raise .towerOut v).run.demands := (mem_raise _ _ _).mpr (.inl rfl)
    have told := (towerOccasion_telling { kind := latchKind l, slot := slot, address := y.address.getD 0, point := some (idxNumber i), coord := y.coord } (raise .towerOut v)).trans
      (offerTower_telling _)
    exact ⟨set.trans ((raised.trans told).latching set.slotAt), fun _ => told.kept demand⟩
  · rename_i held
    refine ⟨?_, fun clear => absurd clear held⟩
    split
    · rename_i same
      subst same
      exact ⟨by rw [Quad.set_get_self]; exact h, .refl _ s, List.Subset.refl _⟩
    · exact set.trans ((offerTower_telling v).latching set.slotAt)

theorem latchOf_of_offset {b c : PointCode} (h : newOffset b c = true) : latchOf? c = none := by
  cases c <;> simp_all [newOffset, isOffset, latchOf?]

/-- The tower event or the latching of one point of a reply. -/
theorem pointEvents_acts (h : slotAt slot s = some y) :
    Latching slot (x.latchAt y i) s (pointEvents slot before x s i) ∧
      (y.latches.get i = .clear → (latchOf? (x.codes.get i)).isSome = true →
        Source.towerOut ∈ (pointEvents slot before x s i).run.demands) := by
  have stands (hn : latchOf? (x.codes.get i) = none) : x.latchAt y i = y := by
    simp only [Slot.latchAt, latchAfter, hn, Option.getD_none, Quad.set_get_self]
  unfold pointEvents
  split
  · rename_i offset
    have unlatched := latchOf_of_offset offset
    rw [stands unlatched]
    exact ⟨(towerOccasion_telling _ s).latching h, fun _ some => by simp [unlatched] at some⟩
  · split
    · rename_i l hl
      obtain ⟨latched, raised⟩ := latchPoint_acts (i := i) h l
      have shape : x.latchAt y i = { y with latches := y.latches.set i l } := by
        simp only [Slot.latchAt, latchAfter, hl, Option.getD_some]
      rw [shape]
      exact ⟨latched, fun clear _ => raised clear⟩
    · rename_i hn
      rw [stands hn]
      exact ⟨(Telling.refl s).latching h, fun _ some => by simp [hn] at some⟩

theorem Slot.latchAt_get_ne (h : j ≠ i) : (x.latchAt y j).latches.get i = y.latches.get i := by
  simp [Slot.latchAt, Quad.get_set, Ne.symm h]

/-- The points of a reply one after another. -/
theorem points_act (before x : Slot) (slot : Nat) (l : List Idx4) (once : l.Nodup) (s : State) (y : Slot)
    (h : slotAt slot s = some y) :
    Latching slot (l.foldl x.latchAt y) s (l.foldl (pointEvents slot before x) s) ∧
      ∀ i ∈ l, y.latches.get i = .clear → (latchOf? (x.codes.get i)).isSome = true →
        Source.towerOut ∈ (l.foldl (pointEvents slot before x) s).run.demands := by
  induction l generalizing s y with
  | nil => exact ⟨(Telling.refl s).latching h, nofun⟩
  | cons j l ih =>
    obtain ⟨absent, rest⟩ := List.nodup_cons.mp once
    obtain ⟨first, raised⟩ := pointEvents_acts (before := before) (x := x) (i := j) h
    obtain ⟨later, others⟩ := ih rest _ _ first.slotAt
    refine ⟨first.trans later, fun i hi clear asks => ?_⟩
    rcases List.mem_cons.mp hi with rfl | hi
    · exact later.kept (raised clear asks)
    · have ne : j ≠ i := fun e => absent (e ▸ hi)
      exact others i hi (by rw [Slot.latchAt_get_ne ne]; exact clear) asks

/-- A slot with the latches its reply's codes ask for. -/
def Slot.latchAll (x : Slot) : Slot := Idx4.all.foldl x.latchAt x

theorem Slot.latchAll_eq (x : Slot) : x.latchAll = { x with latches := x.latchAll.latches } := rfl

theorem Slot.latchAll_get (x : Slot) (i : Idx4) :
    x.latchAll.latches.get i = latchAfter (x.codes.get i) (x.latches.get i) := by cases i <;> rfl

theorem replyEvents_acts (h : slotAt slot s = some x) (before : Slot) :
    Latching slot x.latchAll s (replyEvents slot before x s) ∧
      ∀ i, x.latches.get i = .clear → (latchOf? (x.codes.get i)).isSome = true →
        Source.towerOut ∈ (replyEvents slot before x s).run.demands := by
  have offsets (l : List Idx4) (u : State) : Telling u (l.foldl (pointOffset slot before x) u) := by
    induction l generalizing u with
    | nil => exact .refl u
    | cons i l ih =>
      have first : Telling u (pointOffset slot before x u i) := by
        unfold pointOffset
        split
        · exact offerEvent_telling _ u
        · exact .refl u
      exact first.trans (ih _)
  have told := (offsets Idx4.all s).latching h
  obtain ⟨latched, raised⟩ := points_act before x slot Idx4.all (by decide) _ x told.slotAt
  exact ⟨told.trans latched, fun i => raised i (by cases i <;> decide)⟩

/-! ### The accepted reply (R126, R129) -/

theorem hearTower_acts (h : slotAt slot s = some y) : ∃ z, Latching slot z s (hearTower slot s) ∧
    z = { y with heard := z.heard } := by
  unfold hearTower
  simp only [h]
  split
  · have set := setSlot_latching h { y with heard := true }
    exact ⟨_, set.trans ((wakingTest_telling _).latching set.slotAt), rfl⟩
  · exact ⟨y, (Telling.refl s).latching h, rfl⟩

theorem replyChange_telling (slot : Nat) (before : Slot) (s : State) : Telling s (replyChange slot before s) := by
  unfold replyChange
  split
  · split
    · exact .refl s
    · exact offerTower_telling s
  · exact .refl s

/-- What an accepted reply makes of its slot, and what it raises. -/
theorem acceptReply_acts (h : slotAt slot s = some x) (codes : Quad Nat) :
    ∃ z, slotAt slot (acceptReply slot codes s) = some z ∧
      z = { (x.take codes).latchAll with heard := z.heard, extraDue := z.extraDue } ∧
      (acceptReply slot codes s).scanner.transaction = none ∧ Within towerBlocks s (acceptReply slot codes s) ∧
      ∀ i, x.latches.get i = .clear → (latchOf? ((x.take codes).codes.get i)).isSome = true →
        Source.towerOut ∈ (acceptReply slot codes s).run.demands := by
  have set := setSlot_latching h (x.take codes)
  obtain ⟨latched, raised⟩ := replyEvents_acts set.slotAt x
  have tested := (towerCeilingTest_telling (replyEvents slot x (x.take codes) (setSlot slot (x.take codes) s)))
  have ceiling := (set.trans latched).trans (tested.latching latched.slotAt)
  obtain ⟨y, heard, shape⟩ := hearTower_acts ceiling.slotAt
  have told := replyChange_telling slot x (hearTower slot
    (towerCeilingTest (replyEvents slot x (x.take codes) (setSlot slot (x.take codes) s))))
  have done := (ceiling.trans heard).trans (told.latching heard.slotAt)
  have demands := List.Subset.trans (List.Subset.trans tested.kept heard.kept) told.kept
  have acts : acceptReply slot codes s = endTransaction (replyChange slot x (hearTower slot
      (towerCeilingTest (replyEvents slot x (x.take codes) (setSlot slot (x.take codes) s))))) := by
    simp only [acceptReply, h]
  rw [acts]
  generalize replyChange slot x (hearTower slot (towerCeilingTest (replyEvents slot x (x.take codes)
    (setSlot slot (x.take codes) s)))) = v at *
  have ended := (endTransaction_calm v).toWithin
  obtain ⟨z, hz, moved⟩ := slotAt_endTransaction done.slotAt
  refine ⟨z, hz, ?_, endTransaction_transaction v, done.within.andThen ended (by decide), fun i clear asks => ?_⟩
  · rw [moved, shape]
  · rw [ended.run]
    exact demands (raised i clear asks)

theorem replyCodes_get (x : Slot) (codes : Quad Nat) (i : Idx4) : (replyCodes x codes).get i = pointCode x codes i := by
  cases i <;> rfl

/-! ### Frames that end no transaction (R127) -/

theorem lateReply_acts (address : Nat) (s : State) :
    (lateReply address s).scanner = { s.scanner with late := min (s.scanner.late + 1) 65535 } ∧
      Within towerBlocks s (lateReply address s) := by
  have counted : Within [.scanner] s { s with scanner := { s.scanner with late := satInc s.scanner.late } } :=
    ⟨by simp [touches_iff], by simp [DeskQuiet]⟩
  have offered := offerEvent_within { s with scanner := { s.scanner with late := satInc s.scanner.late } }
    { code := 9, slot := slotOfAddress address s }
  exact ⟨offered.scanner, (counted.mono (by decide)).andThen offered (by decide)⟩

/-- A frame of good format that is received (R127). -/
theorem towerBytes_good {frame : List Byte} {f : TowerFrame} (good : parseReply frame = some f)
    (receives : s.scanner.transaction = none ∨
      ∃ tr ms, s.scanner.transaction = some tr ∧ tr.timer = some ms) : towerBytes frame s = towerFrame f s := by
  have quiet : s.scanner.sending = false := by
    unfold Scanner.sending
    rcases receives with idle | ⟨tr, ms, flight, timer⟩
    · rw [idle]
    · rw [flight]
      exact congrArg Option.isNone timer
  rw [towerBytes, quiet, good]
  rfl

/-! ### Deadlines (R134, R135) -/

theorem towerCeiling_of_slow (h : slotAt n s = some x) (slow : x.slows = true) : (towerCeilingTest s).gov.towerCeiling = true := by
  obtain ⟨i, -, hi⟩ := Scanner.slot_eq_some h
  rw [towerCeilingTest, setCeiling_gov]
  exact List.any_eq_true.mpr ⟨x, List.mem_of_getElem? hi, slow⟩

theorem offerTower_gov (s : State) : (offerTower s).gov = s.gov := (offerTower_calm s).gov

theorem Slot.slows_of_late (used : x.used = true) (late : x.deadline ≠ .within) : x.slows = true := by
  simp [Slot.slows, used, late]

/-- What a stale tower's event tells: counter event 8, the watches, the ceiling and the Tower change (R135). -/
theorem becomeStale_telling (slot : Nat) (x : Slot) (s : State) :
    Telling (setSlot slot { x with deadline := .stale, age := max x.age (s.scanner.deadline + 1) } s)
      (becomeStale slot x s) := by
  unfold becomeStale
  simp only []
  generalize setSlot slot { x with deadline := .stale, age := max x.age (s.scanner.deadline + 1) } s = v
  have counted := offerEvent_telling { code := 8, slot := some slot } v
  generalize offerEvent { code := 8, slot := some slot } v = w at *
  have told : Telling w (offerTowerEvent .stale slot none
      { x with deadline := .stale, age := max x.age (s.scanner.deadline + 1) } w) := towerOccasion_telling _ w
  exact ((counted.trans told).trans (towerCeilingTest_telling _)).trans (offerTower_telling _)

theorem becomeSilent_telling (slot : Nat) (x : Slot) (s : State) :
    Telling (setSlot slot { x with deadline := .silent, age := max x.age (2 * s.scanner.deadline + 1) } s)
      (becomeSilent slot x s) :=
  ((raise_telling _ _).trans (towerCeilingTest_telling _)).trans (offerTower_telling _)

theorem becomeStale_acts (h : slotAt slot s = some x) (used : x.used = true) :
    Latching slot { x with deadline := .stale, age := max x.age (s.scanner.deadline + 1) } s (becomeStale slot x s) ∧
      (becomeStale slot x s).gov.towerCeiling = true := by
  have set := setSlot_latching h { x with deadline := .stale, age := max x.age (s.scanner.deadline + 1) }
  refine ⟨set.trans ((becomeStale_telling slot x s).latching set.slotAt), ?_⟩
  unfold becomeStale
  simp only []
  generalize setSlot slot { x with deadline := .stale, age := max x.age (s.scanner.deadline + 1) } s = v at *
  have told := (offerEvent_telling { code := 8, slot := some slot } v).trans (towerOccasion_telling
    { kind := .stale, slot := slot, address := x.address.getD 0, point := none, coord := x.coord }
    (offerEvent { code := 8, slot := some slot } v))
  rw [offerTower_gov]
  exact towerCeiling_of_slow ((told.slotAt slot).trans set.slotAt) (Slot.slows_of_late used (by simp))

theorem becomeSilent_acts (h : slotAt slot s = some x) (used : x.used = true) :
    Latching slot { x with deadline := .silent, age := max x.age (2 * s.scanner.deadline + 1) } s (becomeSilent slot x s) ∧
      (becomeSilent slot x s).gov.towerCeiling = true ∧ Raised .towerSilent s (becomeSilent slot x s) := by
  have set := setSlot_latching h { x with deadline := .silent, age := max x.age (2 * s.scanner.deadline + 1) }
  have run : (setSlot slot { x with deadline := .silent, age := max x.age (2 * s.scanner.deadline + 1) } s).run = s.run := by
    simp
  refine ⟨set.trans ((becomeSilent_telling slot x s).latching set.slotAt), ?_⟩
  unfold becomeSilent
  generalize setSlot slot { x with deadline := .silent, age := max x.age (2 * s.scanner.deadline + 1) } s = v at *
  have raised := raise_telling .towerSilent v
  refine ⟨?_, ?_⟩
  · rw [offerTower_gov]
    exact towerCeiling_of_slow ((raised.slotAt slot).trans set.slotAt) (Slot.slows_of_late used (by simp))
  · have demand := (raise_run .towerSilent v).1
    unfold Raised at demand ⊢
    rw [(offerTower_calm _).run, (towerCeilingTest_calm _).run, ← run]
    exact demand

end

/-- Settles O43: frames by the transaction in flight; deadlines by the tower's standing. -/
theorem towerEventsAreTaken : Obligations.TowerEventsAreTaken := by
  refine ⟨fun frame s => ⟨fun bad => ?_, fun tr flight sending => ?_, fun f good idle => ?_,
    fun f tr ms good flight timer other => ?_, fun f x tr ms good flight timer number here address => ?_,
    fun f x slot retry ms good flight here address => ?_⟩,
    fun slot x s here used => ⟨fun outside within => ?_, fun outside stale => ?_, fun parked => ⟨?_, ?_⟩⟩⟩
  · refine congrArg Host.Outcome.next ?_
    show towerBytes frame s = s
    rw [towerBytes, bad]
    exact ite_self s
  · refine congrArg Host.Outcome.next (if_pos ?_)
    show s.scanner.sending = true
    rw [Scanner.sending, flight]
    exact Option.isNone_iff_eq_none.mpr sending
  · have acts : towerBytes frame s = lateReply f.address s := by
      rw [towerBytes_good good (.inl idle), towerFrame, idle]
    obtain ⟨late, within⟩ := lateReply_acts f.address s
    exact ⟨_, congrArg Host.Outcome.next acts, late, within.desk, within.touches⟩
  · have acts : towerBytes frame s = lateReply f.address s := by
      rw [towerBytes_good good (.inr ⟨tr, ms, flight, timer⟩), towerFrame, flight]
      exact if_pos other
    obtain ⟨late, within⟩ := lateReply_acts f.address s
    exact ⟨_, congrArg Host.Outcome.next acts, late, by rw [late]; exact flight, within.desk, within.touches⟩
  · refine congrArg Host.Outcome.next ?_
    rw [towerBytes_good good (.inr ⟨tr, ms, flight, timer⟩), towerFrame, flight]
    simp [number, here, address]
  · have acts : towerBytes frame s = acceptReply slot f.codes s := by
      rw [towerBytes_good good (.inr ⟨_, ms, flight, rfl⟩), towerFrame, flight]
      simp [here, address]
    obtain ⟨z, hz, shape, ended, within, raised⟩ := acceptReply_acts here f.codes
    have codes (i : Idx4) : z.codes.get i = pointCode x f.codes i := by
      rw [shape]
      exact replyCodes_get x f.codes i
    have latches (i : Idx4) : z.latches.get i = latchAfter (z.codes.get i) (x.latches.get i) := by
      rw [codes, ← replyCodes_get x f.codes i]
      rw [shape]
      exact Slot.latchAll_get _ i
    refine ⟨_, z, congrArg Host.Outcome.next acts, hz, ended, ?_, ?_, ?_, within.desk, within.touches,
      fun i off => ?_, fun i on => ?_, fun i out => ?_, fun i broken => ?_, fun i unOut unBroken => ?_,
      fun i clear asks => ?_⟩
    · rw [shape]; rfl
    · rw [shape]; rfl
    · rw [shape]; rfl
    · rw [codes, pointCode, off]; rfl
    · rw [codes, pointCode, on]; rfl
    · rw [latches, out]; rfl
    · rw [latches, broken]; rfl
    · rw [latches]
      exact latchAfter_of_other unOut unBroken
    · refine raised i clear ?_
      have same : (x.take f.codes).codes.get i = z.codes.get i := by rw [codes]; exact replyCodes_get x f.codes i
      rw [same]
      rcases asks with e | e <;> rw [e] <;> rfl
  · have acts : staleEvent slot s = becomeStale slot x s := by
      simp [staleEvent, here, outside, used, within]
    obtain ⟨latched, ceiling⟩ := becomeStale_acts here used
    exact ⟨_, _, congrArg Host.Outcome.next acts, latched.slotAt, rfl, rfl, rfl, rfl, ceiling, latched.within.desk,
      latched.within.touches⟩
  · have acts : silentEvent slot s = becomeSilent slot x s := by
      simp [silentEvent, here, outside, used, stale]
    obtain ⟨latched, ceiling, raised⟩ := becomeSilent_acts here used
    exact ⟨_, _, congrArg Host.Outcome.next acts, latched.slotAt, rfl, ceiling, raised, latched.within.desk,
      latched.within.touches⟩
  · refine congrArg Host.Outcome.next ?_
    simp [staleEvent, here, parked]
  · refine congrArg Host.Outcome.next ?_
    simp [silentEvent, here, parked]

end Sys2Proof.Machine
end

section
/-! SUPPORT. The requests to the scanner: a slot replaced, the deadline, and latches taken back (R125, R133, R136). -/

namespace Sys2Proof.Machine

open Config

section
variable {s t u : State} {k : Scanner} {a n m d slot : Nat} {x y : Slot} {i j : Idx4} {p : Slot → Bool}

/-! ### SetTower (R125) -/

theorem Scanner.next_of_slot (hx : k.slot n = some x) (hp : p x = true) (past : a < n) : ∃ m, k.next p a = some m := by
  obtain ⟨i, rfl, hi⟩ := Scanner.slot_eq_some hx
  exact Option.isSome_iff_exists.mp (List.find?_isSome.mpr ⟨1 + i, mem_slotNumbers hi hp, by simpa using past⟩)

theorem addressTaken_of_alone {address : Nat}
    (alone : address ≠ 0 → ∀ n y, n ≠ slot → slotAt n s = some y → y.address ≠ some address) :
    addressTaken slot address s = false := by
  by_cases zero : address = 0
  · simp [addressTaken, zero]
  · rw [addressTaken, Bool.and_eq_false_iff]
    refine .inr (List.any_eq_false.mpr fun m hm => ?_)
    obtain ⟨i, y, rfl, hy, hp⟩ := of_mem_slotNumbers hm
    by_cases same : 1 + i = slot
    · simp [same]
    · exact absurd (by simpa using hp) (alone zero (1 + i) y same (by rw [slotAt_eq, Scanner.slot_succ]; exact hy))

/-- A slot set afresh shows nothing. -/
theorem Slot.fresh_normal (x : Slot) : x.fresh.nonNormal = false := by
  have code (i : Idx4) : x.fresh.codes.get i = if x.enables.get i then .unknown else .disabled := by
    simp [Slot.fresh, freshCodes]
  have latch (i : Idx4) : x.fresh.latches.get i = .clear := by cases i <;> rfl
  rw [Slot.nonNormal, Slot.anyPoint, List.any_eq_false]
  intro i _
  rw [code, latch]
  cases x.enables.get i <;> simp [isOffset, latchOf?]

/-- The slots of a scanner with one replaced, outside it. -/
theorem endIfTo_cases (slot : Nat) (s : State) :
    ((∀ tr, s.scanner.transaction = some tr → tr.slot ≠ slot) ∧ endIfTo slot s = s) ∨
      ((∃ tr, s.scanner.transaction = some tr ∧ tr.slot = slot) ∧ endIfTo slot s = endTransaction s) := by
  unfold endIfTo
  split
  · rename_i tr htr
    split
    · rename_i same
      exact .inr ⟨⟨tr, htr, same⟩, rfl⟩
    · rename_i other
      refine .inl ⟨fun tr' h => ?_, rfl⟩
      rw [htr, Option.some.injEq] at h
      exact h ▸ other
  · rename_i idle
    exact .inl ⟨fun tr h => (by rw [idle] at h; cases h), rfl⟩

theorem endTransaction_parked (parked : s.run.state = .parked) :
    (endTransaction s).scanner = { s.scanner with transaction := none } := by
  simp only [endTransaction, if_pos parked]

theorem endTransaction_outside (outside : s.run.state ≠ .parked) : (endTransaction s).scanner =
    { ({ s.scanner with transaction := none } : Scanner).advance with pauseTimer := some 1 } := by
  simp only [endTransaction, if_neg outside]
  rfl

theorem endTransaction_scanner (s : State) : (endTransaction s).scanner = { s.scanner with
    slots := (endTransaction s).scanner.slots, transaction := none, pass := (endTransaction s).scanner.pass
    passSlot := (endTransaction s).scanner.passSlot
    pauseTimer := if s.run.state = .parked then s.scanner.pauseTimer else some 1 } := by
  by_cases parked : s.run.state = .parked
  · rw [endTransaction_parked parked, if_pos parked]
  · rw [endTransaction_outside parked, if_neg parked]
    have rest := Scanner.advance_rest { s.scanner with transaction := none }
    generalize ({ s.scanner with transaction := none } : Scanner).advance = l at *
    rw [rest]

/-- Where the pass holds a further slot it goes on (R128). -/
theorem endTransaction_goesOn (outside : s.run.state ≠ .parked) (further : nextInPass s.scanner = some n) :
    (endTransaction s).scanner = { s.scanner with transaction := none, pauseTimer := some 1 } := by
  rw [endTransaction_outside outside]
  have next : nextInPass { s.scanner with transaction := none } = some n := further
  rw [Scanner.advance_of_next next]

/-- The end of a main pass sets the extra dues afresh (R128). -/
theorem endTransaction_mainEnds (outside : s.run.state ≠ .parked) (pass : s.scanner.pass = .main)
    (over' : nextInPass s.scanner = none) : (endTransaction s).scanner.slots = s.scanner.slots.map markExtra := by
  rw [endTransaction_outside outside]
  have next : nextInPass { s.scanner with transaction := none } = none := over'
  have turned := Scanner.turn_main next pass
  have slots : ({ s.scanner with transaction := none } : Scanner).turn.slots = s.scanner.slots.map markExtra := by
    rw [turned]
  rcases ({ s.scanner with transaction := none } : Scanner).turn.turn_slots with e | e
  · exact e.trans slots
  · refine e.trans ?_
    rw [slots, List.map_map]
    rfl

theorem slotAt_map (f : Slot → Slot) (h : t.scanner.slots = s.scanner.slots.map f) (n : Nat) :
    slotAt n t = (slotAt n s).map f := by
  unfold slotAt
  split
  · rfl
  · rw [h, List.getElem?_map]

/-- An accepted SetTower: the slot set afresh, and what becomes of a transaction to it. -/
theorem placeSlot_acts (slot : Nat) (x : Slot) (s : State) :
    (placeSlot slot x s).scanner = (endIfTo slot (setSlot slot x.fresh s)).scanner ∧
      Calm [.gov, .scanner, .line, .desk] s (placeSlot slot x s) := by
  have set : Calm [.scanner] s (setSlot slot x.fresh s) :=
    ⟨setSlot_within slot _ s, by simp [lineQuiet_iff]⟩
  have ended : Calm [.scanner] (setSlot slot x.fresh s) (endIfTo slot (setSlot slot x.fresh s)) := by
    rcases endIfTo_cases slot (setSlot slot x.fresh s) with ⟨-, e⟩ | ⟨-, e⟩ <;> rw [e]
    · exact .refl _ _
    · exact endTransaction_calm _
  have told := (towerCeilingTest_calm (endIfTo slot (setSlot slot x.fresh s))).andThen (offerTower_calm _) (by decide)
  exact ⟨told.scanner, ((set.trans ended).mono (by decide)).andThen told (by decide)⟩

/-! ### SetScan (R136) -/

/-- The standing an age calls for under a deadline (R135, R136). -/
def standing (d age : Nat) : Deadline := if 2 * d < age then .silent else if d < age then .stale else .within

/-- A step of the comparison: one slot brought to a new record, all else of the scanner as it was. -/
structure Comparing (slot : Nat) (y : Slot) (s t : State) : Prop where
  scanner : t.scanner = (setSlot slot y s).scanner
  within : Within towerBlocks s t

theorem setSlot_same (h : slotAt slot s = some x) : (setSlot slot x s).scanner = s.scanner := by
  obtain ⟨-, at'⟩ := slotAt_eq_some h
  have same : s.scanner.slots.set (slot - 1) x = s.scanner.slots := List.ext_getElem? fun i => by
    rw [List.getElem?_set]
    split
    · rename_i e
      subst e
      rw [at', if_pos (List.getElem?_eq_some_iff.mp at').1]
    · rfl
  exact congrArg (fun l => { s.scanner with slots := l }) same

theorem Comparing.stands (h : slotAt slot s = some x) : Comparing slot x s s := ⟨(setSlot_same h).symm, .refl _ s⟩

theorem Comparing.trans (h : Comparing slot x s t) (k : Comparing slot y t u) : Comparing slot y s u := by
  refine ⟨?_, h.within.trans k.within⟩
  rw [k.scanner]
  simp only [setSlot, h.scanner, List.set_set]

theorem Comparing.slotAt (h : Comparing slot y s t) (here : Machine.slotAt slot s = some x) :
    Machine.slotAt slot t = some y := (slotAt_congr slot h.scanner).trans (slotAt_setSlot here y)

theorem Telling.comparing (h : Telling (setSlot slot y s) t) : Comparing slot y s t :=
  ⟨h.within.scanner, ((setSlot_within slot y s).mono (by decide)).trans (h.within.mono (by decide))⟩

/-- The first test of a tower passed over: Stale where Within (R136). -/
theorem staleTest_acts (h : slotAt slot s = some x) (used : x.used = true) : Comparing slot
    { x with deadline := if x.deadline = .within ∧ s.scanner.deadline < x.age then .stale else x.deadline } s
    (if x.used = true ∧ x.deadline = .within ∧ s.scanner.deadline < x.age then becomeStale slot x s else s) := by
  by_cases passed : x.deadline = .within ∧ s.scanner.deadline < x.age
  · have told := (becomeStale_telling slot x s).comparing
    rw [if_pos passed, if_pos ⟨used, passed⟩]
    rwa [Nat.max_eq_left (show s.scanner.deadline + 1 ≤ x.age from passed.2)] at told
  · rw [if_neg passed, if_neg (fun both => passed both.2)]
    exact .stands h

/-- The second: Silent where Stale (R136). -/
theorem silentTest_acts (h : slotAt slot s = some x) (used : x.used = true) (hd : s.scanner.deadline = d) : Comparing slot
    { x with deadline := if x.deadline = .stale ∧ 2 * d < x.age then .silent else x.deadline } s
    (if x.used = true ∧ x.deadline = .stale ∧ 2 * d < x.age then becomeSilent slot x s else s) := by
  subst hd
  by_cases passed : x.deadline = .stale ∧ 2 * s.scanner.deadline < x.age
  · have told := (becomeSilent_telling slot x s).comparing
    rw [if_pos passed, if_pos ⟨used, passed⟩]
    rwa [Nat.max_eq_left (show 2 * s.scanner.deadline + 1 ≤ x.age from passed.2)] at told
  · rw [if_neg passed, if_neg (fun both => passed both.2)]
    exact .stands h

/-- A tower passed over by the new deadline, from a standing that the deadline leaves (R136). -/
theorem comparePassed_acts (h : slotAt slot s = some x) (used : x.used = true)
    (late : x.deadline = x.eased s.scanner.deadline) :
    Comparing slot { x with deadline := standing s.scanner.deadline x.age } s (comparePassed slot s) := by
  have first := staleTest_acts h used
  have deadline : (if x.used = true ∧ x.deadline = .within ∧ s.scanner.deadline < x.age then becomeStale slot x s else s).scanner.deadline =
      s.scanner.deadline := by
    rw [first.scanner]
    rfl
  have second := silentTest_acts (first.slotAt h) used deadline
  unfold comparePassed
  simp only [h]
  simp only [first.slotAt h]
  refine cast ?_ (first.trans second)
  congr 2
  unfold Slot.eased at late
  unfold standing
  cases e : x.deadline <;> simp only [e] at late ⊢
  · by_cases d1 : s.scanner.deadline < x.age <;> by_cases d2 : 2 * s.scanner.deadline < x.age <;> simp [d1, d2]
    omega
  · have d1 : s.scanner.deadline < x.age := by
      by_contra fresh
      simp [fresh] at late
    simp [d1]
  · have d2 : 2 * s.scanner.deadline < x.age := by
      by_contra fresh
      rw [if_neg fresh] at late
      split at late <;> cases late
    simp [d2]

/-- One slot compared with the deadline (R136). -/
theorem compareSlot_acts {q : State × Nat} (h : slotAt slot q.1 = some x) : Comparing slot
    (if x.used = true then { x with deadline := standing q.1.scanner.deadline x.age } else x) q.1
      (compareSlot slot q).1 := by
  unfold compareSlot
  simp only [h]
  by_cases used : x.used = true
  · rw [if_pos used]
    by_cases eased : x.eased q.1.scanner.deadline = x.deadline
    · rw [if_neg (by simp [eased])]
      exact comparePassed_acts h used eased.symm
    · rw [if_pos ⟨used, eased⟩]
      have target : x.eased q.1.scanner.deadline = standing q.1.scanner.deadline x.age := by
        unfold Slot.eased standing at *
        cases e : x.deadline <;> simp only [e] at eased ⊢
        · simp at eased
        · split at eased
          · simp at eased
          · rename_i fresh
            have young : ¬ 2 * q.1.scanner.deadline < x.age := by omega
            simp [fresh, young]
      rw [target]
      exact Telling.comparing (.refl _)
  · rw [if_neg used, if_neg (fun both => used both.1)]
    have idle : x.used = false := by simpa using used
    unfold comparePassed
    simp only [h, idle, Bool.false_eq_true, false_and, if_false]
    exact .stands h

/-- The slot a comparison of the first `m` slots leaves. -/
def compared (d m n : Nat) (x : Slot) : Slot :=
  if n ≤ m ∧ x.used = true then { x with deadline := standing d x.age } else x

theorem compareSlot_none {q : State × Nat} (h : slotAt slot q.1 = none) : compareSlot slot q = q := by
  simp only [compareSlot, h]

/-- The slots compared one after another. -/
theorem compare_fold (s : State) (m : Nat) :
    let q := (List.range m).foldl (fun p n => compareSlot (n + 1) p) (s, 0)
    (∀ n, slotAt n q.1 = (slotAt n s).map (compared s.scanner.deadline m n)) ∧
      q.1.scanner.deadline = s.scanner.deadline ∧ q.1.scanner.slots.length = s.scanner.slots.length ∧
      Within towerBlocks s q.1 := by
  induction m with
  | zero =>
    refine ⟨fun n => ?_, rfl, rfl, .refl _ s⟩
    cases h : slotAt n s with
    | none => exact h
    | some x =>
      have low := (slotAt_eq_some h).1
      exact h.trans (congrArg some (if_neg fun both => by omega).symm)
  | succ m ih =>
    rw [List.range_succ, List.foldl_append]
    simp only [List.foldl_cons, List.foldl_nil] at ih ⊢
    generalize (List.range m).foldl (fun p n => compareSlot (n + 1) p) (s, 0) = q at *
    obtain ⟨slots, deadline, length, within⟩ := ih
    have shift (n : Nat) (hn : n ≠ m + 1) (x : Slot) :
        compared s.scanner.deadline m n x = compared s.scanner.deadline (m + 1) n x := by
      unfold compared
      have same : n ≤ m ↔ n ≤ m + 1 := by omega
      simp only [same]
    cases h : slotAt (m + 1) q.1 with
    | none =>
      rw [compareSlot_none h]
      refine ⟨fun n => ?_, deadline, length, within⟩
      by_cases hn : n = m + 1
      · subst hn
        have gone := slots (m + 1)
        rw [h] at gone
        rw [h, Option.map_eq_none_iff.mp gone.symm]
        rfl
      · rw [slots, Option.map_congr (fun x _ => shift n hn x)]
    | some y =>
      have step := compareSlot_acts h
      have origin := slots (m + 1)
      rw [h] at origin
      obtain ⟨x, hx, same⟩ := Option.map_eq_some_iff.mp origin.symm
      have fresh : y = x := by rw [← same, compared, if_neg (by omega)]
      subst fresh
      refine ⟨fun n => ?_, ?_, ?_, within.trans step.within⟩
      · by_cases hn : n = m + 1
        · subst hn
          rw [step.slotAt h, hx, deadline]
          refine congrArg some ?_
          simp [compared]
        · rw [slotAt_congr n step.scanner, slotAt_setSlot_ne (Ne.symm hn) h, slots, Option.map_congr (fun x _ => shift n hn x)]
      · rw [step.scanner]
        exact deadline
      · rw [step.scanner]
        simpa [setSlot] using length

theorem offerTowers_calm (n : Nat) (s : State) : Calm [.line, .desk] s (offerTowers n s) := by
  induction n generalizing s with
  | zero => exact .refl _ s
  | succ n ih => exact (offerTower_calm s).trans (ih _)

theorem compareSlots_acts (s : State) : (∀ n, slotAt n (compareSlots s) =
      (slotAt n s).map (compared s.scanner.deadline 24 n)) ∧
    (compareSlots s).scanner.deadline = s.scanner.deadline ∧
    (compareSlots s).scanner.slots.length = s.scanner.slots.length ∧ Within towerBlocks s (compareSlots s) := by
  have folded := compare_fold s 24
  have acts : compareSlots s = offerTowers
      ((List.range 24).foldl (fun p n => compareSlot (n + 1) p) (s, 0)).2
      (towerCeilingTest ((List.range 24).foldl (fun p n => compareSlot (n + 1) p) (s, 0)).1) := rfl
  rw [acts]
  simp only [] at folded
  generalize (List.range 24).foldl (fun p n => compareSlot (n + 1) p) (s, 0) = q at *
  obtain ⟨slots, deadline, length, within⟩ := folded
  have told := (towerCeilingTest_calm q.1).andThen (offerTowers_calm q.2 _) (by decide)
  refine ⟨fun n => (slotAt_congr n told.scanner).trans (slots n), ?_, ?_, within.andThen told.toWithin (by decide)⟩
  · rw [told.scanner, deadline]
  · rw [told.scanner, length]

/-! ### AckTower (R133) -/

/-- The slot with the latches of the listed points cleared. -/
def Slot.acked (l : List Idx4) (x : Slot) : Slot :=
  l.foldl (fun y i => { y with latches := y.latches.set i .clear }) x

theorem Slot.acked_get (l : List Idx4) (x : Slot) (i : Idx4) : (x.acked l).latches.get i =
    if i ∈ l then .clear else x.latches.get i := by
  induction l generalizing x with
  | nil => simp [Slot.acked]
  | cons j l ih =>
    have step : x.acked (j :: l) = Slot.acked l { x with latches := x.latches.set j .clear } := rfl
    rw [step, ih]
    by_cases hj : i = j
    · simp [hj]
    · have other : (x.latches.set j .clear).get i = x.latches.get i := by simp [Quad.get_set, hj]
      simp [hj, other]

theorem Slot.acked_rest (l : List Idx4) (x : Slot) : x.acked l = { x with latches := (x.acked l).latches } := by
  induction l generalizing x with
  | nil => rfl
  | cons j l ih => exact ih { x with latches := x.latches.set j .clear }

theorem clearLatches_acts (l : List Idx4) (h : slotAt slot s = some x) :
    slotAt slot (clearLatches slot l s) = some (x.acked l) ∧
      (∀ n, n ≠ slot → slotAt n (clearLatches slot l s) = slotAt n s) ∧
      Calm [.scanner, .line, .desk] s (clearLatches slot l s) := by
  induction l generalizing s x with
  | nil => exact ⟨h, fun _ _ => rfl, .refl _ s⟩
  | cons i l ih =>
    unfold clearLatches
    simp only [h]
    split
    · rename_i clear
      obtain ⟨here, others, calm⟩ := ih h
      have stands : { x with latches := x.latches.set i .clear } = x := by
        rw [← clear, Quad.set_get_self]
      refine ⟨?_, others, calm⟩
      rw [here]
      exact congrArg (fun y => some (Slot.acked l y)) stands.symm
    · have set := slotAt_setSlot h { x with latches := x.latches.set i .clear }
      have placed : Calm [.scanner] s (setSlot slot { x with latches := x.latches.set i .clear } s) :=
        ⟨setSlot_within slot _ s, by simp [lineQuiet_iff]⟩
      have away (n : Nat) (hn : n ≠ slot) := slotAt_setSlot_ne (Ne.symm hn) h { x with latches := x.latches.set i .clear }
      have told := offerTower_calm (setSlot slot { x with latches := x.latches.set i .clear } s)
      obtain ⟨here, others, calm⟩ := ih ((slotAt_congr slot told.scanner).trans set)
      refine ⟨here, fun n hn => ?_, (((placed.mono (by decide)).andThen told (by decide)).trans calm)⟩
      rw [others n hn, slotAt_congr n told.scanner, away n hn]

/-- The points an AckTower names (R133). -/
theorem ackPoints_of_le {point : Nat} (h : point ≤ 4) : ∃ l, ackPoints point = some l ∧
    ∀ i, i ∈ l ↔ point = 0 ∨ idxNumber i = point := by
  by_cases zero : point = 0
  · exact ⟨Idx4.all, if_pos zero, fun i => by simp [zero, Idx4.mem_all]⟩
  · obtain ⟨j, rfl⟩ := exists_idxNumber_eq zero h
    refine ⟨[j], ?_, fun i => ?_⟩
    · rw [ackPoints, if_neg zero, idxOf?_idxNumber]
      rfl
    · simp [zero, idxNumber_inj]

theorem ackPoints_of_lt {point : Nat} (h : 4 < point) : ackPoints point = none := by
  rw [ackPoints, if_neg (by omega), idxOf?_of_four_lt h]
  rfl

/-- What SetTower leaves of the slots other than its own, when it ends a transaction (R125, R128). -/
theorem endTransaction_others {z : Slot} (here : slotAt slot s = some x) (hv : t = setSlot slot z s) :
    (∀ n, n ≠ slot → slotAt n (endTransaction t) = slotAt n s) ∨
      ∀ n x, n ≠ slot → slotAt n s = some x →
        slotAt n (endTransaction t) = some { x with extraDue := x.used && x.nonNormal } := by
  subst hv
  have away (n : Nat) (hn : n ≠ slot) := slotAt_setSlot_ne (Ne.symm hn) here z
  rcases endTransaction_slots (setSlot slot z s) with e | e
  · exact .inl fun n hn => (by rw [slotAt, e]; exact away n hn)
  · refine .inr fun n y hn hy => ?_
    rw [slotAt_map markExtra e n, away n hn, hy]
    rfl

/-- The slot an accepted SetTower leaves is the one set afresh. -/
theorem slotAt_placeSlot (here : slotAt slot s = some x) (y : Slot) :
    slotAt slot (endIfTo slot (setSlot slot y.fresh s)) = some y.fresh := by
  have set := slotAt_setSlot here y.fresh
  rcases endIfTo_cases slot (setSlot slot y.fresh s) with ⟨-, e⟩ | ⟨-, e⟩ <;> rw [e]
  · exact set
  · rcases endTransaction_slots (setSlot slot y.fresh s) with slots | slots
    · rw [slotAt, slots]
      exact set
    · rw [slotAt_map markExtra slots, set]
      have stands : markExtra y.fresh = y.fresh := by
        unfold markExtra
        rw [Slot.fresh_normal, Bool.and_false]
        rfl
      exact congrArg some stands

/-- An accepted SetTower whose slot has a transaction in flight, outside Parked (R125, R128). -/
theorem placed_others (here : slotAt slot s = some x) (z : Slot) (outside : s.run.state ≠ .parked) :
    ((∃ n y, n ≠ slot ∧ s.scanner.passSlot < n ∧ slotAt n s = some y ∧ y.inPass s.scanner.pass = true) →
      (endTransaction (setSlot slot z s)).scanner.pass = s.scanner.pass ∧
        (endTransaction (setSlot slot z s)).scanner.passSlot = s.scanner.passSlot ∧
        ∀ n, n ≠ slot → slotAt n (endTransaction (setSlot slot z s)) = slotAt n s) ∧
    (s.scanner.pass = .main → z.used = false ∨ slot ≤ s.scanner.passSlot →
      (∀ n y, n ≠ slot → s.scanner.passSlot < n → slotAt n s = some y → y.used = false) →
      ∀ n y, n ≠ slot → slotAt n s = some y →
        slotAt n (endTransaction (setSlot slot z s)) = some { y with extraDue := y.used && y.nonNormal }) := by
  have away (n : Nat) (hn : n ≠ slot) := slotAt_setSlot_ne (Ne.symm hn) here z
  have outside' : (setSlot slot z s).run.state ≠ .parked := by simpa using outside
  refine ⟨?_, fun pass idle gone n y hn hy => ?_⟩
  · rintro ⟨m, y, hm, past, hy, inPass⟩
    obtain ⟨n, next⟩ := Scanner.next_of_slot (k := (setSlot slot z s).scanner) (p := Slot.inPass s.scanner.pass)
      (a := s.scanner.passSlot) ((away m hm).trans hy) inPass past
    have goes := endTransaction_goesOn outside' (n := n) next
    refine ⟨by rw [goes]; rfl, by rw [goes]; rfl, fun n hn => ?_⟩
    rw [slotAt, goes]
    exact away n hn
  · have none : nextInPass (setSlot slot z s).scanner = none := by
      rw [nextInPass_eq]
      refine Scanner.next_eq_none fun m w hm hw => ?_
      have pass' : (setSlot slot z s).scanner.pass = .main := pass
      rw [pass']
      have past : s.scanner.passSlot < m := hm
      by_cases same : m = slot
      · subst same
        have set := slotAt_setSlot here z
        rw [slotAt_eq, hw, Option.some.injEq] at set
        rcases idle with unused | low
        · exact set ▸ unused
        · omega
      · exact gone m w same past ((away m same).symm.trans hw)
    rw [slotAt_map markExtra (endTransaction_mainEnds outside' pass none) n, away n hn, hy]
    rfl

end

theorem freshCodes_get (e : Quad Bool) (i : Idx4) : (freshCodes e).get i = if e.get i then .unknown else .disabled := by
  simp [freshCodes]

/-- Settles O44, by the branches of R125, R133 and R136. -/
theorem scannerRequestsAct : Obligations.ScannerRequestsAct := by
  refine ⟨fun tag s free => ⟨fun slot address coordinate enables x here low near state alone unlatched => ?_,
    fun d out => ?_, fun d low high parked => ?_, fun d low high outside length => ?_⟩,
    fun tag slot point s free => ⟨fun out => ?_, fun x here low => ⟨fun unused => ?_, fun used stuck => ?_,
      fun used ready => ?_⟩⟩⟩
  · have accepted : perform (.setTower slot address coordinate enables) s =
        (placeSlot slot (slotOf address coordinate enables) s, .done []) := by
      have inRange : ¬ (63 < address ∨ 18000 < coordinate) := by omega
      have atRest : ¬ (s.run.state = .waking ∨ s.run.state = .starting ∨ s.run.state = .running ∨ s.run.state = .stopping) := by
        rcases state with h | h | h <;> simp [h]
      simp only [perform, doSetTower, here, if_neg inRange, if_neg atRest, addressTaken_of_alone alone, unlatched,
        Bool.false_eq_true, if_false]
      rfl
    obtain ⟨scanner, calm⟩ := placeSlot_acts slot (slotOf address coordinate enables) s
    have placed := slotAt_placeSlot here (slotOf address coordinate enables)
    have flight : (setSlot slot (slotOf address coordinate enables).fresh s).scanner.transaction =
        s.scanner.transaction := rfl
    have others := endTransaction_others (z := (slotOf address coordinate enables).fresh) here rfl
    have outer := placed_others here (slotOf address coordinate enables).fresh
    have away (n : Nat) (hn : n ≠ slot) := slotAt_setSlot_ne (Ne.symm hn) here (slotOf address coordinate enables).fresh
    have ended := endTransaction_scanner (setSlot slot (slotOf address coordinate enables).fresh s)
    have parked := endTransaction_parked (s := setSlot slot (slotOf address coordinate enables).fresh s)
    have kept : (setSlot slot (slotOf address coordinate enables).fresh s).scanner = { s.scanner with
        slots := (setSlot slot (slotOf address coordinate enables).fresh s).scanner.slots } := rfl
    have run : (setSlot slot (slotOf address coordinate enables).fresh s).run = s.run := by simp
    have branches := endIfTo_cases slot (setSlot slot (slotOf address coordinate enables).fresh s)
    have spare : address = 0 → (slotOf address coordinate enables).fresh.used = false := fun zero => by
      simp [slotOf, Slot.fresh, Slot.used, zero]
    have answered := calm.answered (tag := tag) (r := .setTower slot address coordinate enables) (result := .done [])
    have touched := calm.touched (tag := tag) (r := .setTower slot address coordinate enables) (result := .done [])
      (by decide)
    have quiet := calm.lineQuiet (tag := tag) (r := .setTower slot address coordinate enables) (result := .done [])
    have replied : (withReply tag (.setTower slot address coordinate enables) (.done [])
        (placeSlot slot (slotOf address coordinate enables) s)).scanner =
        (endIfTo slot (setSlot slot (slotOf address coordinate enables).fresh s)).scanner := scanner
    have acts := submit_of_within (tag := tag) free (by simp) accepted calm.toWithin
    generalize withReply tag (.setTower slot address coordinate enables) (.done [])
      (placeSlot slot (slotOf address coordinate enables) s) = t at *
    generalize setSlot slot (slotOf address coordinate enables).fresh s = v at *
    rw [flight] at branches
    refine ⟨t, (slotOf address coordinate enables).fresh, congrArg Host.Outcome.next acts, answered, (slotAt_congr slot replied).trans placed, rfl,
      rfl, freshCodes_get _, rfl, rfl, rfl, rfl, rfl, rfl, fun i => by cases i <;> rfl, fun idle n hn => ?_,
      fun idle => ?_, fun tr htr same => ⟨?_, ?_, fun outside further => ?_, fun outside pass spent gone => ?_⟩, touched,
      quiet⟩
    · rcases branches with ⟨-, e⟩ | ⟨⟨tr, htr, same⟩, e⟩ <;> rw [e] at replied
      · exact (slotAt_congr n replied).trans (away n hn)
      · rcases idle with rest | other
        · rw [slotAt, replied, parked (by rw [run]; exact rest)]
          exact away n hn
        · exact absurd same (other tr htr)
    · rcases branches with ⟨-, e⟩ | ⟨⟨tr, htr, same⟩, e⟩ <;> rw [e] at replied
      · rw [replied]
        exact kept
      · exact absurd same (idle tr htr)
    all_goals
      rcases branches with ⟨other, -⟩ | ⟨-, e⟩
      · exact absurd same (other tr htr)
      rw [e] at replied
    · rw [replied, ended, kept, run]
    · exact others.imp (fun h n hn => (slotAt_congr n replied).trans (h n hn))
        fun h n x hn hx => (slotAt_congr n replied).trans (h n x hn hx)
    · obtain ⟨pass, passSlot, stand⟩ := (outer outside).1 further
      rw [replied]
      exact ⟨pass, passSlot, fun n hn => (slotAt_congr n replied).trans (stand n hn)⟩
    · exact fun n x hn hx => (slotAt_congr n replied).trans
        ((outer outside).2 pass (spent.imp_left spare) gone n x hn hx)
  · exact run_refused tag free rfl (by simp) (if_neg (by omega))
  · have calm : Calm [.scanner] s { s with scanner := { s.scanner with deadline := d } } :=
      ⟨⟨by simp [touches_iff], by simp [DeskQuiet]⟩, by simp [lineQuiet_iff]⟩
    have accepted : perform (.setScan d) s = ({ s with scanner := { s.scanner with deadline := d } }, .done []) := by
      simp only [perform, doSetScan, if_pos (And.intro low high), if_pos parked]
      rfl
    exact ⟨_, congrArg Host.Outcome.next (submit_of_within free (by simp) accepted calm.toWithin), calm.answered, rfl,
      (calm.mono (by decide)).touched (by decide)⟩
  · obtain ⟨u, hu, accepted, set⟩ : ∃ u, u.scanner = { s.scanner with deadline := d } ∧
        perform (.setScan d) s = (compareSlots u, .done []) ∧ Within [.scanner] s u := by
      refine ⟨{ s with scanner := { s.scanner with deadline := d } }, rfl, ?_, by simp [touches_iff], by simp [DeskQuiet]⟩
      simp only [perform, doSetScan, if_pos (And.intro low high), if_neg outside]
      rfl
    obtain ⟨slots, deadline, kept, compared'⟩ := compareSlots_acts u
    have within := (set.mono (cs := towerBlocks) (by decide)).trans compared'
    have same (n : Nat) : slotAt n u = slotAt n s := by rw [slotAt, hu, slotAt]
    rw [hu] at slots deadline kept
    generalize compareSlots u = v at *
    refine ⟨_, congrArg Host.Outcome.next (submit_of_within free (by simp) accepted within), within.answered, deadline,
      kept.trans length, within.touched (by decide), fun n x here used => ?_⟩
    have inside : n ≤ 24 := by
      obtain ⟨i, rfl, hi⟩ := Scanner.slot_eq_some here
      have := (List.getElem?_eq_some_iff.mp hi).1
      omega
    refine (slots n).trans ?_
    rw [same, here, Option.map_some, compared, if_pos ⟨inside, used⟩]
    rfl
  · refine run_refused tag free rfl (by simp) ?_
    rcases out with gone | far
    · simp only [perform, doAckTower, gone]
    · cases h : slotAt slot s <;> simp only [perform, doAckTower, ackPoints_of_lt far, h]
  · obtain ⟨l, named, -⟩ := ackPoints_of_le low
    refine run_refused tag free rfl (by simp) ?_
    simp only [perform, doAckTower, here, named, if_pos unused]
  · obtain ⟨l, named, mem⟩ := ackPoints_of_le low
    refine run_refused tag free rfl (by simp) ?_
    obtain ⟨i, hi, held, shown⟩ := stuck
    have blocked : l.any (fun i => !decide (x.latches.get i = .clear) && !decide (x.codes.get i = .normal)) = true :=
      List.any_eq_true.mpr ⟨i, (mem i).mpr hi, by simp [held, shown]⟩
    simp only [perform, doAckTower, here, named, used, blocked, Bool.true_eq_false, if_false, if_true]
  · obtain ⟨l, named, mem⟩ := ackPoints_of_le low
    have clear : l.any (fun i => !decide (x.latches.get i = .clear) && !decide (x.codes.get i = .normal)) = false := by
      refine List.any_eq_false.mpr fun i hi => ?_
      rcases ready i ((mem i).mp hi) with h | h <;> simp [h]
    have accepted : perform (.ackTower slot point) s = (clearLatches slot l s, .done []) := by
      simp only [perform, doAckTower, here, named, used, clear, Bool.true_eq_false, Bool.false_eq_true, if_false]
      rfl
    obtain ⟨acked, others, calm⟩ := clearLatches_acts l here
    refine ⟨_, x.acked l, congrArg Host.Outcome.next (submit_of_within free (by simp) accepted calm.toWithin),
      calm.answered, acked, Slot.acked_rest l x, fun i => ?_, others, ?_, calm.lineQuiet⟩
    · rw [Slot.acked_get]
      simp only [mem]
    · exact (calm.mono (cs := [.scanner, .line, .desk]) (by decide)).touched (by decide)

end Sys2Proof.Machine
end

section
/-! SUPPORT. The event counters and the watches' settings: an expiry, the reload at a window end, and the requests
(R140 to R150, R153). -/

namespace Sys2Proof.Machine

open Config

section
variable {s t u : State} {i j : Idx4} {ev : CounterEvent}

/-! ### An expiry (R143) -/

/-- An event for any carrier and any run state of the mask counts in a counter that is neither frozen nor chained. -/
theorem counts_of_plain (code : (s.counter i).event = ev.code) (used : (s.counter i).event ≠ 0)
    (mask : s.run.state ∈ (s.counter i).mask) (all : (s.counter i).qualifier = .all) (not4 : ev.code ≠ 4)
    (not6 : ev.code ≠ 6) (running : (s.counter i).frozen = false) (alone : (s.counter i).chained = false) :
    counts s i ev = true := by
  rw [counts_eq_true_iff]
  exact ⟨code, used, mask, fun n m _ => ⟨fun h => by simp [all] at h, fun h => by simp [all] at h⟩,
    fun h => absurd h not4, fun h => absurd h not6, running, fun h => by simp [alone] at h⟩

/-- The state an expiry acts on: the counter expired and reported. -/
def expiring (i : Idx4) (ev : CounterEvent) (s : State) : State :=
  queueReport (counterReport i ((s.counter i).expired (sampleOf s ev)))
    (s.setCounter i ((s.counter i).expired (sampleOf s ev)))

theorem expire_eq (i : Idx4) (ev : CounterEvent) (s : State) :
    expire i ev s = fireAction (s.counter i).action (expiring i ev s) := rfl

theorem expiring_within (i : Idx4) (ev : CounterEvent) (s : State) : Within [.counters, .line, .desk] s (expiring i ev s) := by
  have set : Within [.counters] s (s.setCounter i ((s.counter i).expired (sampleOf s ev))) :=
    ⟨by simp [touches_iff], by simp [DeskQuiet]⟩
  exact (set.mono (by decide)).andThen (queueReport_calm _ _).toWithin (by decide)

theorem expiring_counters (i : Idx4) (ev : CounterEvent) (s : State) : (expiring i ev s).counters =
    (s.setCounter i ((s.counter i).expired (sampleOf s ev))).counters :=
  (queueReport_calm _ _).counters

theorem fireAction_within (a : CounterAction) (s : State) : Within eventBlocks s (fireAction a s) := by
  cases a with
  | report => exact .refl _ s
  | slow => exact (setCeiling_calm s _ _).toWithin.mono (by decide)
  | stop => exact (raise_within s .counter).mono (by decide)

/-- What an expiry's action does (R143, R145). -/
theorem expire_action (i : Idx4) (ev : CounterEvent) (s : State) :
    ((s.counter i).action = .report → (expire i ev s).run = s.run ∧ (expire i ev s).gov = s.gov) ∧
      ((s.counter i).action = .slow → (expire i ev s).run = s.run ∧
        (expire i ev s).gov = { s.gov with counterCeiling := true }) ∧
      ((s.counter i).action = .stop → Raised .counter s (expire i ev s)) := by
  have within := expiring_within i ev s
  have counters := expiring_counters i ev s
  rw [expire_eq]
  refine ⟨fun a => ?_, fun a => ?_, fun a => ?_⟩ <;> rw [a]
  · exact ⟨within.run, within.gov⟩
  · refine ⟨(setCeiling_calm (expiring i ev s) _ _).run.trans within.run, ?_⟩
    have slow : (expiring i ev s).counters.slow = true := by
      rw [Counters.slow_eq_true_iff, counters]
      refine ⟨i, ?_⟩
      simp [State.setCounter, Counter.expired, a]
    rw [show fireAction .slow (expiring i ev s) = counterCeilingTest (expiring i ev s) from rfl, counterCeilingTest_gov,
      slow, within.gov]
  · have raised := (raise_run .counter (expiring i ev s)).1
    rw [Raised, within.run] at raised
    exact raised

/-! ### Events that pass a counter by (R142) -/

theorem counterTake_counter_ne (h : j ≠ i) (ev : CounterEvent) (s : State) :
    (counterTake j ev s).counter i = s.counter i := by
  have set (c : Counter) : (s.setCounter j c).counter i = s.counter i := by
    simp [State.counter, State.setCounter, Quad.get_set_ne, Ne.symm h]
  unfold counterTake
  split
  · split
    · rw [expire_eq, State.counter, fireAction_counters, expiring_counters]
      exact set _
    · exact set _
  · rfl

theorem counterTake_passes (j : Idx4) (h : (s.counter i).event ≠ ev.code) : (counterTake j ev s).counter i = s.counter i := by
  by_cases same : j = i
  · subst same
    exact congrArg (State.counter · j) (counterTake_of_not_counts fun c => h (counts_eq_true_iff.mp c).1)
  · exact counterTake_counter_ne same ev s

/-- The counter stands through an arrival, whose events are none of its own. -/
def Spares (i : Idx4) (s t : State) : Prop := t.counter i = s.counter i

theorem Spares.of_counters (h : t.counters = s.counters) : Spares i s t := by
  rw [Spares, State.counter, h, State.counter]

theorem Spares.trans (h : Spares i s t) (k : Spares i t u) : Spares i s u := Eq.trans k h

theorem Within.spares {bs : List Block} (h : Within bs s t) (hb : .counters ∉ bs := by decide) : Spares i s t :=
  .of_counters (h.counters hb)

theorem Spares.offerEvent (h : Spares i s t) (other : (s.counter i).event ≠ ev.code) : Spares i s (offerEvent ev t) := by
  have step (j : Idx4) {v : State} (hv : Spares i s v) : Spares i s (counterTake j ev v) :=
    Eq.trans (counterTake_passes j (by rw [hv]; exact other)) hv
  exact step .i4 (step .i3 (step .i2 (step .i1 h)))

/-- A counter that counts none of the events 1, 13 and 14. -/
abbrev Unoffered (i : Idx4) (s : State) : Prop := ∀ code ∈ [1, 13, 14], (s.counter i).event ≠ code

theorem Spares.gateTest (h : Spares i s t) (other : Unoffered i s) : Spares i s (gateTest t) := by
  rcases gateTest_cases t with same | ⟨r, -, -, acts⟩
  · rw [same]
    exact h
  · have sent : Spares i s (offerControl (.passage r.number) (released r t)) :=
      h.trans ((setTrack_calm _ t).toWithin.spares.trans (offerControl_within _ _).spares)
    rw [acts, release_eq]
    exact ((sent.offerEvent (other 1 (by decide))).trans (queueReport_calm _ _).toWithin.spares).trans
      (indexTest_calm _).toWithin.spares

theorem Spares.windowSettled (other : Unoffered i s) : Spares i s (windowSettled s) := by
  have raised : Spares i s (windowRaised s) := (windowRaised_within s).spares
  have moved (n : RunState) (hn : n ≠ .starting) (c : Cause) (v : State) : Spares i v (enterState n c v) :=
    Within.spares ⟨enterState_touches n c v (.inr hn), enterState_deskQuiet n c v⟩
  have result : Spares i s (windowResult (windowRaised s)) := by
    generalize windowRaised s = v at *
    unfold windowResult
    simp only []
    split
    · split
      · exact (raised.trans (moved _ (by decide) _ _)).gateTest other
      · exact raised
    · split
      · split
        · exact raised.trans ((Spares.of_counters rfl).trans (moved _ (by decide) _ _))
        · exact raised.trans (.of_counters rfl)
      · exact raised.trans (.of_counters rfl)
    · exact raised
  unfold Machine.windowSettled
  split
  · exact result.trans (raise_within _ _).spares
  · exact result

theorem Spares.completeLaunch {cls : GripClass} {r : CarrierRec} (h : Spares i s t) (other : Unoffered i s) :
    Spares i s (completeLaunch cls r t) := by
  have joined : Spares i t { t with
      roster := { t.roster with records := t.roster.records ++ [rosterRecord t.update.t cls r] }
      track := { t.track with launch := none, launchCommand := false } } := .of_counters rfl
  exact Spares.gateTest (h.trans joined) other

theorem Spares.endUntested {r : CarrierRec} (h : Spares i s t) (other : Unoffered i s) :
    Spares i s (endUntested true r t) := by
  have set := (setTrack_calm { t.track with launch := some (untested r) } t).toWithin.spares (i := i)
  unfold Machine.endUntested
  simp only [if_true]
  generalize { t with track := { t.track with launch := some (untested r) } } = v at *
  exact ((h.trans set).trans ((raise_within v .lostLaunch).spares.trans (queueReport_calm _ _).toWithin.spares)).completeLaunch other

theorem Spares.trackTravel (h : Spares i s t) (other : Unoffered i s) : Spares i s (trackTravel t) := by
  have marked : Spares i s (markLimit t) := by
    unfold markLimit
    split
    · exact h.trans (.of_counters rfl)
    · exact h
  have tested : Spares i s (lostLaunchTest (markLimit t)) := by
    generalize markLimit t = v at *
    unfold lostLaunchTest
    split
    · split
      · exact marked.endUntested other
      · exact marked
    · exact marked
  exact tested.gateTest other

theorem Spares.occasion {ms : List WatchMatch} (h : Spares i s t) (other : (s.counter i).event ≠ 14) :
    Spares i s (occasion ms t) := by
  have hits (l : List WatchMatch) {v : State} (hv : Spares i s v) : Spares i s (offerHits l v) := by
    induction l generalizing v with
    | nil => exact hv
    | cons m l ih => exact ih (hv.offerEvent other)
  have stops (l : List WatchMatch) {v : State} (hv : Spares i s v) : Spares i s (stopMatches l v) := by
    induction l generalizing v with
    | nil => exact hv
    | cons m l ih =>
      unfold stopMatches
      split
      · exact ih ((hv.trans (.of_counters rfl)).trans (raise_within _ .watch).spares)
      · exact ih hv
  unfold Machine.occasion
  split
  · exact stops _ (hits _ (h.trans ((Spares.of_counters rfl).trans (queueReport_calm _ _).toWithin.spares)))
  · exact h

theorem Spares.rosterTravel (h : Spares i s t) (other : Unoffered i s) : Spares i s (rosterTravel t) := by
  have reported (l : List RosterRec) {v : State} (hv : Spares i s v) : Spares i s (reportOverdue l v) := by
    induction l generalizing v with
    | nil => exact hv
    | cons r l ih =>
      exact ih ((hv.offerEvent (other 13 (by decide))).trans (queueReport_calm _ _).toWithin.spares)
  obtain ⟨v, acts, spared⟩ : ∃ v, Machine.rosterTravel t = watchesTravel v ∧ Spares i s v := by
    unfold Machine.rosterTravel
    refine ⟨_, rfl, ?_⟩
    have later := reported ((t.roster.records.map (RosterRec.travel t.roster t.update.t)).filter
      (newlyOverdue t.roster)) (h.trans (.of_counters rfl : Spares i t (rosterWith
        ((t.roster.records.map (RosterRec.travel t.roster t.update.t)).map fun r =>
          if newlyOverdue t.roster r then { r with overdue := true } else r) t)))
    split
    · exact later.trans (raise_within _ _).spares
    · exact later
  rw [acts]
  exact ((spared.occasion (ms := carrierMatches v) (other 14 (by decide))).trans (.of_counters rfl)).trans
    (setCeiling_calm _ _ _).toWithin.spares

/-- The counters hold what they held of the rope through an event. -/
theorem offerEvent_held (ev : CounterEvent) (s : State) :
    (offerEvent ev s).counters.heldT = s.counters.heldT ∧ (offerEvent ev s).counters.heldV = s.counters.heldV := by
  have step (j : Idx4) (v : State) : (counterTake j ev v).counters.heldT = v.counters.heldT ∧
      (counterTake j ev v).counters.heldV = v.counters.heldV := by
    unfold counterTake
    split
    · split
      · rw [expire_eq, fireAction_counters, expiring_counters]
        exact ⟨rfl, rfl⟩
      · exact ⟨rfl, rfl⟩
    · exact ⟨rfl, rfl⟩
  have all (v : State) := step .i4 (counterTake .i3 ev (counterTake .i2 ev (counterTake .i1 ev v)))
  exact ⟨(all s).1.trans ((step .i3 _).1.trans ((step .i2 _).1.trans (step .i1 _).1)),
    (all s).2.trans ((step .i3 _).2.trans ((step .i2 _).2.trans (step .i1 _).2))⟩

/-- The counters' part of a travel update (R140, R144). -/
theorem countersTravel_acts (s : State) : (countersTravel s).counters.heldT = s.update.t ∧
    (countersTravel s).counters.heldV = s.update.v ∧ ((s.counter i).event ≠ 15 →
      (countersTravel s).counter i = (s.counter i).reload s.update.before s.update.t s.update.d) := by
  have set : State.counter { s with counters :=
      { units := s.counters.units.map (Counter.reload s.update.before s.update.t s.update.d), heldT := s.update.t
        heldV := s.update.v } } i = (s.counter i).reload s.update.before s.update.t s.update.d := by
    simp [State.counter]
  have held := offerEvent_held { code := 15 } { s with counters :=
      { units := s.counters.units.map (Counter.reload s.update.before s.update.t s.update.d), heldT := s.update.t
        heldV := s.update.v } }
  have event : ((s.counter i).reload s.update.before s.update.t s.update.d).event = (s.counter i).event := by
    unfold Counter.reload
    split <;> rfl
  unfold countersTravel
  simp only []
  split
  · refine ⟨held.1, held.2, fun other => ?_⟩
    refine Eq.trans (Spares.offerEvent rfl ?_) set
    rw [set, event]
    exact other
  · exact ⟨rfl, rfl, fun _ => set⟩

/-- A window end up to the counters' own part of its travel update. -/
theorem windowEnd_spares (other : Unoffered i s) : ∃ w, windowEnd s = countersTravel w ∧ Spares i s w := by
  have settled : Spares i s { windowSettled s with update := windowUpdate s } :=
    (Spares.windowSettled other).trans (.of_counters rfl)
  have ends : windowEnd s = countersTravel (rosterTravel (trackTravel { windowSettled s with update := windowUpdate s })) :=
    windowEnd_eq s
  generalize { windowSettled s with update := windowUpdate s } = v at *
  exact ⟨_, ends, (settled.trackTravel other).rosterTravel other⟩

end

/-- Settles O46: the expiry by its action; the window end by what its arrivals spare. -/
theorem counterExpiryActs : Obligations.CounterExpiryActs := by
  refine ⟨fun i ev s code used mask all not4 not6 running alone one => ?_, fun i s other => ?_⟩
  · have acts : expiryEvent i ev s = expire i ev s := by
      have here := counts_of_plain code used mask all not4 not6 running alone
      rw [expiryEvent, here, counterTake_of_le_one here (by omega), if_pos (by simp [one])]
    obtain ⟨report, slow, stop⟩ := expire_action i ev s
    have within : Within eventBlocks s (expire i ev s) :=
      ((expiring_within i ev s).mono (by decide)).trans (fireAction_within _ _)
    refine ⟨_, congrArg Host.Outcome.next acts, within.desk, ?_, report, slow, stop, within.touches.mono (by decide)⟩
    rw [expire_eq, fireAction_counters, expiring_counters]
    rfl
  · have sub (code : Nat) (hc : code ∈ [1, 13, 14]) : code ∈ [1, 13, 14, 15] := by
      revert code
      decide
    have spare : Unoffered i s := fun code hc e => other (e ▸ sub code hc)
    obtain ⟨w, ends, spared⟩ : ∃ w, windowEnd s = countersTravel w ∧ Spares i s w :=
      windowEnd_spares spare
    have update : w.update = windowUpdate s := by
      rw [← windowEnd_update, ends, (countersTravel_within w).update]
    obtain ⟨heldT, heldV, reloaded⟩ := countersTravel_acts (i := i) w
    have clock := windowEnd_update s
    have carried := windowUpdate_eq s
    rw [← ends, update, carried] at heldT heldV
    rw [← ends, update, spared] at reloaded
    refine ⟨windowEnd s, rfl, ?_⟩
    clear ends update
    generalize windowEnd s = t at *
    refine ⟨heldT, heldV, (reloaded fun e => other (by simp [e])).trans ?_⟩
    rw [clock, carried]
    simp only [Counter.reload, crosses, Bool.and_eq_true, Bool.not_eq_true', decide_eq_true_eq, decide_eq_false_iff_not,
      and_assoc, ne_eq]

end Sys2Proof.Machine
end

section
/-! SUPPORT. The position watches: occasions, their exemptions, and what a window end leaves (R149 to R155). -/

namespace Sys2Proof.Machine

open Config

section
variable {s t u : State} {i j : Idx4} {ms : List WatchMatch} {m : WatchMatch} {r : RosterRec} {w : Watch}

/-! ### SetCounter, SetWatch, ClearHits (R147, R150, R153) -/

theorem setCounter_calm (i : Idx4) (c : Counter) (s : State) : Calm [.counters] s (s.setCounter i c) :=
  ⟨⟨by simp [touches_iff], by simp [DeskQuiet]⟩, by simp [lineQuiet_iff]⟩

theorem setWatches_calm (k : Watches) (s : State) : Calm [.watches] s { s with watches := k } :=
  ⟨⟨by simp [touches_iff], by simp [DeskQuiet]⟩, by simp [lineQuiet_iff]⟩

theorem counter_setCounter (i j : Idx4) (c : Counter) (s : State) :
    (s.setCounter i c).counter j = if j = i then c else s.counter j := by
  simp [State.counter, State.setCounter, Quad.get_set]

/-- The setup a SetWatch carries (R150). -/
def watchOf (r : WatchRequest) (k : WatchKind) (a : WatchAction) : Watch :=
  { base := r.base, size := r.size, kind := k, action := a, globalOn := r.globalOn, localOn := r.localOn, hit := false }

/-- An accepted SetWatch (R150). -/
theorem placeWatch_acts (i : Idx4) (w : Watch) (s : State) :
    (placeWatch i w s).watches.units = s.watches.units.set i { w with hit := (s.watches.units.get i).hit } ∧
      Calm [.gov, .roster, .watches, .line, .desk] s (placeWatch i w s) := by
  have placed := (setWatches_calm { s.watches with
    units := s.watches.units.set i { w with hit := (s.watches.units.get i).hit } } s).mono
    (cs := [.gov, .roster, .watches, .line, .desk]) (by decide)
  have removed (v : State) : Calm [.roster, .watches] v (removeExemption i v) :=
    ⟨⟨by simp [touches_iff, removeExemption], by simp [DeskQuiet, removeExemption]⟩, by simp [lineQuiet_iff, removeExemption]⟩
  unfold placeWatch
  simp only []
  have tested (v : State) : Calm [.gov, .line, .desk] v (watchCeilingTest v) := setCeiling_calm v _ _
  split
  · exact ⟨congrArg Watches.units (tested _).watches, placed.andThen (tested _) (by decide)⟩
  · exact ⟨congrArg Watches.units (tested _).watches,
      (placed.andThen (removed _) (by decide)).andThen (tested _) (by decide)⟩

end

/-- Settles O48, by the ranges of R147 and R150. -/
theorem counterAndWatchSettingsAreTaken : Obligations.CounterAndWatchSettingsAreTaken := by
  intro tag i s free
  refine ⟨fun r q a hq ha range => ?_, fun r k a hk ha range => ?_, ?_, ?_⟩
  · have set := (setCounter_calm i (counterOf r q a) s).mono (cs := [.gov, .counters, .line, .desk]) (by decide)
    have calm := set.andThen (setCeiling_calm (s.setCounter i (counterOf r q a)) .counter
      (s.setCounter i (counterOf r q a)).counters.slow) (by decide)
    have accepted : perform (.setCounter (idxNumber i) r) s =
        (counterCeilingTest (s.setCounter i (counterOf r q a)), .done []) := by
      simp only [perform, doSetCounter, idxOf?_idxNumber, hq, ha, range, if_true]
      rfl
    have counters (j : Idx4) : (counterCeilingTest (s.setCounter i (counterOf r q a))).counter j =
        if j = i then counterOf r q a else s.counter j :=
      (counterCeilingTest_counter _ j).trans (counter_setCounter i j _ s)
    have here := (counters i).trans (if_pos rfl)
    have replied (j : Idx4) : (withReply tag (.setCounter (idxNumber i) r) (.done [])
        (counterCeilingTest (s.setCounter i (counterOf r q a)))).counter j =
        (counterCeilingTest (s.setCounter i (counterOf r q a))).counter j := rfl
    refine ⟨_, congrArg Host.Outcome.next (submit_of_within free (by simp) accepted calm.toWithin), calm.answered, ?_⟩
    rw [replied, here]
    exact ⟨rfl, rfl, rfl, rfl, rfl, rfl, rfl, rfl, rfl, rfl, rfl, rfl, rfl, rfl,
      fun j hj => (counters j).trans (if_neg hj), calm.touched (by decide), calm.lineQuiet⟩
  · obtain ⟨units, calm⟩ := placeWatch_acts i (watchOf r k a) s
    have accepted : perform (.setWatch (idxNumber i) r) s =
        (placeWatch i (watchOf r k a) s, .done []) := by
      simp only [perform, doSetWatch, idxOf?_idxNumber, hk, ha, range, if_true]
      rfl
    refine ⟨_, congrArg Host.Outcome.next (submit_of_within free (by simp) accepted calm.toWithin), calm.answered,
      (congrArg (Quad.get · i) units).trans (by simp [watchOf]), fun j hj => (congrArg (Quad.get · j) units).trans ?_,
      calm.touched (by decide), calm.lineQuiet⟩
    exact Quad.get_set_ne _ _ hj
  · have calm := (setWatches_calm { s.watches with units := s.watches.units.set i { s.watches.units.get i with
      hit := false } } s).mono (cs := [.watches, .desk]) (by decide)
    have accepted : perform (.clearHits (idxNumber i)) s = ({ s with watches := { s.watches with
        units := s.watches.units.set i { s.watches.units.get i with hit := false } } }, .done []) := by
      simp only [perform, doClearHits, if_neg (idxNumber_ne_zero i), idxOf?_idxNumber]
      rfl
    exact ⟨_, congrArg Host.Outcome.next (submit_of_within free (by simp) accepted calm.toWithin), calm.answered, rfl,
      calm.touched (by decide)⟩
  · have calm := (setWatches_calm { s.watches with units := s.watches.units.map fun w => { w with hit := false } } s).mono
      (cs := [.watches, .desk]) (by decide)
    have accepted : perform (.clearHits 0) s = ({ s with watches := { s.watches with
        units := s.watches.units.map fun w => { w with hit := false } } }, .done []) := rfl
    exact ⟨_, congrArg Host.Outcome.next (submit_of_within free (by simp) accepted calm.toWithin), calm.answered,
      fun j => Quad.get_map _ _ _, calm.touched (by decide)⟩

end Sys2Proof.Machine
end

section
/-! SUPPORT. Occasions of the position watches and what a window end leaves of them (R149 to R155). -/

namespace Sys2Proof.Machine

open Config

section
variable {s t u : State} {i j : Idx4} {ms : List WatchMatch} {m : WatchMatch} {r : RosterRec} {w : Watch}

/-! ### Matches (R149, R151, R152) -/

theorem Watch.inside_iff (w : Watch) (c : Int) : w.inside c = true ↔
    ((w.base - w.base % w.size : Nat) : Int) ≤ c ∧ c < ((w.base - w.base % w.size : Nat) : Int) + w.size := by
  rw [Watch.inside, Bool.and_eq_true, decide_eq_true_eq, decide_eq_true_eq]
  rfl

/-- The record stood in the watch at the travel update before (R151). -/
def Watch.held (w : Watch) (r : RosterRec) : Bool :=
  match r.prevCoord with
  | some p => w.inside p
  | none => false

theorem Watch.held_eq_false_iff : w.held r = false ↔ ∀ c, r.prevCoord = some c → w.inside c = false := by
  unfold Watch.held
  cases r.prevCoord <;> simp

/-- The match that a watch makes of a record (R151). -/
def matchOf (i : Idx4) (w : Watch) (r : RosterRec) : WatchMatch :=
  { watch := i, carrier := some r.carrier.number, marked := decide (Mark.marked ∈ r.carrier.marks), tower := none
    coord := coordOf r.position, enabled := w.enabled, raised := w.enabled && decide (w.action = .stop) }

theorem carrierMatch_eq (i : Idx4) (w : Watch) (r : RosterRec) : carrierMatch? i w r =
    if !decide (w.kind = .tower) && w.inside (coordOf r.position) && !w.held r && !decide (i ∈ r.exempt) then
      some (matchOf i w r) else none := rfl

/-- The conditions of a carrier match (R151). -/
theorem carrierMatch_isSome_iff (i : Idx4) (w : Watch) (r : RosterRec) : (carrierMatch? i w r).isSome = true ↔
    w.kind ≠ .tower ∧ w.inside (coordOf r.position) = true ∧ (∀ c, r.prevCoord = some c → w.inside c = false) ∧
      i ∉ r.exempt := by
  rw [carrierMatch_eq, ← Watch.held_eq_false_iff]
  by_cases h : (!decide (w.kind = .tower) && w.inside (coordOf r.position) && !w.held r && !decide (i ∈ r.exempt)) = true
  · rw [if_pos h]
    simpa [and_assoc] using h
  · rw [if_neg h]
    simpa [and_assoc] using h

theorem carrierMatch_of (kind : w.kind ≠ .tower) (here : w.inside (coordOf r.position) = true)
    (came : ∀ c, r.prevCoord = some c → w.inside c = false) (free : i ∉ r.exempt) :
    carrierMatch? i w r = some (matchOf i w r) := by
  rw [carrierMatch_eq, if_pos]
  simp [kind, here, free, Watch.held_eq_false_iff.mpr came]

theorem mem_towerMatches (e : TowerEvent) (m : WatchMatch) (s : State) : m ∈ towerMatches e s ↔
    (s.watches.units.get m.watch).kind ≠ .carrier ∧ (s.watches.units.get m.watch).inside e.coord = true ∧
      m = { watch := m.watch, carrier := none, marked := false, tower := some e, coord := e.coord,
            enabled := (s.watches.units.get m.watch).enabled, raised := false } := by
  simp only [towerMatches, List.mem_filterMap]
  constructor
  · rintro ⟨i, -, h⟩
    split at h
    · rename_i yes
      obtain rfl := Option.some.inj h
      simp only [Bool.and_eq_true, Bool.not_eq_true', decide_eq_false_iff_not] at yes
      exact ⟨yes.1, yes.2, rfl⟩
    · cases h
  · rintro ⟨kind, inside, shape⟩
    refine ⟨m.watch, Idx4.mem_all _, ?_⟩
    rw [if_pos (by simp [kind, inside])]
    exact congrArg some shape.symm

/-! ### Stop actions (R154) -/

/-- A record's exemptions after an occasion's Stop matches. -/
def exempted (ms : List WatchMatch) (r : RosterRec) : RosterRec :=
  if (ms.any fun m => m.raised && decide (m.carrier = some r.carrier.number)) then
    { r with exempt := Idx4.all.filter fun i => decide (i ∈ r.exempt) ||
      (ms.any fun m => m.raised && decide (m.watch = i) && decide (m.carrier = some r.carrier.number)) }
  else r

theorem mem_addIdx (i j : Idx4) (l : List Idx4) : i ∈ addIdx j l ↔ i = j ∨ i ∈ l := by
  simp [addIdx, Idx4.mem_all]

theorem exempted_nil (r : RosterRec) : exempted [] r = r := rfl

theorem exempted_cons_of_quiet (h : m.raised = false) (ms : List WatchMatch) (r : RosterRec) :
    exempted (m :: ms) r = exempted ms r := by
  simp [exempted, h]

/-- A raised match first, then the others. -/
theorem exempted_cons_of_raised (h : m.raised = true) (ms : List WatchMatch) (r : RosterRec) :
    exempted (m :: ms) r = exempted ms (exemptRecord m r) := by
  by_cases named : m.carrier = some r.carrier.number
  · have record : exemptRecord m r = { r with exempt := addIdx m.watch r.exempt } := if_pos named
    rw [record]
    unfold exempted
    simp only [List.any_cons, h, named, decide_true, Bool.true_and, Bool.and_true, Bool.true_or, if_true]
    split
    · refine congrArg (fun l => { r with exempt := l }) (List.filter_congr fun i _ => ?_)
      simp only [mem_addIdx, Bool.decide_or, Bool.or_assoc]
      by_cases here : m.watch = i
      · simp [here]
      · simp [here, Ne.symm here]
    · rename_i none
      refine congrArg (fun l => { r with exempt := l }) (List.filter_congr fun i _ => ?_)
      have quiet : (ms.any fun m => m.raised && decide (m.watch = i) && decide (m.carrier = some r.carrier.number)) = false := by
        rw [List.any_eq_false]
        intro m' hm yes
        simp only [Bool.and_eq_true, decide_eq_true_eq] at yes
        exact none (List.any_eq_true.mpr ⟨m', hm, by simp [yes.1.1, yes.2]⟩)
      rw [quiet, Bool.or_false, Bool.or_comm]
      by_cases here : m.watch = i
      · simp [here]
      · simp [here, Ne.symm here]
  · have record : exemptRecord m r = r := if_neg named
    rw [record]
    simp [exempted, named]

theorem stopMatches_roster (ms : List WatchMatch) (s : State) : (stopMatches ms s).roster =
    { s.roster with records := s.roster.records.map (exempted ms) } := by
  induction ms generalizing s with
  | nil =>
    have same : s.roster.records.map (exempted []) = s.roster.records :=
      (List.map_congr_left fun r _ => exempted_nil r).trans (List.map_id _)
    rw [same]
    rfl
  | cons m ms ih =>
    unfold stopMatches
    split
    · rename_i raised
      rw [ih, (raise_within _ _).roster]
      simp only [List.map_map]
      refine congrArg (fun l => { s.roster with records := l }) (List.map_congr_left fun r _ => ?_)
      exact (exempted_cons_of_raised raised ms r).symm
    · rename_i quiet
      rw [ih]
      refine congrArg (fun l => { s.roster with records := l }) (List.map_congr_left fun r _ => ?_)
      exact (exempted_cons_of_quiet (by simpa using quiet) ms r).symm

theorem stopMatches_within (ms : List WatchMatch) (s : State) : Within (.roster :: raiseBlocks) s (stopMatches ms s) := by
  induction ms generalizing s with
  | nil => exact .refl _ s
  | cons m ms ih =>
    unfold stopMatches
    split
    · have moved : Within (.roster :: raiseBlocks) s { s with roster := { s.roster with
          records := s.roster.records.map (exemptRecord m) } } :=
        ⟨by simp [touches_iff, raiseBlocks], by simp [DeskQuiet]⟩
      exact (moved.andThen (raise_within _ _) (by decide)).trans (ih _)
    · exact ih s

/-- A raised match raises Watch (R154). -/
theorem watch_mem_stopMatches (h : ∃ m ∈ ms, m.raised = true) (s : State) :
    Source.watch ∈ (stopMatches ms s).run.demands := by
  induction ms generalizing s with
  | nil => simp at h
  | cons m ms ih =>
    unfold stopMatches
    split
    · have later := (Settles.stopMatches (ms := ms) (.refl (raise .watch { s with roster := { s.roster with
        records := s.roster.records.map (exemptRecord m) } }))).kept
      exact later ((mem_raise _ _ _).mpr (.inl rfl))
    · rename_i quiet
      refine ih ?_ s
      obtain ⟨m', hm, raised⟩ := h
      rcases List.mem_cons.mp hm with rfl | hm
      · exact absurd raised quiet
      · exact ⟨m', hm, raised⟩

/-! ### Hits (R153) -/

/-- Counter actions raise Counter alone. -/
theorem mem_offerEvent {x : Source} (hx : x ≠ .counter) (ev : CounterEvent) (s : State) :
    x ∈ (offerEvent ev s).run.demands ↔ x ∈ s.run.demands := by
  have step (j : Idx4) (v : State) : x ∈ (counterTake j ev v).run.demands ↔ x ∈ v.run.demands := by
    unfold counterTake
    split
    · split
      · rw [expire_eq]
        cases h : (v.counter j).action with
        | report => rw [show fireAction .report (expiring j ev v) = expiring j ev v from rfl, (expiring_within j ev v).run]
        | slow =>
          rw [show fireAction .slow (expiring j ev v) = counterCeilingTest (expiring j ev v) from rfl,
            show (counterCeilingTest (expiring j ev v)).run = (expiring j ev v).run from (setCeiling_calm _ _ _).run,
            (expiring_within j ev v).run]
        | stop =>
          rw [show fireAction .stop (expiring j ev v) = raise .counter (expiring j ev v) from rfl, mem_raise,
            (expiring_within j ev v).run]
          simp [hx]
      · exact Iff.rfl
    · exact Iff.rfl
  exact (step .i4 _).trans ((step .i3 _).trans ((step .i2 _).trans (step .i1 s)))

theorem mem_offerHits {x : Source} (hx : x ≠ .counter) (ms : List WatchMatch) (s : State) :
    x ∈ (offerHits ms s).run.demands ↔ x ∈ s.run.demands := by
  induction ms generalizing s with
  | nil => exact Iff.rfl
  | cons m ms ih => exact (ih _).trans (mem_offerEvent hx _ s)

/-- An event that no counter counts leaves the state. -/
theorem offerEvent_uncounted {ev : CounterEvent} (h : ∀ i, (s.counter i).event ≠ ev.code) : offerEvent ev s = s := by
  have step (j : Idx4) : counterTake j ev s = s :=
    counterTake_of_not_counts fun c => h j (counts_eq_true_iff.mp c).1
  simp only [offerEvent, step]

theorem offerHits_uncounted (h : ∀ i, (s.counter i).event ≠ 14) (ms : List WatchMatch) : offerHits ms s = s := by
  induction ms with
  | nil => rfl
  | cons m ms ih =>
    have first : offerEvent (hitEvent m) s = s := offerEvent_uncounted h
    rw [offerHits, first, ih]

theorem hitWatch_eq (ms : List WatchMatch) (i : Idx4) (w : Watch) : hitWatch ms i w =
    { w with hit := w.hit || ms.any fun m => decide (m.watch = i) } := by
  unfold hitWatch
  split
  · rename_i yes
    rw [yes, Bool.or_true]
  · rename_i no
    have none : (ms.any fun m => decide (m.watch = i)) = false := by simpa using no
    rw [none, Bool.or_false]

/-- The hit flags of an occasion, and its report. -/
def hitting (ms : List WatchMatch) (s : State) : State :=
  queueReport (.watch ((hitWatches ms s.watches.units).map fun w => w.hit) ms)
    { s with watches := { s.watches with units := hitWatches ms s.watches.units } }

theorem occasion_of_enabled (h : ∃ m ∈ ms, m.enabled = true) (s : State) :
    occasion ms s = stopMatches ms (offerHits ms (hitting ms s)) :=
  if_pos (List.any_eq_true.mpr h)

theorem occasion_of_none (h : ∀ m ∈ ms, m.enabled = false) (s : State) : occasion ms s = s :=
  if_neg fun yes => by
    obtain ⟨m, hm, he⟩ := List.any_eq_true.mp yes
    rw [h m hm] at he
    cases he

theorem hitting_within (ms : List WatchMatch) (s : State) : Within [.watches, .line, .desk] s (hitting ms s) :=
  ((setWatches_calm { s.watches with units := hitWatches ms s.watches.units } s).toWithin.mono (by decide)).andThen
    (queueReport_calm _ _).toWithin (by decide)

theorem hitting_watches (ms : List WatchMatch) (s : State) :
    (hitting ms s).watches = { s.watches with units := hitWatches ms s.watches.units } :=
  (queueReport_calm _ _).watches

/-- An occasion with an enabled match: everything but the counters and the reports. -/
theorem occasion_acts (h : ∃ m ∈ ms, m.enabled = true) (s : State) :
    (occasion ms s).watches = { s.watches with units := hitWatches ms s.watches.units } ∧
      (occasion ms s).roster = { s.roster with records := s.roster.records.map (exempted ms) } ∧
      ((∃ m ∈ ms, m.raised = true) → Source.watch ∈ (occasion ms s).run.demands) ∧
      ((∀ m ∈ ms, m.raised = false) →
        (Source.watch ∈ (occasion ms s).run.demands ↔ Source.watch ∈ s.run.demands)) ∧
      Within (.watches :: .roster :: eventBlocks) s (occasion ms s) := by
  have hit := hitting_within ms s
  have watches := hitting_watches ms s
  rw [occasion_of_enabled h]
  generalize hitting ms s = v at *
  have offered := offerHits_within ms v
  have stopped := stopMatches_within ms (offerHits ms v)
  refine ⟨?_, ?_, fun raised => watch_mem_stopMatches raised _, fun quiet => ?_, ?_⟩
  · rw [stopped.watches, offered.watches, watches]
  · rw [stopMatches_roster, offered.roster, hit.roster]
  · rw [stopMatches_of_none quiet, mem_offerHits (by decide), hit.run]
  · exact ((hit.mono (by decide)).andThen offered (by decide)).andThen stopped (by decide)

theorem queueReport_others {rep : Report} (room : s.desk.urgent.length + s.desk.others.length < 32)
    (plain : rep.isUrgent = false) : (queueReport rep s).desk.others = s.desk.others ++ [rep] := by
  have fits : reportRoom s = true := decide_eq_true room
  simp only [queueReport, fits, plain, if_true, Bool.false_eq_true, if_false]

/-- Where no counter counts event 14, an occasion leaves the counters, and without a raised match adds one report. -/
theorem occasion_uncounted (h : ∃ m ∈ ms, m.enabled = true) (none : ∀ i, (s.counter i).event ≠ 14) :
    (occasion ms s).counters = s.counters ∧ ((∀ m ∈ ms, m.raised = false) →
      s.desk.urgent.length + s.desk.others.length < 32 → (occasion ms s).run = s.run ∧
        (occasion ms s).desk.others = s.desk.others ++
          [.watch ((hitWatches ms s.watches.units).map fun w => w.hit) ms]) := by
  have hit := hitting_within ms s
  have none' (i : Idx4) : ((hitting ms s).counter i).event ≠ 14 := by
    rw [State.counter, hit.counters]
    exact none i
  rw [occasion_of_enabled h, offerHits_uncounted none']
  refine ⟨(stopMatches_within ms _).counters.trans hit.counters, fun quiet room => ?_⟩
  rw [stopMatches_of_none quiet]
  exact ⟨hit.run, queueReport_others room rfl⟩

end

end Sys2Proof.Machine
end

section
/-! SUPPORT. The watches at a window end (R151, R154, R155). -/

namespace Sys2Proof.Machine

open Config

section
variable {s t u : State} {i j : Idx4} {ms : List WatchMatch} {m : WatchMatch} {r x : RosterRec} {w : Watch}

/-! ### The Watch ceiling stands through the counters' part (R155) -/

theorem raise_watchCeiling (src : Source) (s : State) : (raise src s).gov.watchCeiling = s.gov.watchCeiling := by
  rcases raise_gov src s with h | ⟨n, h⟩ <;> rw [h]
  cases n <;> rfl

theorem offerEvent_watchCeiling (ev : CounterEvent) (s : State) :
    (offerEvent ev s).gov.watchCeiling = s.gov.watchCeiling := by
  have step (j : Idx4) (v : State) : (counterTake j ev v).gov.watchCeiling = v.gov.watchCeiling := by
    unfold counterTake
    split
    · split
      · rw [expire_eq, ← (expiring_within j ev v).gov]
        generalize expiring j ev v = e
        cases (v.counter j).action with
        | report => rfl
        | slow => exact (congrArg Governor.watchCeiling (counterCeilingTest_gov e) :)
        | stop => exact raise_watchCeiling .counter e
      · rfl
    · rfl
  exact (step .i4 _).trans ((step .i3 _).trans ((step .i2 _).trans (step .i1 s)))

theorem countersTravel_watchCeiling (s : State) : (countersTravel s).gov.watchCeiling = s.gov.watchCeiling := by
  unfold countersTravel
  simp only []
  split
  · exact offerEvent_watchCeiling _ _
  · rfl

theorem Watches.slow_iff (k : Watches) : k.slow = true ↔ ∃ i, (k.units.get i).enabled = true ∧
    (k.units.get i).action = .slow ∧ ∃ g ∈ k.given, (k.units.get i).inside g.coord = true ∧ i ∉ g.exempt := by
  simp [Watches.slow, Watch.slows, Idx4.mem_all, and_assoc]

/-! ### The window end up to the watches' part -/

/-- The state at which a window end's watches take the positions: the watches as before it, and no new exemption. -/
theorem windowEnd_watching (s : State) : ∃ v, windowEnd s = countersTravel (watchesTravel v) ∧ v.watches = s.watches ∧
    ∀ r ∈ v.roster.records, r.exempt = [] ∨ ∃ y ∈ s.roster.records, r.exempt = y.exempt := by
  obtain ⟨p, roster, watches, ends⟩ : ∃ p : State, p.roster = s.roster ∧ p.watches = s.watches ∧
      windowEnd s = countersTravel (rosterTravel (trackTravel p)) :=
    ⟨{ windowSettled s with update := windowUpdate s }, (windowSettled_within s).roster, (windowSettled_within s).watches,
      windowEnd_eq s⟩
  obtain ⟨⟨new, grown, bare⟩, moved⟩ := trackTravel_grows p
  obtain ⟨v, acts, records, -, within⟩ := rosterTravel_acts (trackTravel p)
  refine ⟨v, by rw [ends, acts], within.watches.trans (moved.watches.trans watches), fun r hr => ?_⟩
  rw [records] at hr
  obtain ⟨y, hy, rfl⟩ := List.mem_map.mp hr
  have exempt : (travelled (trackTravel p).roster (trackTravel p).update.t y).exempt = y.exempt := by
    unfold travelled RosterRec.travel saturateAnchor
    simp only []
    split <;> split <;> rfl
  rw [exempt]
  rw [grown] at hy
  rcases List.mem_append.mp hy with h | h
  · exact .inr ⟨y, roster ▸ h, rfl⟩
  · exact .inl (bare y h)

/-- The units after an occasion of carrier matches. -/
theorem occasion_units (ms : List WatchMatch) (s : State) (i : Idx4) :
    ((occasion ms s).watches.units.get i) = { s.watches.units.get i with
      hit := ((occasion ms s).watches.units.get i).hit } := by
  by_cases h : ∃ m ∈ ms, m.enabled = true
  · rw [(occasion_acts h s).1, hitWatches_get, hitWatch_eq]
  · rw [occasion_of_none fun m hm => by simpa using fun e => h ⟨m, hm, e⟩]

theorem exempted_fields (ms : List WatchMatch) (r : RosterRec) :
    exempted ms r = { r with exempt := (exempted ms r).exempt } ∧ r.exempt ⊆ (exempted ms r).exempt := by
  unfold exempted
  split
  · refine ⟨rfl, fun i hi => ?_⟩
    simp [Idx4.mem_all, hi]
  · exact ⟨rfl, List.Subset.refl _⟩

/-- The records after an occasion: as they were, with exemptions added. -/
theorem occasion_records (ms : List WatchMatch) (s : State) (h : x ∈ (occasion ms s).roster.records) :
    ∃ r ∈ s.roster.records, x = { r with exempt := x.exempt } ∧ r.exempt ⊆ x.exempt ∧
      ∀ m ∈ ms, m.enabled = true → m.raised = true → m.carrier = some r.carrier.number → m.watch ∈ x.exempt := by
  by_cases some : ∃ m ∈ ms, m.enabled = true
  · rw [(occasion_acts some s).2.1] at h
    obtain ⟨r, hr, rfl⟩ := List.mem_map.mp h
    obtain ⟨shape, kept⟩ := exempted_fields ms r
    refine ⟨r, hr, shape, kept, fun m hm _ raised named => ?_⟩
    have any : (ms.any fun m => m.raised && decide (m.carrier = Option.some r.carrier.number)) = true :=
      List.any_eq_true.mpr ⟨m, hm, by simp [raised, named]⟩
    rw [exempted, if_pos any]
    refine List.mem_filter.mpr ⟨Idx4.mem_all _, ?_⟩
    rw [Bool.or_eq_true]
    exact .inr (List.any_eq_true.mpr ⟨m, hm, by simp [raised, named]⟩)
  · rw [occasion_of_none fun m hm => by simpa using fun e => some ⟨m, hm, e⟩] at h
    exact ⟨x, h, rfl, List.Subset.refl _, fun m hm enabled => absurd ⟨m, hm, enabled⟩ some⟩

/-- The watches' part of a travel update: the occasion, the exemptions passed, and the Watch ceiling. -/
theorem watchesTravel_acts (s : State) :
    (watchesTravel s).watches = { (occasion (carrierMatches s) s).watches with
      given := (watchesTravel s).roster.records.map givenOf } ∧
    (watchesTravel s).roster.records = (occasion (carrierMatches s) s).roster.records.map
      (dropExemptions (occasion (carrierMatches s) s).watches.units) ∧
    (watchesTravel s).gov.watchCeiling = (watchesTravel s).watches.slow ∧
    (watchesTravel s).run = (occasion (carrierMatches s) s).run := by
  have acts : watchesTravel s = watchCeilingTest { occasion (carrierMatches s) s with
      roster := { (occasion (carrierMatches s) s).roster with
        records := (occasion (carrierMatches s) s).roster.records.map
          (dropExemptions (occasion (carrierMatches s) s).watches.units) }
      watches := { (occasion (carrierMatches s) s).watches with
        given := ((occasion (carrierMatches s) s).roster.records.map
          (dropExemptions (occasion (carrierMatches s) s).watches.units)).map givenOf } } := rfl
  rw [acts]
  generalize occasion (carrierMatches s) s = o
  have tested (v : State) : Calm [.gov, .line, .desk] v (watchCeilingTest v) := setCeiling_calm v _ _
  have ceiling (v : State) : (watchCeilingTest v).gov.watchCeiling = v.watches.slow :=
    congrArg Governor.watchCeiling (setCeiling_gov .watch v.watches.slow v)
  refine ⟨?_, congrArg Roster.records (tested _).roster, ?_, (tested _).run⟩
  · rw [(tested _).watches, (tested _).roster]
  · rw [ceiling, (tested _).watches]

/-- A record in an enabled Stop watch into which it has come is exempt from it; and where it was not so before, Watch
is raised and the hit flag set (R151, R154). -/
theorem watchesTravel_stop (enabled : (s.watches.units.get i).enabled = true)
    (stop : (s.watches.units.get i).action = .stop) (kind : (s.watches.units.get i).kind ≠ .tower)
    (hx : x ∈ (watchesTravel s).roster.records) (here : (s.watches.units.get i).inside (x.position / 1000) = true)
    (came : ∀ c, x.prevCoord = some c → (s.watches.units.get i).inside c = false) :
    i ∈ x.exempt ∧ ((∀ r ∈ s.roster.records, i ∉ r.exempt) →
      Source.watch ∈ (watchesTravel s).run.demands ∧ ((watchesTravel s).watches.units.get i).hit = true) := by
  obtain ⟨watches, records, -, run⟩ := watchesTravel_acts s
  rw [records] at hx
  obtain ⟨y, hy, rfl⟩ := List.mem_map.mp hx
  obtain ⟨r, hr, shape, kept, added⟩ := occasion_records _ s hy
  have position : y.position = r.position := by rw [shape]
  have before : y.prevCoord = r.prevCoord := by rw [shape]
  have matched (free : i ∉ r.exempt) : matchOf i (s.watches.units.get i) r ∈ carrierMatches s := by
    refine List.mem_flatMap.mpr ⟨r, hr, List.mem_filterMap.mpr ⟨i, Idx4.mem_all i, ?_⟩⟩
    exact carrierMatch_of kind (by rw [coordOf, ← position]; exact here) (fun c hc => came c (before.trans hc)) free
  have raised : (matchOf i (s.watches.units.get i) r).raised = true := by simp [matchOf, enabled, stop]
  have held : i ∈ y.exempt := by
    by_cases free : i ∈ r.exempt
    · exact kept free
    · exact added _ (matched free) enabled raised rfl
  have unit := occasion_units (carrierMatches s) s i
  have inside : coordOf y.position < ((((occasion (carrierMatches s) s).watches.units.get i).start : Nat) : Int) +
      ((occasion (carrierMatches s) s).watches.units.get i).size := by
    have bound := (Watch.inside_iff _ _).mp here
    rw [unit]
    exact bound.2
  refine ⟨List.mem_filter.mpr ⟨held, decide_eq_true inside⟩, fun none => ?_⟩
  have mem := matched (none r hr)
  have some : ∃ m ∈ carrierMatches s, m.enabled = true := ⟨_, mem, enabled⟩
  obtain ⟨hit, -, demand, -⟩ := occasion_acts some s
  rw [run, watches]
  refine ⟨demand ⟨_, mem, raised⟩, ?_⟩
  simp only [hit, hitWatches_get, hitWatch_eq]
  rw [Bool.or_eq_true]
  exact .inr (List.any_eq_true.mpr ⟨_, mem, decide_eq_true rfl⟩)

end

/-- Settles O60: matches by their conditions; an occasion by its parts; a window end by the watches' part of its travel
update. -/
theorem positionWatchesActOnOccasions : Obligations.PositionWatchesActOnOccasions := by
  refine ⟨fun i w r => ?_, mem_towerMatches, fun ms s => ⟨fun none => occasion_of_none none s, fun some => ?_⟩, fun s => ?_⟩
  · rw [carrierMatch_isSome_iff, Watch.inside_iff, and_assoc]
    simp only [← Watch.inside_iff, Bool.not_eq_true, coordOf]
  · obtain ⟨watches, roster, raised, quiet, within⟩ := occasion_acts some s
    refine ⟨fun i => ?_, (congrArg Watches.given watches :), raised, quiet, roster, fun uncounted => ?_, within.desk,
      within.touches.mono (by decide)⟩
    · rw [watches]
      simp only [hitWatches_get, hitWatch_eq]
    · rw [watches]
      exact occasion_uncounted some uncounted
  · obtain ⟨v, ends, same, fresh⟩ := windowEnd_watching s
    obtain ⟨watches, records, ceiling, -⟩ := watchesTravel_acts v
    have last := countersTravel_within (watchesTravel v)
    have demands := (Settles.countersTravel (.refl (watchesTravel v))).kept
    have lastCeiling := countersTravel_watchCeiling (watchesTravel v)
    have units (i : Idx4) := occasion_units (carrierMatches v) v i
    have stops (i : Idx4) (x : RosterRec) := watchesTravel_stop (s := v) (i := i) (x := x)
    rw [← ends] at last demands lastCeiling
    refine ⟨windowEnd s, rfl, ?_⟩
    clear ends
    generalize windowEnd s = t at *
    have unit (i : Idx4) : t.watches.units.get i = { s.watches.units.get i with hit := (t.watches.units.get i).hit } := by
      rw [last.watches, watches, ← same]
      exact units i
    rw [← last.roster] at records
    rw [← last.watches] at watches ceiling
    refine ⟨fun x hx i hi => ?_, ?_, ?_, fun i => ?_, fun i enabled stop kind x hx here came => ?_⟩
    · rw [records] at hx
      obtain ⟨y, -, rfl⟩ := List.mem_map.mp hx
      have bound := of_decide_eq_true (List.mem_filter.mp hi).2
      rw [watches]
      exact bound
    · rw [watches, last.roster]
      rfl
    · rw [lastCeiling, ceiling, Watches.slow_iff]
      have given : t.watches.given = t.roster.records.map givenOf := by rw [watches, last.roster]
      rw [given]
      simp [givenOf, coordOf]
    · rw [unit i]
      exact ⟨rfl, rfl⟩
    · have shape := unit i
      rw [← same] at shape
      rw [shape] at enabled stop kind here came
      obtain ⟨exempt, acts⟩ := stops i x enabled stop kind (last.roster ▸ hx) here came
      refine ⟨exempt, fun none => ?_⟩
      obtain ⟨demand, hit⟩ := acts fun r hr => by
        rcases fresh r hr with e | ⟨y, hy, e⟩ <;> rw [e]
        · simp
        · exact none y hy
      exact ⟨demands demand, by rw [last.watches]; exact hit⟩

end Sys2Proof.Machine
end

section
/-! SUPPORT. The transmitter of the summit line: which frame starts next, the offers to its queues, and the bits on the
pair (R157, R162 to R166). -/

namespace Sys2Proof.Machine

open Config

section
variable {s t : State} {b : ValleyBeat}

/-! ### The frame that starts next (R162, R163) -/

theorem startNext_beat (h : s.line.safety = some b) : startNext s = startBeatFrame b s := by
  simp only [startNext, h]

theorem startNext_voice {f : VoiceFrame} {rest : List VoiceFrame} (safety : s.line.safety = none)
    (voice : s.line.voice = f :: rest) : startNext s = startVoiceFrame f rest s := by
  simp only [startNext, safety, voice]

theorem startNext_control {f : ControlFrame} {rest : List ControlFrame} (safety : s.line.safety = none)
    (voice : s.line.voice = []) (control : s.line.control = f :: rest) : startNext s = startControlFrame f rest s := by
  simp only [startNext, safety, voice, control]

/-- With no other class waiting the head of Bulk starts, or flags go on. -/
theorem startNext_bulk (safety : s.line.safety = none) (voice : s.line.voice = []) (control : s.line.control = []) :
    startNext s = match s.line.bulk with
      | [] => s
      | text :: _ => { s with line := { s.line with transmit := .start (.notice text) } } := by
  simp only [startNext, safety, voice, control]
  cases s.line.bulk <;> rfl

theorem setLine_within (l : Line) (s : State) : Within [.line] s { s with line := l } :=
  ⟨by simp [touches_iff], by simp [DeskQuiet]⟩

theorem setLine_touches (l : Line) (s : State) : Touches [.line] s { s with line := l } := (setLine_within l s).touches

theorem flagSent_flags (h : s.line.transmit = .flags) : flagSent s = startNext s := by
  simp only [flagSent, h]

theorem abortSent_eq (h : s.line.transmit = .afterAbort ∨ ∃ f, s.line.transmit = .aborting f) :
    abortSent s = startNext (sendFlags s) := by
  rcases h with h | ⟨f, h⟩ <;> simp only [abortSent, h]

/-- The state whose next frame is chosen at a frame's end: its notice, if it was one, has left its queue. -/
theorem frameSent_eq {f : SentFrame} {left : Nat} (h : s.line.transmit = .frame f left) :
    ∃ l, frameSent s = startNext { s with line := { s.line with bulk := l, transmit := .flags } } ∧
      ∀ text, f = .notice text → l = s.line.bulk.tail := by
  cases f with
  | notice text => exact ⟨_, by simp only [frameSent, h]; rfl, fun _ _ => rfl⟩
  | beat n b => exact ⟨s.line.bulk, by simp only [frameSent, h]; rfl, nofun⟩
  | voice v => exact ⟨s.line.bulk, by simp only [frameSent, h]; rfl, nofun⟩
  | control c => exact ⟨s.line.bulk, by simp only [frameSent, h]; rfl, nofun⟩

/-- A waiting beat starts first, whatever ends (R163, R165). -/
theorem beat_starts {c : Instr} (waiting : s.line.safety = some b)
    (h : (c = Instr.frameStart ∧ (s.line.transmit = .flags ∨ s.line.transmit = .afterAbort)) ∨
      (c = Instr.frameEnd ∧ ∃ f left, s.line.transmit = .frame f left) ∨
      (c = Instr.abortEnd ∧ (s.line.transmit = .afterAbort ∨ ∃ f, s.line.transmit = .aborting f))) :
    ∃ l, exec c s = .next (startBeatFrame b { s with line := { s.line with bulk := l, transmit := .flags } }) := by
  have starts (l : List (List Byte)) := startNext_beat
    (s := { s with line := { s.line with bulk := l, transmit := .flags } }) (b := b) waiting
  rcases h with ⟨rfl, flags | after⟩ | ⟨rfl, f, left, frame⟩ | ⟨rfl, ended⟩
  · refine ⟨s.line.bulk, congrArg Host.Outcome.next ((flagSent_flags flags).trans ?_)⟩
    rw [startNext_beat waiting]
    rfl
  · refine ⟨s.line.bulk, congrArg Host.Outcome.next (Eq.trans ?_ (starts _))⟩
    simp only [flagSent, after]
    rfl
  · obtain ⟨l, acts, -⟩ := frameSent_eq frame
    exact ⟨l, congrArg Host.Outcome.next (acts.trans (starts l))⟩
  · exact ⟨s.line.bulk, congrArg Host.Outcome.next ((abortSent_eq ended).trans (starts _))⟩

/-! ### Offers to the queues (R162) -/

theorem offerVoice_room (f : VoiceFrame) (room : s.line.voice.length < 4) :
    offerVoice f s = { s with line := { s.line with voice := s.line.voice ++ [f] } } := if_pos room

theorem offerVoice_full (f : VoiceFrame) (full : 4 ≤ s.line.voice.length) : offerVoice f s = { s with line :=
    { s.line with
      voice := s.line.voice.drop 1 ++ [f]
      counts := { s.line.counts with voiceDropped := satInc s.line.counts.voiceDropped } } } :=
  if_neg (Nat.not_lt.mpr full)

theorem offerControl_room (f : ControlFrame) (room : s.line.control.length < 16) :
    offerControl f s = { s with line := { s.line with control := s.line.control ++ [f] } } := if_pos room

/-- A full Control queue drops the frame offered, and sets the overflow flag. -/
theorem offerControl_full (f : ControlFrame) (full : s.line.control.length = 16) : (offerControl f s).line = { s.line with
    noticeTaken := (offerControl f s).line.noticeTaken, overflow := true
    counts := { s.line.counts with controlDropped := min (s.line.counts.controlDropped + 1) 65535 } } := by
  unfold offerControl
  rw [if_neg (by rw [full]; decide)]
  simp only []
  split
  · rfl
  · exact (offerLine_calm _).line

/-! ### The bits on the pair (R157) -/

/-- A millisecond of a frame sends its next 128 bits, or all that are left. -/
theorem frame_bits_drop (f : SentFrame) {left : Nat} (h : left ≤ (wireBits f.body).length) :
    (Transmit.frame f left).bits.drop (min 128 left) = (Transmit.frame f left).tick.bits := by
  have length : ((wireBits f.body).drop ((wireBits f.body).length - left)).length = left := by
    rw [List.length_drop]
    omega
  have place : (wireBits f.body).length - left + min 128 left = (wireBits f.body).length - (left - 128) := by omega
  show ((wireBits f.body).drop ((wireBits f.body).length - left) ++ flagBits).drop (min 128 left) =
    (wireBits f.body).drop ((wireBits f.body).length - (left - 128)) ++ flagBits
  rw [List.drop_append_of_le_length (by rw [length]; exact Nat.min_le_right _ _), List.drop_drop, place]

end

/-- Settles O51: the next frame by the classes in turn; the offers by the room in their queues; the bits by what is
left of a frame. -/
theorem transmitterServesTheHighestClass : Obligations.TransmitterServesTheHighestClass := by
  refine ⟨fun s => ⟨?_, fun b waiting c h => ?_, fun f rest safety voice flags => ?_,
    fun f rest safety voice control flags => ?_, fun text rest safety voice control bulk flags => ?_,
    fun text rest left safety voice control bulk frame => ?_, fun text rest f safety voice control bulk ended => ?_,
    fun f left frame => ⟨?_, ?_⟩⟩, fun f s => ⟨offerVoice_room f, fun oldest rest voice three => ?_⟩,
    fun f s => ⟨offerControl_room f, fun full => ?_⟩, fun tag s free idle full => ?_, rfl, fun f => ⟨rfl, rfl⟩,
    fun f => ⟨?_, ?_, fun left => frame_bits_drop f⟩⟩
  · refine ⟨beatExpired s, rfl, (setLine_touches _ s : Touches [.line] s (beatExpired s)), ?_,
      fun text left frame some => ?_, fun other => ?_⟩
    · show (beatExpired s).line = _
      simp only [beatExpired, offerBeat, buildBeat, Bool.decide_or, Bool.or_assoc]
      rfl
    · show s.line.transmit.preempted = _
      rw [frame]
      exact if_neg (Nat.ne_of_gt some)
    · show s.line.transmit.preempted = _
      cases h : s.line.transmit with
      | frame f left =>
        cases f with
        | notice text => exact if_pos (other text left h)
        | _ => rfl
      | _ => rfl
  · obtain ⟨l, acts⟩ := beat_starts waiting h
    exact ⟨_, acts, rfl, rfl, rfl, rfl, rfl, setLine_touches _ s⟩
  · exact ⟨_, congrArg Host.Outcome.next ((flagSent_flags flags).trans (startNext_voice safety voice)), rfl,
      setLine_touches _ s⟩
  · refine ⟨_, congrArg Host.Outcome.next ((flagSent_flags flags).trans (startNext_control safety voice control)), ?_⟩
    have set := setLine_within { s.line with control := rest, transmit := .start (.control f) } s
    have cleared := setLine_within { s.line with control := rest, transmit := .start (.control f), overflow := false } s
    have told := offerLine_calm { s with line := { s.line with
      control := rest, transmit := .start (.control f), overflow := false } }
    obtain ⟨-, -, -, -, transmit, -, -, queue, -, overflow, -⟩ := lineQuiet_iff.mp told.line
    unfold startControlFrame
    simp only []
    split
    · exact ⟨queue, transmit, fun _ => overflow, (cleared.mono (by decide)).touches.trans
        (told.toWithin.touches)⟩
    · rename_i kept
      refine ⟨rfl, rfl, fun empty => ?_, (set.mono (by decide)).touches⟩
      simpa [empty] using kept
  · refine ⟨_, congrArg Host.Outcome.next ((flagSent_flags flags).trans (startNext_bulk safety voice control)), ?_⟩
    rw [bulk]
    exact ⟨rfl, setLine_touches _ s⟩
  · obtain ⟨l, acts, left'⟩ := frameSent_eq frame
    obtain rfl : l = rest := by rw [left' text rfl, bulk]; rfl
    refine ⟨_, congrArg Host.Outcome.next (acts.trans (startNext_bulk safety voice control)), ?_⟩
    cases l with
    | nil => exact ⟨rfl, rfl, setLine_touches _ s⟩
    | cons x xs => exact ⟨rfl, rfl, setLine_touches _ s⟩
  · have acts := abortSent_eq (s := s) (ended.symm.imp_right fun h => ⟨f, h⟩)
    refine ⟨_, congrArg Host.Outcome.next (acts.trans (startNext_bulk (s := sendFlags s) safety voice control)), ?_⟩
    have queue : (sendFlags s).line.bulk = text :: rest := bulk
    rw [queue]
    exact ⟨rfl, rfl, setLine_touches _ s⟩
  · refine congrArg Host.Outcome.next ?_
    simp only [flagSent, frame]
  · refine congrArg Host.Outcome.next ?_
    simp only [abortSent, frame]
  · rw [offerVoice_full f (by rw [voice, List.length_cons]; omega), voice]
    rfl
  · have within := offerControl_within f s
    exact ⟨within.desk, within.touches, offerControl_full f full⟩
  · have frame := ((CallFrame.refl s).edit s.phone.called s.line).sendSignal (sig := .ring) (id := s.phone.nextId)
    have dropped := offerControl_full (s := { s with phone := s.phone.called }) (.callSignal .ring s.phone.nextId) full
    have phone : (sendSignal .ring s.phone.nextId { s with phone := s.phone.called }).phone = s.phone.called :=
      (offerControl_within _ _).phone
    have sent : (sendSignal .ring s.phone.nextId { s with phone := s.phone.called }).line =
        (offerControl (.callSignal .ring s.phone.nextId) { s with phone := s.phone.called }).line := rfl
    refine ⟨_, call_completes tag free idle, answered_withReply _ _ _ frame.desk, congrArg CallUnit.state phone,
      congrArg CallUnit.id phone, ?_, ?_, ?_, touches_withReply _ _ _ frame.touches (by decide)⟩
    · exact sent.symm ▸ (congrArg Line.control dropped :)
    · exact sent.symm ▸ (congrArg Line.overflow dropped :)
    · exact sent.symm ▸ (congrArg (fun l => l.counts.controlDropped) dropped :)
  · show (wireBits f.body).drop ((wireBits f.body).length - (wireBits f.body).length) ++ flagBits = _
    rw [Nat.sub_self]
    rfl
  · show (wireBits f.body).drop ((wireBits f.body).length - 0) ++ flagBits = _
    rw [Nat.sub_zero, List.drop_length]
    rfl

end Sys2Proof.Machine
end

section
/-! SUPPORT. The summit's beats and their absence: the gap of numbers, the fields kept, the wind band and its hold
timer, and the misses (R39 to R42, R167 to R170). -/

namespace Sys2Proof.Machine

open Config

/-! ### The highest band a reading reaches (R39) -/

theorem highestBand_append (w : Nat) (l : List WindBand) (a : WindBand) :
    highestBand w (l ++ [a]) = if a.entry ≤ w then l.length + 1 else highestBand w l := by
  simp [highestBand, List.zipIdx_append, List.foldl_append]

theorem highestBand_eq {w k : Nat} {band : WindBand} {l : List WindBand} (here : l[k]? = some band)
    (reached : band.entry ≤ w) (higher : ∀ m y, k < m → l[m]? = some y → w < y.entry) : highestBand w l = k + 1 := by
  induction l using List.reverseRecOn with
  | nil => simp at here
  | append_singleton l a ih =>
    have inside := (List.getElem?_eq_some_iff.mp here).1
    have last : (l ++ [a])[l.length]? = some a := by simp
    rw [List.length_append, List.length_singleton] at inside
    rw [highestBand_append]
    by_cases top : k = l.length
    · subst top
      rw [last, Option.some.injEq] at here
      rw [here, if_pos reached]
    · have below : k < l.length := by omega
      rw [if_neg (Nat.not_le.mpr (higher l.length a below last))]
      refine ih ?_ fun m y hm hy => higher m y hm ?_
      · rwa [List.getElem?_append_left below] at here
      · rwa [List.getElem?_append_left (List.getElem?_eq_some_iff.mp hy).1]

theorem highestBand_le_of {w n : Nat} {l : List WindBand} (higher : ∀ m y, n ≤ m → l[m]? = some y → w < y.entry) :
    highestBand w l ≤ n := by
  induction l using List.reverseRecOn with
  | nil => simp [highestBand]
  | append_singleton l a ih =>
    have last : (l ++ [a])[l.length]? = some a := by simp
    rw [highestBand_append]
    split
    · rename_i reached
      by_contra beyond'
      have := higher l.length a (by omega) last
      omega
    · refine ih fun m y hm hy => higher m y hm ?_
      rwa [List.getElem?_append_left (List.getElem?_eq_some_iff.mp hy).1]

/-! ### What a beat's arrivals leave (R167 to R169) -/

/-- The wind's part of the governor. -/
def Governor.gale (g : Governor) : WindConfig × Nat × HoldCondition × Nat := (g.wind, g.band, g.hold, g.holdMs)

theorem Governor.gale_eq_iff {g h : Governor} : g.gale = h.gale ↔
    g.wind = h.wind ∧ g.band = h.band ∧ g.hold = h.hold ∧ g.holdMs = h.holdMs := by
  simp [Governor.gale]

/-- The supervision's part of the line, with the summit contents and the counts. -/
def Line.watched (l : Line) : Bool × Option Nat × Nat × Option Nat × SummitContents × LineCounts :=
  (l.heard, l.lastBeat, l.miss, l.supervision, l.contents, l.counts)

theorem Line.watched_eq_iff {l m : Line} : l.watched = m.watched ↔ l.heard = m.heard ∧ l.lastBeat = m.lastBeat ∧
    l.miss = m.miss ∧ l.supervision = m.supervision ∧ l.contents = m.contents ∧ l.counts = m.counts := by
  simp [Line.watched]

/-- An arrival that leaves the wind's part of the governor, and Wind as it was. -/
structure Passing (s t : State) : Prop where
  gale : t.gov.gale = s.gov.gale
  kept : s.run.demands ⊆ t.run.demands
  own : Source.wind ∈ t.run.demands ↔ Source.wind ∈ s.run.demands
  within : Within eventBlocks s t

section
variable {s t u : State} {bs : List Block} {src : Source} {i : Idx4}

theorem Passing.refl (s : State) : Passing s s := ⟨rfl, List.Subset.refl _, Iff.rfl, .refl _ s⟩

theorem Passing.trans (h : Passing s t) (k : Passing t u) : Passing s u :=
  ⟨k.gale.trans h.gale, List.Subset.trans h.kept k.kept, k.own.trans h.own, h.within.trans k.within⟩

theorem Within.passing (h : Within bs s t) (sub : bs ⊆ eventBlocks := by decide) (run : .run ∉ bs := by decide)
    (gov : .gov ∉ bs := by decide) : Passing s t := by
  refine ⟨by rw [h.gov gov], ?_, by rw [h.run run], h.mono sub⟩
  rw [h.run run]
  exact List.Subset.refl _

theorem Governor.enter_gale (n : RunState) (g : Governor) : (g.enter n).gale = g.gale := by cases n <;> rfl

theorem raise_passing (src : Source) (s : State) (other : src ≠ .wind := by decide) : Passing s (raise src s) := by
  refine ⟨?_, (raise_course src s).kept, ?_, (raise_within s src).mono (by decide)⟩
  · rcases raise_gov src s with h | ⟨n, h⟩ <;> rw [h]
    exact Governor.enter_gale n _
  · rw [mem_raise]
    exact ⟨fun h => h.resolve_left (Ne.symm other), .inr⟩

theorem offerEvent_gale (ev : CounterEvent) (s : State) : (offerEvent ev s).gov.gale = s.gov.gale := by
  have step (j : Idx4) (v : State) : (counterTake j ev v).gov.gale = v.gov.gale := by
    unfold counterTake
    split
    · split
      · rw [expire_eq, ← (expiring_within j ev v).gov]
        generalize expiring j ev v = e
        cases (v.counter j).action with
        | report => rfl
        | slow => exact (congrArg Governor.gale (counterCeilingTest_gov e) :)
        | stop => exact (raise_passing .counter e).gale
      · rfl
    · rfl
  exact (step .i4 _).trans ((step .i3 _).trans ((step .i2 _).trans (step .i1 s)))

theorem offerEvent_passing (ev : CounterEvent) (s : State) : Passing s (offerEvent ev s) :=
  ⟨offerEvent_gale ev s, (Settles.offerEvent (.refl s)).kept, mem_offerEvent (by decide) ev s, offerEvent_within s ev⟩

theorem SameLine.watched (h : SameLine s t) : t.line.watched = s.line.watched := by
  unfold SameLine at h
  rw [h]
  rfl

theorem LineQuiet.watched (h : LineQuiet s t) : t.line.watched = s.line.watched := h.sameLine.watched

/-! ### The gap of numbers (R167) -/

theorem offerMissed_passing (n : Nat) (s : State) :
    Passing s (offerMissed n s) ∧ (offerMissed n s).line.watched = s.line.watched := by
  induction n generalizing s with
  | zero => exact ⟨.refl s, rfl⟩
  | succ n ih =>
    obtain ⟨passing, watched⟩ := ih (offerEvent { code := 11 } s)
    exact ⟨(offerEvent_passing _ s).trans passing, watched.trans (offerEvent_aside _ s).line.watched⟩

/-- The beats missed after a beat of a number (R167). -/
def missedAfter (number : Nat) (l : Line) : Nat :=
  if l.heard then satAdd l.counts.beatsMissed (beatGap l.lastBeat number) else l.counts.beatsMissed

theorem gapTest_acts (number : Nat) (s : State) : Passing s (gapTest number s) ∧ (gapTest number s).line.watched =
    (s.line.count fun c => { c with beatsMissed := missedAfter number s.line }).watched := by
  unfold gapTest
  split
  · rename_i heard
    obtain ⟨passing, watched⟩ := offerMissed_passing (beatGap s.line.lastBeat number) s
    simp only []
    generalize offerMissed (beatGap s.line.lastBeat number) s = v at *
    refine ⟨passing.trans (countLine_calm _ v).passing, ?_⟩
    obtain ⟨h1, h2, h3, h4, h5, h6⟩ := Line.watched_eq_iff.mp watched
    simp only [countLine, Line.count, Line.watched, h1, h2, h3, h4, h5, h6, missedAfter, heard, if_true]
  · rename_i unheard
    refine ⟨.refl s, ?_⟩
    simp only [Line.count, Line.watched, missedAfter, if_neg unheard]

/-- A counter that alone counts the beats missed counts them down (R142, R167). -/
theorem offerMissed_counter {n : Nat} (code : (s.counter i).event = 11) (mask : s.run.state ∈ (s.counter i).mask)
    (running : (s.counter i).frozen = false) (alone : (s.counter i).chained = false)
    (others : ∀ j, j ≠ i → (s.counter j).event ≠ 11) (far : n < (s.counter i).value) :
    (offerMissed n s).counter i = { s.counter i with value := (s.counter i).value - n } := by
  induction n generalizing s with
  | zero => rfl
  | succ n ih =>
    have counted : counts s i { code := 11 } = true := by
      rw [counts_eq_true_iff]
      exact ⟨code, by rw [code]; decide, mask, nofun, nofun, nofun, running, fun h => by rw [alone] at h; cases h⟩
    have step : counterTake i { code := 11 } s = s.setCounter i { s.counter i with value := (s.counter i).value - 1 } :=
      counterTake_of_one_lt counted (by omega)
    have set (j : Idx4) : (s.setCounter i { s.counter i with value := (s.counter i).value - 1 }).counter j =
        if j = i then { s.counter i with value := (s.counter i).value - 1 } else s.counter j := counter_setCounter i j _ s
    have event : offerEvent { code := 11 } s = s.setCounter i { s.counter i with value := (s.counter i).value - 1 } := by
      have before (j : Idx4) (hj : j ≠ i) : counterTake j { code := 11 } s = s :=
        counterTake_of_not_counts fun c => others j hj (counts_eq_true_iff.mp c).1
      have after (j : Idx4) (hj : j ≠ i) : counterTake j { code := 11 }
          (s.setCounter i { s.counter i with value := (s.counter i).value - 1 }) =
          s.setCounter i { s.counter i with value := (s.counter i).value - 1 } :=
        counterTake_of_not_counts fun c => others j hj (by
          have := (counts_eq_true_iff.mp c).1
          rwa [set, if_neg hj] at this)
      unfold offerEvent
      cases i <;> simp only [before, after, step, ne_eq, reduceCtorEq, not_false_eq_true]
    have here := (set i).trans (if_pos rfl)
    rw [offerMissed, event, ih]
    · rw [here]
      have sum : (s.counter i).value - 1 - n = (s.counter i).value - (n + 1) := by omega
      simp only [sum]
    · rw [here]; exact code
    · rw [here]; exact mask
    · rw [here]; exact running
    · rw [here]; exact alone
    · intro j hj
      rw [set, if_neg hj]
      exact others j hj
    · rw [here]
      show n < (s.counter i).value - 1
      omega

end

end Sys2Proof.Machine
end

section
/-! SUPPORT. A summit beat as a whole, and each expiry of the supervision timer (R39, R40, R42, R167 to R170). -/

namespace Sys2Proof.Machine

open Config

section
variable {s t u : State} {b : BeatFields} {i : Idx4} {g : Governor}

/-! ### The beat heard (R167, R168) -/

theorem offerLineIf_calm (before : LineSnapshot) (s : State) : Calm [.line, .desk] s (offerLineIf before s) := by
  unfold offerLineIf
  split
  · exact .refl _ s
  · exact offerLine_calm s

theorem setCeiling_line (on : Bool) (s : State) : (setCeiling .line on s).gov = { s.gov with lineCeiling := on } :=
  setCeiling_gov .line on s

/-- A beat heard: number and heard flag, supervision anew, and the Line ceiling withdrawn. -/
theorem heardBeat_acts (number : Nat) (s : State) :
    (heardBeat number s).line.watched = (true, some number, 0, some 150, s.line.contents, s.line.counts) ∧
      (heardBeat number s).gov = { s.gov with lineCeiling := false } ∧ (heardBeat number s).run = s.run ∧
      Within [.gov, .line, .desk] s (heardBeat number s) := by
  have named := setLine_within { s.line with lastBeat := some number, heard := true } s
  obtain ⟨u, hu, first, before⟩ : ∃ u, u = (if s.line.heard then
      { s with line := { s.line with lastBeat := some number, heard := true } } else
      offerLine { s with line := { s.line with lastBeat := some number, heard := true } }) ∧
      Within [.line, .desk] s u ∧
      u.line.watched = (true, some number, s.line.miss, s.line.supervision, s.line.contents, s.line.counts) := by
    refine ⟨_, rfl, ?_⟩
    split
    · exact ⟨named.mono (by decide), rfl⟩
    · exact ⟨(named.mono (by decide)).andThen (offerLine_calm _).toWithin (by decide), (offerLine_calm _).line.watched⟩
  have acts : heardBeat number s = offerLineIf (lineSnapshot u) (setCeiling .line false { u with line := { u.line with
      miss := 0, supervision := some supervisionFirstMs } }) := by rw [hu]; rfl
  have restarted := setLine_within { u.line with miss := 0, supervision := some supervisionFirstMs } u
  have ceiling := setCeiling_calm { u with line := { u.line with miss := 0, supervision := some supervisionFirstMs } }
    .line false
  have gov := setCeiling_line false { u with line := { u.line with miss := 0, supervision := some supervisionFirstMs } }
  have watched : ({ u.line with miss := 0, supervision := some supervisionFirstMs } : Line).watched =
      (true, some number, 0, some 150, s.line.contents, s.line.counts) := by
    simp only [Line.watched, Prod.mk.injEq] at before
    simp only [Line.watched, before, supervisionFirstMs]
  have later := ceiling.line.watched
  rw [acts]
  generalize setCeiling .line false { u with line := { u.line with miss := 0, supervision := some supervisionFirstMs } } =
    v at *
  have last := offerLineIf_calm (lineSnapshot u) v
  refine ⟨last.line.watched.trans (later.trans watched), ?_, ?_, ?_⟩
  · rw [last.gov, gov, ← first.gov]
  · rw [last.run, ceiling.run, ← first.run]
  · exact ((((first.mono (by decide)).andThen restarted (by decide)).andThen ceiling.toWithin (by decide)).andThen
      last.toWithin (by decide))

/-! ### The demands of a beat (R169) -/

theorem raise_lineCeiling (src : Source) (s : State) : (raise src s).gov.lineCeiling = s.gov.lineCeiling ∧
    (raise src s).gov.summitCeiling = s.gov.summitCeiling := by
  rcases raise_gov src s with h | ⟨n, h⟩ <;> rw [h]
  · exact ⟨rfl, rfl⟩
  · cases n <;> exact ⟨rfl, rfl⟩

theorem beatDemands_acts (b : BeatFields) (s : State) : Passing s (beatDemands b s) ∧
    Within raiseBlocks s (beatDemands b s) ∧ (beatDemands b s).line.watched = s.line.watched ∧
    (beatDemands b s).gov.lineCeiling = s.gov.lineCeiling ∧
    (b.stop = .emergency ∨ b.loopOpen = true → Source.summitEmergency ∈ (beatDemands b s).run.demands) ∧
    (b.stop = .service → b.loopOpen = false → Source.summitService ∈ (beatDemands b s).run.demands) := by
  unfold beatDemands
  split
  · rename_i emergency
    refine ⟨raise_passing _ s, raise_within s _, (sameLine_raise _ s).watched, (raise_lineCeiling _ s).1,
      fun _ => (mem_raise _ _ _).mpr (.inl rfl), fun service closed => ?_⟩
    rcases emergency with h | h
    · rw [service] at h
      cases h
    · rw [closed] at h
      cases h
  · rename_i calm
    split
    · exact ⟨raise_passing _ s, raise_within s _, (sameLine_raise _ s).watched, (raise_lineCeiling _ s).1,
        fun h => absurd h calm, fun _ _ => (mem_raise _ _ _).mpr (.inl rfl)⟩
    · rename_i clear
      exact ⟨.refl s, .refl _ s, rfl, rfl, fun h => absurd h calm, fun h => absurd h clear⟩

/-! ### The reading of a beat (R39, R42) -/

/-- What a band entered leaves of the governor. -/
theorem enterBand_acts (g : Governor) (s : State) : (enterBand g s).gov.gale = g.gale ∧
    (enterBand g s).gov.lineCeiling = g.lineCeiling ∧ (enterBand g s).gov.summitCeiling = g.summitCeiling ∧
    (g.stopBand = true → Source.wind ∈ (enterBand g s).run.demands) ∧ s.run.demands ⊆ (enterBand g s).run.demands ∧
    (enterBand g s).line.watched = s.line.watched ∧ Within raiseBlocks s (enterBand g s) := by
  have set := setGov_calm g s
  have offered := set.toWithin.mono (cs := [.gov, .line, .desk]) (by decide) |>.andThen
    (offerGovernor_calm { s with gov := g }).toWithin (by decide)
  have gov : (offerGovernor { s with gov := g }).gov = g := (offerGovernor_calm _).gov
  have watched : (offerGovernor { s with gov := g }).line.watched = s.line.watched :=
    (offerGovernor_calm { s with gov := g }).line.watched
  unfold enterBand
  simp only []
  generalize offerGovernor { s with gov := g } = v at *
  have kept : s.run.demands ⊆ v.run.demands := by rw [offered.run]; exact List.Subset.refl _
  split
  · refine ⟨?_, ?_, ?_, fun _ => (mem_raise _ _ _).mpr (.inl rfl), List.Subset.trans kept (raise_course _ v).kept,
      (sameLine_raise _ v).watched.trans watched, (offered.mono (by decide)).andThen (raise_within v _) (by decide)⟩
    · rw [← gov]
      rcases raise_gov .wind v with h | ⟨n, h⟩ <;> rw [h]
      exact Governor.enter_gale n _
    · rw [(raise_lineCeiling _ v).1, gov]
    · rw [(raise_lineCeiling _ v).2, gov]
  · rename_i free
    exact ⟨by rw [gov], by rw [gov], by rw [gov], fun h => absurd h free, kept, watched, offered.mono (by decide)⟩

/-- Everything a reading leaves but the band and its hold timer. -/
structure Reading (s t : State) : Prop where
  lineCeiling : t.gov.lineCeiling = s.gov.lineCeiling
  summitCeiling : t.gov.summitCeiling = s.gov.summitCeiling
  kept : s.run.demands ⊆ t.run.demands
  watched : t.line.watched = s.line.watched
  within : Within raiseBlocks s t

/-- A governor set in place of the present one, with the run state, the line and the two ceilings. -/
theorem reading_setGov (line : g.lineCeiling = s.gov.lineCeiling) (summit : g.summitCeiling = s.gov.summitCeiling) :
    Reading s { s with gov := g } :=
  ⟨line, summit, List.Subset.refl _, rfl, (setGov_calm g s).toWithin.mono (by decide)⟩

theorem takeWind_reading (w : Option Nat) (s : State) : Reading s (takeWind w s) := by
  unfold takeWind
  split
  · unfold takeReading
    simp only []
    split
    · obtain ⟨-, line, summit, -, kept, watched, within⟩ := enterBand_acts
        { s.gov.stopHold with band := highestBand _ s.gov.wind.bands } s
      exact ⟨line, summit, kept, watched, within⟩
    · split
      · refine reading_setGov ?_ ?_ <;> unfold Governor.runHold <;> split <;> rfl
      · exact reading_setGov rfl rfl
  · refine reading_setGov ?_ ?_ <;> unfold Governor.pauseHold <;> split <;> rfl

/-- A reading that reaches a higher band (R39, R42). -/
theorem takeWind_rises {w k : Nat} {band : WindBand} (here : s.gov.wind.bands[k]? = some band) (reached : band.entry ≤ w)
    (higher : ∀ m y, k < m → s.gov.wind.bands[m]? = some y → w < y.entry) (below : s.gov.band < k + 1) :
    (takeWind (some w) s).gov.band = k + 1 ∧ (takeWind (some w) s).gov.hold = .stopped ∧
      (takeWind (some w) s).gov.holdMs = 0 ∧ (band.ceiling = none → Source.wind ∈ (takeWind (some w) s).run.demands) := by
  have top := highestBand_eq here reached higher
  have acts : takeWind (some w) s = enterBand { s.gov.stopHold with band := k + 1 } s := by
    simp only [takeWind, takeReading, top, if_pos below]
  obtain ⟨gale, -, -, stops, -⟩ := enterBand_acts { s.gov.stopHold with band := k + 1 } s
  rw [acts]
  obtain ⟨-, hband, hhold, hms⟩ := Governor.gale_eq_iff.mp gale
  refine ⟨hband, hhold, hms, fun none => stops ?_⟩
  have now : ({ s.gov.stopHold with band := k + 1 } : Governor).bandNow = some band :=
    (if_neg (Nat.succ_ne_zero k)).trans here
  simp only [Governor.stopBand, now, none, Option.isNone_none]

/-- A reading that reaches no higher band (R39). -/
theorem takeWind_stays {w : Nat} (higher : ∀ m y, s.gov.band ≤ m → s.gov.wind.bands[m]? = some y → w < y.entry) :
    (takeWind (some w) s).gov.band = s.gov.band ∧
      ((takeWind (some w) s).gov.hold = .running ↔ ∃ y, 1 ≤ s.gov.band ∧
        s.gov.wind.bands[s.gov.band - 1]? = some y ∧ w < y.entry - s.gov.wind.hysteresis) ∧
      ((takeWind (some w) s).gov.hold = .running ∨ (takeWind (some w) s).gov.hold = .stopped) ∧
      ((takeWind (some w) s).gov.hold = .stopped → (takeWind (some w) s).gov.holdMs = 0) ∧
      (takeWind (some w) s).run = s.run := by
  have level : ¬ s.gov.band < highestBand w s.gov.wind.bands := Nat.not_lt.mpr (highestBand_le_of higher)
  have low := Governor.lowWind_iff s.gov w
  by_cases h : s.gov.lowWind w = true
  · have acts : takeWind (some w) s = { s with gov := s.gov.runHold } := by
      simp only [takeWind, takeReading, if_neg level, if_pos h]
    have runs : s.gov.runHold.hold = .running ∧ s.gov.runHold.band = s.gov.band := by
      unfold Governor.runHold
      split
      · exact ⟨rfl, rfl⟩
      · rename_i running
        exact ⟨running, rfl⟩
      · exact ⟨rfl, rfl⟩
    rw [acts]
    refine ⟨runs.2, ⟨fun _ => low.mp h, fun _ => runs.1⟩, .inl runs.1, fun stopped => ?_, rfl⟩
    rw [show ({ s with gov := s.gov.runHold } : State).gov.hold = .running from runs.1] at stopped
    cases stopped
  · have acts : takeWind (some w) s = { s with gov := s.gov.stopHold } := by
      simp only [takeWind, takeReading, if_neg level, if_neg h]
    rw [acts]
    refine ⟨rfl, ⟨nofun, fun some => absurd (low.mpr some) h⟩, .inr rfl, fun _ => rfl, rfl⟩

theorem takeWind_absent (s : State) : (takeWind none s).gov.band = s.gov.band ∧
    (takeWind none s).gov.holdMs = s.gov.holdMs ∧
    (takeWind none s).gov.hold = (if s.gov.hold = .running then .paused else s.gov.hold) := by
  unfold takeWind Governor.pauseHold
  simp only []
  split <;> exact ⟨rfl, rfl, rfl⟩

/-- The fields of a beat, taken around its reading (R170). -/
theorem takeFields_acts (b : BeatFields) (s : State) : ∃ v, v.gov = { s.gov with summitCeiling := beatCeiling b } ∧
    v.run = s.run ∧ (takeFields b s).gov = (takeWind (beatWind b) v).gov ∧
    (takeFields b s).run = (takeWind (beatWind b) v).run ∧ s.run.demands ⊆ (takeFields b s).run.demands ∧
    (takeFields b s).gov.lineCeiling = s.gov.lineCeiling ∧ (takeFields b s).gov.summitCeiling = beatCeiling b ∧
    (takeFields b s).line.watched = (s.line.heard, s.line.lastBeat, s.line.miss, s.line.supervision, beatContents b,
      s.line.counts) ∧ Within raiseBlocks s (takeFields b s) := by
  have set := updateCeilings_calm s { s.gov with summitCeiling := beatCeiling b }
  have gov := updateCeilings_gov { s.gov with summitCeiling := beatCeiling b } s
  have acts : takeFields b s = offerLineIf (lineSnapshot (takeWind (beatWind b)
      (updateCeilings { s.gov with summitCeiling := beatCeiling b } s)))
      { takeWind (beatWind b) (updateCeilings { s.gov with summitCeiling := beatCeiling b } s) with
        line := { (takeWind (beatWind b) (updateCeilings { s.gov with summitCeiling := beatCeiling b } s)).line with
          contents := beatContents b } } := rfl
  generalize updateCeilings { s.gov with summitCeiling := beatCeiling b } s = v at *
  have read := takeWind_reading (beatWind b) v
  refine ⟨v, gov, set.run, ?_⟩
  generalize takeWind (beatWind b) v = w at *
  have last := offerLineIf_calm (lineSnapshot w) { w with line := { w.line with contents := beatContents b } }
  have contents := setLine_within { w.line with contents := beatContents b } w
  rw [acts]
  refine ⟨last.gov, last.run, ?_, ?_, ?_, ?_, ?_⟩
  · rw [last.run, ← set.run]
    exact read.kept
  · rw [last.gov]
    exact read.lineCeiling.trans (by rw [gov])
  · rw [last.gov]
    exact read.summitCeiling.trans (by rw [gov])
  · obtain ⟨h1, h2, h3, h4, -, h6⟩ := Line.watched_eq_iff.mp (read.watched.trans set.line.watched)
    refine last.line.watched.trans ?_
    simp only [Line.watched, h1, h2, h3, h4, h6]
  · have whole : Within raiseBlocks s w := (set.toWithin.mono (by decide)).trans read.within
    have kept : Within raiseBlocks w { w with line := { w.line with contents := beatContents b } } :=
      contents.mono (by decide)
    exact (whole.trans kept).trans (last.toWithin.mono (by decide))

/-! ### The beat as a whole (R167 to R170) -/

/-- What a beat leaves, through the state its reading is taken in. -/
theorem summitBeat_acts (b : BeatFields) (s : State) : ∃ v, v.gov.gale = s.gov.gale ∧
    s.run.demands ⊆ (summitBeat b s).run.demands ∧ (Source.wind ∈ v.run.demands ↔ Source.wind ∈ s.run.demands) ∧
    (summitBeat b s).gov = (takeWind (beatWind b) v).gov ∧ (summitBeat b s).run = (takeWind (beatWind b) v).run ∧
    (summitBeat b s).gov.lineCeiling = false ∧ (summitBeat b s).gov.summitCeiling = beatCeiling b ∧
    (summitBeat b s).line.watched = (true, some b.number, 0, some 150, beatContents b,
      { s.line.counts with beats := satInc s.line.counts.beats, beatsMissed := missedAfter b.number s.line }) ∧
    (b.stop = .emergency ∨ b.loopOpen = true → Source.summitEmergency ∈ (summitBeat b s).run.demands) ∧
    (b.stop = .service → b.loopOpen = false → Source.summitService ∈ (summitBeat b s).run.demands) ∧
    Within (.counters :: raiseBlocks) s (summitBeat b s) ∧
    (summitBeat b s).counters = (gapTest b.number (countLine (fun c => { c with beats := satInc c.beats }) s)).counters := by
  have first := countLine_calm (fun c => { c with beats := satInc c.beats }) s
  obtain ⟨gap, gapLine⟩ := gapTest_acts b.number (countLine (fun c => { c with beats := satInc c.beats }) s)
  have early : Passing s (gapTest b.number (countLine (fun c => { c with beats := satInc c.beats }) s)) :=
    first.passing.trans gap
  unfold summitBeat
  simp only []
  generalize gapTest b.number (countLine (fun c => { c with beats := satInc c.beats }) s) = g at *
  obtain ⟨heardLine, heardGov, heardRun, heard⟩ := heardBeat_acts b.number g
  generalize heardBeat b.number g = h at *
  obtain ⟨stops, stopsWithin, stopsLine, stopsCeiling, emergency, service⟩ := beatDemands_acts b h
  generalize beatDemands b h = d at *
  obtain ⟨v, vgov, vrun, tgov, trun, kept, lineCeiling, summitCeiling, tline, within⟩ := takeFields_acts b d
  refine ⟨v, ?_, ?_, ?_, tgov, trun, ?_, summitCeiling, ?_, fun e => kept (emergency e),
    fun e c => kept (service e c), ?_, ?_⟩
  · rw [vgov]
    exact (stops.gale.trans (by rw [heardGov]; rfl)).trans early.gale
  · exact List.Subset.trans early.kept (heardRun ▸ List.Subset.trans stops.kept kept)
  · rw [vrun, stops.own, heardRun, early.own]
  · rw [lineCeiling, stopsCeiling, heardGov]
  · rw [tline]
    rw [heardLine] at stopsLine
    simp only [Line.watched, Prod.mk.injEq] at stopsLine gapLine
    obtain ⟨h1, h2, h3, h4, -, h6⟩ := stopsLine
    rw [h1, h2, h3, h4, h6, gapLine.2.2.2.2.2]
    rfl
  · exact ((early.within.mono (by decide)).trans (heard.mono (by decide))).trans
      ((stopsWithin.mono (by decide)).trans (within.mono (by decide)))
  · rw [within.counters, stopsWithin.counters, heard.counters]

/-- The numbers a beat has lost, from a last number below 256 (R167). -/
theorem beatGap_eq {l k : Nat} (number : Nat) (small : l < 256) (gap : k = (number + 256 - l) % 256) :
    beatGap (some l) number = k - 1 := by
  rw [gap, beatGap, Nat.mod_eq_of_lt small]

/-- The counters at a gap of numbers are those of the beats offered (R167). -/
theorem gapTest_counters {l : Nat} (number : Nat) (heard : s.line.heard = true) (last : s.line.lastBeat = some l) :
    (gapTest number s).counters = (offerMissed (beatGap (some l) number) s).counters := by
  simp only [gapTest, heard, last, if_true]
  exact (countLine_calm _ _).counters

/-! ### The absence of beats (R40, R168) -/

theorem missAction_acts (miss : Nat) (s : State) : (missAction miss s).line.watched = s.line.watched ∧
    Within raiseBlocks s (missAction miss s) := by
  unfold missAction
  split
  · exact ⟨rfl, (setGov_calm _ s).toWithin.mono (by decide)⟩
  · split
    · exact ⟨(setCeiling_calm s .line true).line.watched, (setCeiling_calm s .line true).toWithin.mono (by decide)⟩
    · split
      · exact ⟨(sameLine_raise _ s).watched, raise_within s _⟩
      · exact ⟨rfl, .refl _ s⟩

/-- The state with the miss counted and the timer anew (R168). -/
def missed (s : State) : State :=
  { s with line := { s.line with miss := min (s.line.miss + 1) 255, supervision := some supervisionNextMs } }

/-- An expiry takes the action of the miss count it reaches, and reports the line. -/
theorem supervisionExpired_acts {ms : Nat} (h : s.line.supervision = some ms) : ∃ u,
    (min (s.line.miss + 1) 255 = s.line.miss → u = missed s) ∧
    (min (s.line.miss + 1) 255 ≠ s.line.miss → u = missAction (min (s.line.miss + 1) 255) (missed s)) ∧
    Calm [.line, .desk] u (supervisionExpired s) := by
  refine ⟨if min (s.line.miss + 1) 255 = s.line.miss then missed s else
    missAction (min (s.line.miss + 1) 255) (missed s), fun full => if_pos full, fun below => if_neg below, ?_⟩
  have acts : supervisionExpired s = if missBand (min (s.line.miss + 1) 255) = missBand s.line.miss then
      (if min (s.line.miss + 1) 255 = s.line.miss then missed s else missAction (min (s.line.miss + 1) 255) (missed s))
      else offerLine (if min (s.line.miss + 1) 255 = s.line.miss then missed s else
        missAction (min (s.line.miss + 1) 255) (missed s)) := by
    simp only [supervisionExpired, h]
    rfl
  rw [acts]
  by_cases level : missBand (min (s.line.miss + 1) 255) = missBand s.line.miss
  · rw [if_pos level]
    exact .refl _ _
  · rw [if_neg level]
    exact offerLine_calm _

theorem missed_within (s : State) : Within [.line] s (missed s) := setLine_within _ s

theorem Governor.pauseHold_hold (g : Governor) : g.pauseHold.hold ≠ .running := by
  unfold Governor.pauseHold
  split
  · exact nofun
  · assumption

end

/-- Settles O50: a beat through the counting of the gap, the beat heard, its demands and its reading in turn, and each
expiry of the supervision timer by the miss count it reaches. -/
theorem beatsAndTheirAbsenceAct : Obligations.BeatsAndTheirAbsenceAct := by
  refine ⟨fun b s => ?_, fun s => ⟨fun h => ?_, fun ms h => ?_⟩⟩
  · obtain ⟨v, gale, kept, own, gov, run, lineCeiling, summit, watched, emergency, service, within, counters⟩ :=
      summitBeat_acts b s
    simp only [Line.watched, Prod.mk.injEq] at watched
    obtain ⟨heard, last, miss, supervision, contents, counts⟩ := watched
    obtain ⟨hwind, hband, hhold, hms⟩ := Governor.gale_eq_iff.mp gale
    have lost (l : Nat) (sheard : s.line.heard = true) (slast : s.line.lastBeat = some l) :
        (summitBeat b s).line.counts.beatsMissed =
          min (s.line.counts.beatsMissed + beatGap (some l) b.number) 65535 := by
      simp only [counts, missedAfter, if_pos sheard, slast]
      rfl
    have wind (present : b.wind ≠ 65535) : beatWind b = some (min b.wind 600) := if_neg present
    refine ⟨summitBeat b s, rfl, heard, last, miss, supervision, lineCeiling, ?_, ?_, ?_, ?_, ?_, ?_, ?_, ?_, ?_,
      emergency, service, ?_, ?_, ?_, ?_, ?_, ?_, within.desk, within.touches⟩
    · simp only [counts]
      rfl
    · rw [contents]; rfl
    · rw [contents]; rfl
    · rw [contents]; rfl
    · rw [contents]; rfl
    · rw [contents]; rfl
    · rw [contents]; rfl
    · rw [contents, summit]; rfl
    · rw [contents]; rfl
    · intro sheard l slast small next
      have none : beatGap (some l) b.number = 0 := by rw [beatGap_eq b.number small rfl]; omega
      rw [lost l sheard slast, none, Nat.add_zero]
    · intro l k sheard slast small _ gap
      rw [lost l sheard slast, beatGap_eq b.number small gap]
      refine ⟨rfl, fun i code mask running alone others far => ?_⟩
      have here : (summitBeat b s).counter i =
          (offerMissed (k - 1) (countLine (fun c => { c with beats := satInc c.beats }) s)).counter i := by
        rw [State.counter, counters, gapTest_counters (s := countLine _ s) b.number sheard slast,
          beatGap_eq b.number small gap]
        rfl
      rw [here]
      exact offerMissed_counter (s := countLine _ s) code mask running alone others far
    · intro unheard
      simp only [counts, missedAfter, unheard]
      rfl
    · intro k band present there reached higher below
      rw [gov, run, wind present]
      exact takeWind_rises (s := v) (by rw [hwind]; exact there) reached (by rw [hwind]; exact higher)
        (by rw [hband]; exact below)
    · intro present higher
      obtain ⟨band, runs, either, stopped, same⟩ :=
        takeWind_stays (s := v) (w := min b.wind 600) (by rw [hwind, hband]; exact higher)
      rw [gov, run, wind present, same]
      rw [hwind, hband] at runs
      exact ⟨band.trans hband, runs, either, stopped, own⟩
    · intro absent
      rw [gov, show beatWind b = none from if_pos absent]
      obtain ⟨band, ms, hold⟩ := takeWind_absent v
      rw [hhold] at hold
      exact ⟨band.trans hband, ms.trans hms, hold⟩
  · exact congrArg Host.Outcome.next (by simp only [supervisionExpired, h])
  · obtain ⟨u, full, below, calm⟩ := supervisionExpired_acts h
    have acts : u.line.watched = (missed s).line.watched ∧ Within raiseBlocks (missed s) u := by
      by_cases top : min (s.line.miss + 1) 255 = s.line.miss
      · rw [full top]
        exact ⟨rfl, .refl _ _⟩
      · rw [below top]
        exact missAction_acts _ _
    have whole : Within raiseBlocks s (supervisionExpired s) :=
      (((missed_within s).mono (by decide)).trans acts.2).trans (calm.toWithin.mono (by decide))
    have now {m : Nat} (at' : s.line.miss = m) (small : m < 255) : u = missAction (m + 1) (missed s) := by
      rw [below (by omega), at', Nat.min_eq_left (by omega)]
    obtain ⟨-, -, miss, supervision, -⟩ := Line.watched_eq_iff.mp (calm.line.watched.trans acts.1)
    refine ⟨supervisionExpired s, rfl, miss, supervision, whole.desk, ?_, ?_, ?_, ?_, whole.touches⟩
    · intro first
      rw [calm.gov, calm.run, now first (by decide)]
      exact ⟨Governor.pauseHold_hold _, rfl⟩
    · intro second
      rw [calm.gov, calm.run, now second (by decide)]
      exact ⟨setCeiling_line true (missed s), (setCeiling_calm (missed s) .line true).run⟩
    · intro fourth
      unfold Raised
      rw [calm.run, now fourth (by decide)]
      exact (raise_run .lineLost (missed s)).1
    · intro later
      rw [calm.gov, calm.run]
      by_cases top : min (s.line.miss + 1) 255 = s.line.miss
      · rw [full top]
        exact ⟨rfl, rfl⟩
      · rw [below top]
        have idle : missAction (min (s.line.miss + 1) 255) (missed s) = missed s := by
          unfold missAction
          rw [if_neg (by omega), if_neg (by omega), if_neg (by omega)]
        rw [idle]
        exact ⟨rfl, rfl⟩

end Sys2Proof.Machine
end

section
/-! SUPPORT. The playout queue: a block placed in its order, a Voice frame by the tests it meets, and the sequences of
the blocks queued (R183). -/

namespace Sys2Proof.Machine

open Config

/-! ### A block placed in its order (R183) -/

/-- The order of the playout queue: by the difference from the reference. -/
def InOrder (r : Nat) (q : List PlayoutBlock) : Prop :=
  q.Pairwise fun a b => seqDiff a.sequence r < seqDiff b.sequence r

section
variable {r n : Nat} {b x : PlayoutBlock} {q : List PlayoutBlock} {c d : CallUnit} {s t : State}

theorem seqDiff_eq (n : Nat) (h : r < 256) : seqDiff n r = (n + 256 - r) % 256 := by rw [seqDiff, Nat.mod_eq_of_lt h]

/-- Sequences below 256 with one difference are one. -/
theorem seqDiff_inj {m : Nat} (hr : r < 256) (hm : m < 256) (hn : n < 256) (h : seqDiff m r = seqDiff n r) : m = n := by
  rw [seqDiff_eq m hr, seqDiff_eq n hr] at h
  omega

theorem mem_placeBlock : x ∈ placeBlock r b q ↔ x = b ∨ x ∈ q := by
  induction q with
  | nil => simp [placeBlock]
  | cons y q ih =>
    unfold placeBlock
    split
    · simp
    · simp only [List.mem_cons, ih]
      tauto

theorem length_placeBlock (r : Nat) (b : PlayoutBlock) (q : List PlayoutBlock) :
    (placeBlock r b q).length = q.length + 1 := by
  induction q with
  | nil => rfl
  | cons y q ih =>
    unfold placeBlock
    split
    · rfl
    · simp [ih]

theorem placeBlock_inOrder (other : ∀ y ∈ q, seqDiff y.sequence r ≠ seqDiff b.sequence r) (h : InOrder r q) :
    InOrder r (placeBlock r b q) := by
  unfold InOrder at *
  induction q with
  | nil => simp [placeBlock]
  | cons y q ih =>
    obtain ⟨first, rest⟩ := List.pairwise_cons.mp h
    unfold placeBlock
    split
    · rename_i before
      refine List.pairwise_cons.mpr ⟨fun z hz => ?_, h⟩
      rcases List.mem_cons.mp hz with rfl | hz
      · exact before
      · exact before.trans (first z hz)
    · rename_i behind
      refine List.pairwise_cons.mpr ⟨fun z hz => ?_, ih (fun z hz => other z (List.mem_cons_of_mem _ hz)) rest⟩
      rcases mem_placeBlock.mp hz with rfl | hz
      · exact Nat.lt_of_le_of_ne (Nat.not_lt.mp behind) (other y List.mem_cons_self)
      · exact first z hz

/-! ### A Voice frame (R183) -/

/-- The voice loss timer anew. -/
def CallUnit.voiced (c : CallUnit) : CallUnit := { c with voiceLoss := some voiceLossMs }

theorem takeVoice_foreign (h : ¬ (c.state = .talking ∧ c.id = some n)) : c.takeVoice n b =
    { c with counts := { c.counts with foreign := satInc c.counts.foreign } } := if_neg h

/-- A frame of the current call is tested against the reference of the call. -/
theorem takeVoice_of_reference (talking : c.state = .talking) (own : c.id = some n) (reference : c.reference = some r) :
    c.takeVoice n b = c.voiced.takeBlock r b := by
  unfold CallUnit.takeVoice
  rw [if_pos ⟨talking, own⟩]
  simp only [reference, Option.getD_some]
  rw [← reference]
  rfl

theorem newer_eq_true (h : r < 256) : newer n r = true ↔ 1 ≤ (n + 256 - r) % 256 ∧ (n + 256 - r) % 256 ≤ 127 := by
  rw [newer, seqDiff_eq n h, Bool.and_eq_true, decide_eq_true_eq, decide_eq_true_eq]

theorem takeBlock_late (h : newer b.sequence r = false) :
    c.takeBlock r b = { c with counts := { c.counts with late := satInc c.counts.late } } := if_pos h

theorem takeBlock_duplicate (h : newer b.sequence r = true) (held : ∃ x ∈ c.queue, x.sequence = b.sequence) :
    c.takeBlock r b = { c with counts := { c.counts with duplicate := satInc c.counts.duplicate } } := by
  unfold CallUnit.takeBlock
  rw [if_neg (by rw [h]; decide), if_pos (by simpa using held)]

theorem takeBlock_new (h : newer b.sequence r = true) (absent : ∀ x ∈ c.queue, x.sequence ≠ b.sequence) :
    c.takeBlock r b = c.enqueue r b := by
  unfold CallUnit.takeBlock
  rw [if_neg (by rw [h]; decide), if_neg (by simpa using absent)]

theorem enqueue_room (room : c.queue.length < 8) : c.enqueue r b = { c with queue := placeBlock r b c.queue } := by
  unfold CallUnit.enqueue
  rw [if_neg]
  rw [length_placeBlock]
  exact Nat.not_lt.mpr room

/-- With eight blocks queued the oldest of the nine goes. -/
theorem enqueue_full (full : c.queue.length = 8) : c.enqueue r b = { c with
    queue := (placeBlock r b c.queue).tail
    counts := { c.counts with overflow := satInc c.counts.overflow } } := by
  unfold CallUnit.enqueue
  rw [if_pos]
  rw [length_placeBlock, full]
  decide

theorem placeBlock_before (head : q.head? = some x) (before : seqDiff b.sequence r < seqDiff x.sequence r) :
    placeBlock r b q = b :: q := by
  cases q with
  | nil => cases head
  | cons y q =>
    obtain rfl := Option.some.inj head
    exact if_pos before

theorem placeBlock_behind (head : q.head? = some x) (behind : seqDiff x.sequence r < seqDiff b.sequence r) :
    placeBlock r b q = x :: placeBlock r b q.tail := by
  cases q with
  | nil => cases head
  | cons y q =>
    obtain rfl := Option.some.inj head
    exact if_neg (Nat.lt_asymm behind)

/-- The first frame of a call sets the reference one before its sequence. -/
theorem takeVoice_first (talking : c.state = .talking) (own : c.id = some n) (reference : c.reference = none)
    (queue : c.queue = []) (small : b.sequence < 256) : c.takeVoice n b = { c with
      voiceLoss := some 2000, reference := some ((b.sequence + 255) % 256), queue := [b] } := by
  obtain ⟨m, hm⟩ : ∃ m, m = (b.sequence + 255) % 256 := ⟨_, rfl⟩
  have gap : 1 ≤ (b.sequence + 256 - m) % 256 ∧ (b.sequence + 256 - m) % 256 ≤ 127 := by omega
  have below : m < 256 := by omega
  have new := (newer_eq_true below).mpr gap
  unfold CallUnit.takeVoice
  rw [if_pos ⟨talking, own⟩]
  simp only [reference, Option.getD_none, ← hm]
  rw [takeBlock_new new (fun x hx => absurd (queue ▸ hx) List.not_mem_nil), enqueue_room (by simp only [queue]; decide)]
  simp only [queue]
  rfl

theorem takeVoice_late (talking : c.state = .talking) (own : c.id = some n) (reference : c.reference = some r)
    (small : r < 256) (late : (b.sequence + 256 - r) % 256 = 0 ∨ 128 ≤ (b.sequence + 256 - r) % 256) :
    c.takeVoice n b = { c with voiceLoss := some 2000, counts := { c.counts with late := min (c.counts.late + 1) 65535 } } := by
  have old : newer b.sequence r = false := by
    rw [Bool.eq_false_iff, ne_eq, newer_eq_true small]
    omega
  rw [takeVoice_of_reference talking own reference, takeBlock_late (c := c.voiced) old]
  rfl

/-- A newer block not yet held is queued in its order, the oldest of nine going. -/
theorem takeVoice_new (talking : c.state = .talking) (own : c.id = some n) (reference : c.reference = some r)
    (new : newer b.sequence r = true) (absent : ∀ x ∈ c.queue, x.sequence ≠ b.sequence) :
    c.takeVoice n b = c.voiced.enqueue r b := by
  rw [takeVoice_of_reference talking own reference, takeBlock_new (c := c.voiced) new absent]

theorem takeVoice_duplicate (talking : c.state = .talking) (own : c.id = some n) (reference : c.reference = some r)
    (new : newer b.sequence r = true) (held : ∃ x ∈ c.queue, x.sequence = b.sequence) : c.takeVoice n b = { c with
      voiceLoss := some 2000, counts := { c.counts with duplicate := min (c.counts.duplicate + 1) 65535 } } := by
  rw [takeVoice_of_reference talking own reference, takeBlock_duplicate (c := c.voiced) new held]
  rfl

/-- What the queue of eight leaves of nine, by the place of the new block. -/
theorem placeBlock_tail (head : q.head? = some x) (ordered : InOrder r q)
    (other : ∀ y ∈ q, seqDiff y.sequence r ≠ seqDiff b.sequence r) :
    (seqDiff b.sequence r < seqDiff x.sequence r → (placeBlock r b q).tail = q) ∧
    (seqDiff x.sequence r < seqDiff b.sequence r → b ∈ (placeBlock r b q).tail ∧
      (∀ y ∈ q.tail, y ∈ (placeBlock r b q).tail) ∧ InOrder r (placeBlock r b q).tail) := by
  refine ⟨fun before => ?_, fun behind => ?_⟩
  · rw [placeBlock_before head before, List.tail_cons]
  · rw [placeBlock_behind head behind, List.tail_cons]
    exact ⟨mem_placeBlock.mpr (.inl rfl), fun y hy => mem_placeBlock.mpr (.inr hy),
      placeBlock_inOrder (fun y hy => other y (List.mem_of_mem_tail hy)) (List.Pairwise.tail ordered)⟩

/-! ### The sequences of the blocks queued -/

/-- The blocks queued bear sequences of one byte. -/
def CallUnit.Sequenced (c : CallUnit) : Prop := ∀ b ∈ c.queue, b.sequence < 256

theorem CallUnit.Sequenced.of_subset (h : c.Sequenced) (sub : d.queue ⊆ c.queue) : d.Sequenced :=
  fun b hb => h b (sub hb)

theorem CallUnit.Moves.sequenced (h : c.Sequenced) (m : c.Moves d) : d.Sequenced := by
  rcases m with empty | ⟨same, -⟩
  · refine h.of_subset ?_
    rw [show d.queue = [] from congrArg Prod.fst empty]
    exact List.nil_subset _
  · refine h.of_subset ?_
    rw [show d.queue = c.queue from congrArg Prod.fst same]
    exact List.Subset.refl _

theorem CallUnit.Sequenced.enqueue (h : c.Sequenced) (small : b.sequence < 256) : (c.enqueue r b).Sequenced := by
  have placed : ∀ x ∈ placeBlock r b c.queue, x.sequence < 256 := fun x hx =>
    (mem_placeBlock.mp hx).elim (fun e => e ▸ small) (h x)
  simp only [CallUnit.enqueue]
  split
  · exact fun x hx => placed x (List.mem_of_mem_tail hx)
  · exact placed

theorem CallUnit.Sequenced.takeBlock (h : c.Sequenced) (small : b.sequence < 256) : (c.takeBlock r b).Sequenced := by
  unfold CallUnit.takeBlock
  split
  · exact h
  · split
    · exact h
    · exact h.enqueue small

theorem CallUnit.Sequenced.takeVoice (h : c.Sequenced) (small : b.sequence < 256) : (c.takeVoice n b).Sequenced := by
  unfold CallUnit.takeVoice
  split
  · exact CallUnit.Sequenced.takeBlock (c := { c with voiceLoss := _, reference := _ }) h small
  · exact h

theorem conceal_phone (n : Nat) (s : State) : (conceal n s).phone = { s.phone with
    codec := if s.phone.concealStep = 0 then s.phone.last.getD silence else silence
    concealStep := 1
    reference := some n
    counts := { s.phone.counts with concealed := satInc s.phone.counts.concealed }
    mode := if s.phone.queue.isEmpty then .buffering else s.phone.mode } := offerEvent_phone _ _

theorem playing_queue (s : State) : (playing s).phone.queue ⊆ s.phone.queue := by
  unfold playing
  simp only []
  split
  · rename_i b rest queue
    split
    · rw [queue]
      exact List.subset_cons_self b rest
    · rw [conceal_phone]
      exact List.Subset.refl _
  · rw [conceal_phone]
    exact List.Subset.refl _

theorem playout_queue (s : State) : (playout s).phone.queue ⊆ s.phone.queue := by
  unfold playout
  split
  · exact playing_queue s
  · split
    · exact playing_queue { s with phone := { s.phone with mode := .playing, reference := _ } }
    · exact List.Subset.refl _

theorem sendBlock_queue (captured : List Byte) (s : State) : (sendBlock captured s).phone.queue = s.phone.queue := by
  simp [sendBlock]

theorem blockPeriod_queue (captured : List Byte) (s : State) : (blockPeriod captured s).phone.queue ⊆ s.phone.queue := by
  unfold blockPeriod
  simp only []
  split
  · exact List.Subset.trans (playout_queue _) (by rw [sendBlock_queue]; exact List.Subset.refl _)
  · exact List.Subset.refl _

/-- A Voice frame's sequence is one byte (Table 11-5). -/
theorem parseInfo_voice {control id n : Nat} {info block : List Byte} (h : parseInfo control info = .voice id n block) :
    n < 256 := by
  unfold parseInfo at h
  split at h
  · split at h <;> cases h
  · (repeat' split at h) <;> cases h
  · split at h <;> cases h
  · split at h
    · cases h
      exact BitVec.isLt _
    · cases h
  · split at h <;> cases h
  · cases h

theorem parseBits_voice {bits : List Bool} {id n : Nat} {block : List Byte} (h : parseBits bits = .voice id n block) :
    n < 256 := by
  unfold parseBits parseBody at h
  simp only [] at h
  split at h
  · cases h
  · split at h
    · cases h
    · split at h
      · cases h
      · split at h
        · split at h
          · exact parseInfo_voice h
          · cases h
        · cases h

theorem flagReceived_sequenced (h : s.phone.Sequenced) : (flagReceived s).phone.Sequenced := by
  cases state : s.line.receiver with
  | hunting =>
    rw [flagReceived_of_hunting state]
    exact CallUnit.Moves.sequenced h (.of_eq (offerLine_calm (withFlag s)).phone)
  | receiving =>
    rw [flagReceived_of_receiving state]
    cases parsed : parseBits s.line.rxBits with
    | bad e => exact CallUnit.Moves.sequenced h (.of_eq (frameError_phone _ e))
    | elsewhere => exact h
    | beat b => exact CallUnit.Moves.sequenced h (.of_eq (summitBeat_phone _ b))
    | passage departing n metres => exact CallUnit.Moves.sequenced h (.of_eq (passage_phone _ departing n metres))
    | callSignal sig id => exact CallUnit.Moves.sequenced h (callSignal_moves (withFlag s) sig id)
    | voice id n block => exact CallUnit.Sequenced.takeVoice h (parseBits_voice parsed)
    | notice text => exact CallUnit.Moves.sequenced h (.of_eq (takeNotice_phone _ text))
  | idle => exact (flagReceived_of_no_frame (.inl state)).symm ▸ h
  | discarding => exact (flagReceived_of_no_frame (.inr state)).symm ▸ h

/-- Every well-formed command keeps the sequences in their range: but for a Voice frame and a block period, none brings
or plays a block. -/
theorem exec_sequenced (c : Instr) (well : wellFormed c = true) (h : s.phone.Sequenced) :
    ∃ t, exec c s = .next t ∧ t.phone.Sequenced := by
  cases c with
  | powerOn => exact ⟨_, rfl, (powerOn_moves s _).sequenced h⟩
  | callSignal sig id => exact ⟨_, rfl, (callSignal_moves s sig id).sequenced h⟩
  | voiceFrame id n block =>
    simp only [wellFormed, small, Bool.and_eq_true, decide_eq_true_eq] at well
    exact ⟨_, rfl, CallUnit.Sequenced.takeVoice h well.1.2⟩
  | ringRepeat => exact ⟨_, rfl, (ringAgain_moves s).sequenced h⟩
  | ringTimeout => exact ⟨_, rfl, (ringExpired_moves s).sequenced h⟩
  | ringingGap => exact ⟨_, rfl, (ringStopped_moves s).sequenced h⟩
  | voiceLoss => exact ⟨_, rfl, (callLost_moves s).sequenced h⟩
  | blockPeriod captured => exact ⟨_, rfl, h.of_subset (blockPeriod_queue captured s)⟩
  | flagReceived => exact ⟨_, rfl, flagReceived_sequenced h⟩
  | deskMessage kind tag payload => exact ⟨_, rfl, (takeMessage_moves s kind tag payload).sequenced h⟩
  | messageStart => exact ⟨_, rfl, (messageDue_moves s).sequenced h⟩
  | messageSent => exact ⟨_, rfl, (messageSent_moves s).sequenced h⟩
  | restartStart => exact ⟨_, rfl, (restartDue_moves s).sequenced h⟩
  | deskByteReceived b => exact ⟨_, rfl, (deskByte_moves s b).sequenced h⟩
  | wake | park | run | stop | resetTrip | clearStop | setGovernor | setSpeed | setWind | readGovernor | hold | release
  | renumber | mark | unmark | garage | inhibitLaunch | abandon | declare | setSpacing | setTrack | setGrip | readTrack
  | setBerth | setMotion | unlock | openDoors | closeDoors | lock | holdOpen | endDwell | reopen | skipCycle
  | clearFault | setMode | readBerths | removeCarrier | setGeometry | readRoster | setTower | setScan | ackTower
  | readTowers | setCounter | armCounter | readCounters | setWatch | clearHits | readWatches | sendNotice | readLine
  | call | answer | hangUp | releaseReports | restart | readStatus => exact ⟨_, rfl, (submit_moves s _ _).sequenced h⟩
  | _ => exact ⟨_, rfl, (CallUnit.Moves.of_eq (by simp)).sequenced h⟩

theorem step_sequenced (hstep : step s = .next t) (well : ∀ c ∈ s.pending.head?, wellFormed c = true)
    (h : s.phone.Sequenced) : t.phone.Sequenced := by
  unfold step at hstep
  split at hstep
  · obtain rfl := Host.Outcome.next.inj hstep
    exact s.phone.tick_moves.sequenced h
  · rename_i c rest front
    obtain ⟨u, hu, sequenced⟩ := exec_sequenced (s := { s with pending := rest }) c (well c (by rw [front]; rfl)) h
    obtain rfl := Host.Outcome.next.inj (hu.symm.trans hstep)
    exact sequenced

end

end Sys2Proof.Machine
end

section
/-! SUPPORT. The block period (R182, R184); then the statement on Voice frames and the block period. -/

namespace Sys2Proof.Machine

open Config

section
variable {id r : Nat} {b b2 : PlayoutBlock} {rest : List PlayoutBlock} {captured : List Byte} {s u : State}

/-! ### The captured block (R182) -/

/-- The period's start in Talking: the timer anew, and the captured block sent. -/
def spoken (captured : List Byte) (s : State) : State :=
  sendBlock captured { s with phone := { s.phone with blockTimer := 10 } }

theorem blockPeriod_of_talking (h : s.phone.state = .talking) (captured : List Byte) :
    blockPeriod captured s = playout (spoken captured s) := by
  unfold blockPeriod
  simp only []
  split
  · rfl
  · contradiction

theorem blockPeriod_of_silent (h : s.phone.state ≠ .talking) (captured : List Byte) : blockPeriod captured s =
    { s with phone := { s.phone with blockTimer := 10, codec := List.replicate 40 0xD5#8 } } := by
  simp only [blockPeriod]
  rfl

/-- The frame of the captured block. -/
def capturedFrame (id : Nat) (captured : List Byte) (s : State) : VoiceFrame := ⟨id, s.phone.sequence, captured⟩

/-- The call unit with the block period anew and the next sequence. -/
def CallUnit.spoke (c : CallUnit) : CallUnit := { c with blockTimer := 10, sequence := (c.sequence + 1) % 256 }

/-- The captured block sent with room in the Voice queue. -/
def withSpoken (id : Nat) (captured : List Byte) (s : State) : State :=
  { s with phone := s.phone.spoke, line := { s.line with voice := s.line.voice ++ [capturedFrame id captured s] } }

theorem spoken_room (own : s.phone.id = some id) (room : s.line.voice.length < 4) :
    spoken captured s = withSpoken id captured s := by
  have offered := offerVoice_room (s := { s with phone := { s.phone with blockTimer := 10 } })
    (capturedFrame id captured s) room
  have frame : callId { s with phone := { s.phone with blockTimer := 10 } } = id := by
    unfold callId
    rw [own]
    rfl
  unfold spoken sendBlock
  rw [frame]
  exact congrArg (fun t : State => { t with phone := { t.phone with sequence := (t.phone.sequence + 1) % 256 } }) offered

/-- A full Voice queue puts out its oldest frame for the captured block (R162). -/
def pushedOut (id : Nat) (captured : List Byte) (s : State) : State :=
  { s with phone := s.phone.spoke, line := { s.line with
    voice := s.line.voice.drop 1 ++ [capturedFrame id captured s]
    counts := { s.line.counts with voiceDropped := satInc s.line.counts.voiceDropped } } }

theorem spoken_full (own : s.phone.id = some id) (full : 4 ≤ s.line.voice.length) :
    spoken captured s = pushedOut id captured s := by
  have offered := offerVoice_full (s := { s with phone := { s.phone with blockTimer := 10 } })
    (capturedFrame id captured s) full
  have frame : callId { s with phone := { s.phone with blockTimer := 10 } } = id := by
    unfold callId
    rw [own]
    rfl
  unfold spoken sendBlock
  rw [frame]
  exact congrArg (fun t : State => { t with phone := { t.phone with sequence := (t.phone.sequence + 1) % 256 } }) offered

/-! ### The playout (R184) -/

theorem playout_expected (mode : u.phone.mode = .playing) (queue : u.phone.queue = b :: rest)
    (reference : u.phone.reference = some r) (expected : b.sequence = (r + 1) % 256) : playout u =
    { u with phone := { u.phone with
      queue := rest, codec := b.block, reference := some ((r + 1) % 256), last := some b.block, concealStep := 0 } } := by
  simp only [playout, mode, playing, queue, reference, Option.getD_some, if_pos expected]

theorem playout_missing (mode : u.phone.mode = .playing) (reference : u.phone.reference = some r)
    (other : ∀ b rest, u.phone.queue = b :: rest → b.sequence ≠ (r + 1) % 256) :
    playout u = conceal ((r + 1) % 256) u := by
  simp only [playout, mode, playing, reference, Option.getD_some]
  split
  · rename_i b rest queue
    exact if_neg (other b rest queue)
  · rfl

/-- Play begins with the first block as the expected one. -/
theorem playout_begins (mode : u.phone.mode = .buffering) (queue : u.phone.queue = b :: b2 :: rest)
    (small : b.sequence < 256) : playout u = { u with phone := { u.phone with
      mode := .playing, queue := b2 :: rest, codec := b.block, reference := some b.sequence, last := some b.block,
      concealStep := 0 } } := by
  have expected : ((b.sequence + 255) % 256 + 1) % 256 = b.sequence := by omega
  simp only [playout, mode, queue, playing, Option.getD_some, expected, if_true]

theorem playout_buffering (mode : u.phone.mode = .buffering) (few : u.phone.queue.length < 2) :
    playout u = { u with phone := { u.phone with codec := silence } } := by
  simp only [playout, mode]
  split
  · rename_i queue
    rw [queue] at few
    exact absurd few (by simp)
  · rfl

theorem setPhone_within (c : CallUnit) (s : State) : Within [.phone] s { s with phone := c } :=
  ⟨by simp [touches_iff], by simp [DeskQuiet]⟩

/-- What any playout leaves: the block period, the next sequence, and the line but for a beat that waits. -/
structure Played (s t : State) : Prop where
  timer : t.phone.blockTimer = s.phone.blockTimer
  sequence : t.phone.sequence = s.phone.sequence
  line : SameLine s t
  within : Within (.phone :: .counters :: raiseBlocks) s t

theorem Played.edit {c : CallUnit} (timer : c.blockTimer = s.phone.blockTimer := by rfl)
    (sequence : c.sequence = s.phone.sequence := by rfl) : Played s { s with phone := c } :=
  ⟨timer, sequence, rfl, (setPhone_within c s).mono (by decide)⟩

theorem Played.trans {t : State} (h : Played s t) (k : Played t u) : Played s u :=
  ⟨k.timer.trans h.timer, k.sequence.trans h.sequence, h.line.trans k.line, h.within.trans k.within⟩

theorem conceal_played (n : Nat) (s : State) : Played s (conceal n s) := by
  refine (Played.edit (s := s)).trans (u := conceal n s) ⟨?_, ?_, (offerEvent_aside _ _).line,
    (offerEvent_within _ _).mono (by decide)⟩ <;>
  rw [conceal_phone]

theorem playing_played (s : State) : Played s (playing s) := by
  unfold playing
  simp only []
  split
  · split
    · exact .edit
    · exact conceal_played _ s
  · exact conceal_played _ s

theorem playout_played (s : State) : Played s (playout s) := by
  unfold playout
  split
  · exact playing_played s
  · split
    · exact .trans .edit (playing_played _)
    · exact .edit

/-- A missing block, in the fields that its concealment moves. -/
theorem playout_conceals (mode : u.phone.mode = .playing) (reference : u.phone.reference = some r)
    (other : ∀ b rest, u.phone.queue = b :: rest → b.sequence ≠ (r + 1) % 256) :
    (playout u).phone.queue = u.phone.queue ∧ (playout u).phone.last = u.phone.last ∧
    (playout u).phone.reference = some ((r + 1) % 256) ∧ (playout u).phone.concealStep = 1 ∧
    (playout u).phone.counts.concealed = min (u.phone.counts.concealed + 1) 65535 ∧
    (playout u).phone.mode = (if u.phone.queue.isEmpty then .buffering else .playing) ∧
    (playout u).phone.codec = (if u.phone.concealStep = 0 then u.phone.last.getD (List.replicate 40 0xD5#8)
      else List.replicate 40 0xD5#8) := by
  rw [playout_missing mode reference other, conceal_phone, mode]
  exact ⟨rfl, rfl, rfl, rfl, rfl, rfl, rfl⟩

theorem phoneLine_within (c : CallUnit) (l : Line) (s : State) :
    Within [.phone, .line] s { s with phone := c, line := l } :=
  ⟨by simp [touches_iff], by simp [DeskQuiet]⟩

end

/-- Settles O55: a Voice frame by the tests it meets in turn, a block period by the call state, the room of the Voice
queue and the mode; and the sequences kept by every step. -/
theorem voiceIsQueuedAndPlayed : Obligations.VoiceIsQueuedAndPlayed := by
  refine ⟨fun id n block s => ?_, fun captured s => ⟨fun silent => ?_, fun id talking own room => ?_,
    fun id oldest rest talking own full three => ?_⟩, fun b hb => absurd hb List.not_mem_nil,
    fun s t hstep well h => step_sequenced hstep well h⟩
  · have touches : Touches [.phone, .line] s (voice id n block s) := (phoneLine_within _ _ s).touches
    have phone : (voice id n block s).phone = s.phone.takeVoice id ⟨n, block⟩ := rfl
    refine ⟨fun foreign => ⟨_, rfl, phone.trans (takeVoice_foreign foreign), touches⟩,
      fun talking own reference queue small => ⟨_, rfl, ?_, touches⟩,
      fun r talking own reference hr small late => ⟨_, rfl, ?_, touches⟩,
      fun r talking own reference hr small first last sequenced absent room => ⟨_, rfl, ?_⟩,
      fun r talking own reference hr small first last held => ⟨_, rfl, ?_, touches⟩,
      fun r talking own reference hr small first last sequenced absent full => ⟨_, rfl, ?_⟩⟩
    · exact phone.trans (takeVoice_first talking own reference queue small)
    · exact phone.trans (takeVoice_late talking own reference hr late)
    · have new := (newer_eq_true (n := n) hr).mpr ⟨first, last⟩
      rw [phone, takeVoice_new (b := ⟨n, block⟩) talking own reference new absent, enqueue_room (c := s.phone.voiced) room]
      exact ⟨reference, length_placeBlock r _ _, mem_placeBlock.mpr (.inl rfl), fun x hx => mem_placeBlock.mpr (.inr hx),
        placeBlock_inOrder fun x hx same => absent x hx (seqDiff_inj hr (sequenced x hx) small same), touches⟩
    · have new := (newer_eq_true (n := n) hr).mpr ⟨first, last⟩
      exact phone.trans (takeVoice_duplicate talking own reference new held)
    · have new := (newer_eq_true (n := n) hr).mpr ⟨first, last⟩
      rw [phone, takeVoice_new (b := ⟨n, block⟩) talking own reference new absent, enqueue_full (c := s.phone.voiced) full]
      refine ⟨?_, rfl, fun head hhead ordered => placeBlock_tail (b := ⟨n, block⟩) hhead ordered fun x hx same =>
        absent x hx (seqDiff_inj hr (sequenced x hx) small same), touches⟩
      exact (List.length_tail).trans (by rw [length_placeBlock, Nat.add_sub_cancel]; exact full)
  · exact ⟨_, congrArg Host.Outcome.next (blockPeriod_of_silent silent captured), rfl, (setPhone_within _ s).touches⟩
  · have acts : blockPeriod captured s = playout (withSpoken id captured s) := by
      rw [blockPeriod_of_talking talking, spoken_room own room]
    have spoke : Within [.phone, .line] s (withSpoken id captured s) := phoneLine_within _ _ s
    have whole : Within (.phone :: .counters :: raiseBlocks) s (playout (withSpoken id captured s)) :=
      (spoke.mono (by decide)).trans (playout_played _).within
    rw [← acts] at whole
    refine ⟨fun b rest r mode queue reference expected => ⟨_, rfl, ?_⟩, fun r mode queue reference => ⟨_, rfl, ?_⟩,
      fun b rest r mode queue reference other => ⟨_, rfl, ?_⟩, fun b b2 rest mode queue small => ⟨_, rfl, ?_⟩,
      fun mode few => ⟨_, rfl, ?_⟩⟩
    · rw [acts, playout_expected (u := withSpoken id captured s) mode queue reference expected]
      exact ⟨rfl, rfl, (phoneLine_within _ _ s).touches⟩
    · have missing (b : PlayoutBlock) (rest : List PlayoutBlock) (h : s.phone.queue = b :: rest) :
          b.sequence ≠ (r + 1) % 256 := by
        rw [queue] at h
        cases h
      obtain ⟨hqueue, -, href, step, count, hmode, codec⟩ :=
        playout_conceals (u := withSpoken id captured s) mode reference missing
      rw [← acts] at hqueue href step count hmode codec
      exact ⟨hmode.trans (if_pos (congrArg List.isEmpty queue)), hqueue.trans queue, href, step, count, codec, whole.desk,
        whole.touches⟩
    · have missing (c : PlayoutBlock) (tail : List PlayoutBlock) (h : s.phone.queue = c :: tail) :
          c.sequence ≠ (r + 1) % 256 := by
        obtain ⟨rfl, -⟩ := List.cons.inj (queue.symm.trans h)
        exact other
      obtain ⟨hqueue, last, href, step, count, hmode, codec⟩ :=
        playout_conceals (u := withSpoken id captured s) mode reference missing
      rw [← acts] at hqueue last href step count hmode codec
      have some : s.phone.queue.isEmpty = false := by rw [queue]; rfl
      exact ⟨hmode.trans (if_neg (Bool.eq_false_iff.mp some)), hqueue, last, href, step, count, codec, whole.desk,
        whole.touches⟩
    · rw [acts, playout_begins (u := withSpoken id captured s) mode queue small]
      exact ⟨rfl, rfl, (phoneLine_within _ _ s).touches⟩
    · rw [acts, playout_buffering (u := withSpoken id captured s) mode few]
      exact ⟨rfl, rfl, (phoneLine_within _ _ s).touches⟩
  · have acts : blockPeriod captured s = playout (pushedOut id captured s) := by
      rw [blockPeriod_of_talking talking, spoken_full own (by rw [full, List.length_cons, three])]
    have spoke : Within [.phone, .line] s (pushedOut id captured s) := phoneLine_within _ _ s
    have played := playout_played (pushedOut id captured s)
    have whole : Within (.phone :: .counters :: raiseBlocks) s (playout (pushedOut id captured s)) :=
      (spoke.mono (by decide)).trans played.within
    have line := played.line
    unfold SameLine at line
    have voice : (playout (pushedOut id captured s)).line.voice = (pushedOut id captured s).line.voice := by rw [line]
    have counts : (playout (pushedOut id captured s)).line.counts = (pushedOut id captured s).line.counts := by rw [line]
    refine ⟨_, congrArg Host.Outcome.next acts, played.timer, played.sequence, voice.trans ?_,
      (congrArg LineCounts.voiceDropped counts).trans rfl, whole.desk, whole.touches⟩
    show s.line.voice.drop 1 ++ _ = _
    rw [full]
    rfl

end Sys2Proof.Machine
end

section
/-! SUPPORT. The report queue and the messages that leave it, then the statement (R174, R189, R190, R193). -/

namespace Sys2Proof.Machine

open Config

section
variable {s : State} {r : Report}

/-! ### A report offered (R190) -/

theorem reportRoom_of_lt (room : s.desk.urgent.length + s.desk.others.length < 32) : reportRoom s = true :=
  decide_eq_true room

theorem reportRoom_of_full (full : 32 ≤ s.desk.urgent.length + s.desk.others.length) : reportRoom s = false :=
  decide_eq_false (Nat.not_lt.mpr full)

theorem queueReport_of_room (room : s.desk.urgent.length + s.desk.others.length < 32) : queueReport r s =
    if r.isUrgent then { s with desk := { s.desk with urgent := s.desk.urgent ++ [r] } }
    else { s with desk := { s.desk with others := s.desk.others ++ [r] } } := if_pos (reportRoom_of_lt room)

/-- A full queue drops a report of the other group. -/
theorem queueReport_of_full (full : 32 ≤ s.desk.urgent.length + s.desk.others.length) (plain : r.isUrgent = false) :
    queueReport r s = loseReport r s := by
  unfold queueReport
  rw [if_neg (by rw [reportRoom_of_full full]; decide), if_neg (by rw [plain]; decide)]

/-- In a full queue an urgent report takes the place of the newest other one. -/
theorem queueReport_pushes {kept : List Report} {newest : Report}
    (full : 32 ≤ s.desk.urgent.length + s.desk.others.length) (urgent : r.isUrgent = true)
    (others : s.desk.others = kept ++ [newest]) : queueReport r s = loseReport newest { s with desk := { s.desk with
      urgent := s.desk.urgent ++ [r], others := kept } } := by
  unfold queueReport
  rw [if_neg (by rw [reportRoom_of_full full]; decide), if_pos urgent, others, List.getLast?_concat, List.dropLast_concat]

theorem loseReport_plain (plain : r.isNotice = false) (s : State) : loseReport r s = { s with desk := { s.desk with
    reportsLost := true, counts := { s.desk.counts with lost := min (s.desk.counts.lost + 1) 65535 } } } :=
  if_neg (by rw [plain]; decide)

theorem loseReport_notice (notice : r.isNotice = true) (s : State) :
    loseReport r s = { s with line := { s.line with noticeTaken := false } } := if_pos notice

theorem Report.isUrgent_of_isNotice (h : r.isNotice = true) : r.isUrgent = false := by
  cases r with
  | notice text marked => rfl
  | _ => cases h

/-! ### The messages that start and end (R189, R190, R193) -/

/-- With the transmitter free and no Restart accepted, the next message starts by its group. -/
theorem messageDue_of_free (free : s.desk.transmit = none) (held : s.desk.restart ≠ .waiting) :
    messageDue s = startMessage s := by
  unfold messageDue
  rw [free, if_neg (by decide), if_neg held]

theorem messageDue_of_restart (free : s.desk.transmit = none) (held : s.desk.restart = .waiting) :
    messageDue s = startRestartReply s := by
  unfold messageDue
  rw [free, if_neg (by decide), if_pos held]

theorem startMessage_urgent {rest : List Report} (urgent : s.desk.urgent = r :: rest) :
    startMessage s = startUrgent r rest s := by
  simp only [startMessage, urgent]

theorem startMessage_reply {p : Reply} {rest : List Reply} (urgent : s.desk.urgent = [])
    (replies : s.desk.replies = p :: rest) : startMessage s = startReply p rest s := by
  simp only [startMessage, urgent, replies]

theorem startMessage_other {rest : List Report} (urgent : s.desk.urgent = []) (replies : s.desk.replies = [])
    (others : s.desk.others = r :: rest) : startMessage s = startOther r rest s := by
  simp only [startMessage, urgent, replies, others]

theorem messageSent_reply {p : Reply} (sent : s.desk.transmit = some (.reply p)) :
    messageSent s = restartDue (s.withDesk fun d => { d with transmit := none }) := by
  simp only [messageSent, sent]

theorem messageSent_report {lost : Bool} (sent : s.desk.transmit = some (.report r lost)) :
    messageSent s = reportSent r.isNotice (s.withDesk fun d => { d with transmit := none }) := by
  simp only [messageSent, sent]

/-- A report other than a Notice leaves the line, but for an entry not taken. -/
theorem reportSent_plain (taken : s.line.noticeOffered = false ∨ s.line.noticeTaken = true) :
    reportSent false s = s := by
  unfold reportSent
  rw [if_neg Bool.false_ne_true]
  rcases taken with h | h <;> simp only [h, Bool.false_and, Bool.not_true, Bool.and_false, Bool.false_eq_true, if_false]

/-- After a Notice its entry leaves the inbox, and the next is offered (R174). -/
theorem reportSent_notice (room : s.desk.urgent.length + s.desk.others.length < 32) :
    (reportSent true s).desk.transmit = s.desk.transmit ∧ (reportSent true s).line.inbox = s.line.inbox.tail ∧
    (s.line.inbox.tail = [] → (reportSent true s).line.noticeOffered = false ∧
      (reportSent true s).desk.others = s.desk.others) ∧
    (∀ n rest, s.line.inbox.tail = n :: rest → (reportSent true s).line.noticeOffered = true ∧
      (reportSent true s).desk.others = s.desk.others ++ [.notice n.text n.overrun]) ∧
    Touches [.line, .desk] s (reportSent true s) := by
  have left := setLine_touches { s.line with inbox := s.line.inbox.tail, noticeOffered := false, noticeTaken := false } s
  have acts : reportSent true s = offerNotice { s with line := { s.line with
      inbox := s.line.inbox.tail, noticeOffered := false, noticeTaken := false } } := rfl
  cases waiting : s.line.inbox.tail with
  | nil =>
    have none : reportSent true s = { s with line := { s.line with
        inbox := s.line.inbox.tail, noticeOffered := false, noticeTaken := false } } := by
      rw [acts]
      simp only [offerNotice, waiting]
    rw [none]
    exact ⟨rfl, waiting, fun _ => ⟨rfl, rfl⟩, nofun, left.mono (by simp)⟩
  | cons n rest =>
    have some : reportSent true s = { s with
        line := { s.line with inbox := n :: rest, noticeOffered := true, noticeTaken := true }
        desk := { s.desk with others := s.desk.others ++ [.notice n.text n.overrun] } } := by
      rw [acts]
      simp only [offerNotice, waiting]
      exact queueReport_of_room (r := .notice n.text n.overrun) (s := { s with
        line := { s.line with inbox := n :: rest, noticeOffered := true, noticeTaken := true } }) room
    rw [some]
    refine ⟨rfl, rfl, nofun, fun m tail h => ?_, by simp [touches_iff]⟩
    obtain ⟨rfl, rfl⟩ := List.cons.inj h
    exact ⟨rfl, rfl⟩

end

/-- Settles O56: a report by the room of the queue and its group, a message started by the groups that wait, and the end
of a message by what was sent. -/
theorem messagesLeaveByGroup : Obligations.MessagesLeaveByGroup := by
  refine ⟨fun r s => ⟨fun room urgent => ?_, fun room plain => ?_, fun full plain other => ?_, fun full notice => ?_,
    fun kept newest full urgent others plain => ?_⟩, fun s free => ⟨fun r rest held urgent => ?_,
    fun r rest held urgent replies inbox => ?_, fun r rest held urgent replies others => ?_,
    fun r rest held replies => ?_⟩, fun s => ⟨fun idle => ?_, fun r sent going => ?_, fun r sent going => ?_,
    fun r lost sent plain taken => ?_, fun text marked lost sent room => ?_⟩⟩
  · rw [queueReport_of_room room, if_pos urgent]
  · rw [queueReport_of_room room, if_neg (by rw [plain]; decide)]
  · rw [queueReport_of_full full plain, loseReport_plain other]
  · rw [queueReport_of_full full (Report.isUrgent_of_isNotice notice), loseReport_notice notice]
  · rw [queueReport_pushes full urgent others, loseReport_plain plain]
  · exact congrArg Host.Outcome.next ((messageDue_of_free free held).trans (startMessage_urgent urgent))
  · exact congrArg Host.Outcome.next ((messageDue_of_free free held).trans ((startMessage_reply urgent replies).trans
      (dispatch_of_inbox_nil inboxMax
        (s := s.withDesk fun d => { d with replies := rest, transmit := some (.reply r) }) inbox)))
  · exact congrArg Host.Outcome.next ((messageDue_of_free free held).trans (startMessage_other urgent replies others))
  · refine congrArg Host.Outcome.next ((messageDue_of_restart free held).trans ?_)
    simp only [startRestartReply, replies]
    rfl
  · exact congrArg Host.Outcome.next (by simp only [messageSent, idle])
  · exact congrArg Host.Outcome.next ((messageSent_reply sent).trans (if_neg going))
  · exact ⟨_, congrArg Host.Outcome.next ((messageSent_reply sent).trans (if_pos going)), rfl, rfl, rfl, rfl, rfl, rfl⟩
  · refine congrArg Host.Outcome.next ((messageSent_report sent).trans ?_)
    rw [plain]
    exact reportSent_plain (s := s.withDesk fun d => { d with transmit := none }) taken
  · obtain ⟨transmit, inbox, last, next, touches⟩ :=
      reportSent_notice (s := s.withDesk fun d => { d with transmit := none }) room
    have freed : Touches [.line, .desk] s (s.withDesk fun d => { d with transmit := none }) :=
      (withDesk_touches _ s).mono (by simp)
    exact ⟨_, congrArg Host.Outcome.next (messageSent_report sent), transmit, inbox, last, next, freed.trans touches⟩

end Sys2Proof.Machine
end

section
/-! SUPPORT. ReleaseReports and Restart, then the statement (R191 to R193). -/

namespace Sys2Proof.Machine

open Config

section
variable {s t : State}

/-! ### A class unlatched (R192) -/

/-- A change of the desk link beside the receiver, the requests, the replies and the transmitter. -/
theorem withDesk_within (f : Desk → Desk) (s : State) (quiet : DeskQuiet s (s.withDesk f)) :
    Within [.desk] s (s.withDesk f) :=
  ⟨withDesk_touches f s, quiet⟩

theorem unlatchGovernor_same (same : s.desk.governor.snapshot = some (governorSnapshot s)) :
    unlatchGovernor s = s.withDesk fun d => { d with governor := { d.governor with latched := false } } := by
  simp only [unlatchGovernor, same, decide_true, Bool.not_true, Bool.and_false, Bool.false_eq_true, if_false]

theorem unlatchTower_same (same : s.desk.tower.snapshot = some (towerSnapshot s)) :
    unlatchTower s = s.withDesk fun d => { d with tower := { d.tower with latched := false } } := by
  simp only [unlatchTower, same, decide_true, Bool.not_true, Bool.and_false, Bool.false_eq_true, if_false]

theorem unlatchLine_same (same : s.desk.line.snapshot = some (lineSnapshot s)) :
    unlatchLine s = s.withDesk fun d => { d with line := { d.line with latched := false } } := by
  simp only [unlatchLine, same, decide_true, Bool.not_true, Bool.and_false, Bool.false_eq_true, if_false]

theorem unlatchBerth_same (same : s.desk.berth.snapshot = some (berthSnapshot s)) :
    unlatchBerth s = s.withDesk fun d => { d with berth := { d.berth with latched := false } } := by
  simp only [unlatchBerth, same, decide_true, Bool.not_true, Bool.and_false, Bool.false_eq_true, if_false]

/-- A class that is not latched has nothing to release. -/
theorem unlatchGovernor_free (free : s.desk.governor.latched = false) : unlatchGovernor s = s := by
  simp only [unlatchGovernor, free, Bool.false_and, Bool.false_eq_true, if_false]
  rw [← free]
  rfl

/-- A Governor change offered with its class unlatched and room in the queue (R191). -/
theorem offerGovernor_room (free : s.desk.governor.latched = false)
    (room : s.desk.urgent.length + s.desk.others.length < 32) : offerGovernor s = s.withDesk fun d => { d with
      governor := ⟨true, some (governorSnapshot s)⟩, others := d.others ++ [governorReport s] } := by
  have queued : queueReport (governorReport s) s = { s with desk := { s.desk with
      others := s.desk.others ++ [governorReport s] } } := queueReport_of_room (r := governorReport s) room
  unfold offerGovernor
  rw [if_neg (by rw [free]; decide), if_pos (reportRoom_of_lt room), queued]
  rfl

/-- A latched class that differs from its snapshot is reported at once. -/
theorem unlatchGovernor_differs (latched : s.desk.governor.latched = true)
    (differs : s.desk.governor.snapshot ≠ some (governorSnapshot s))
    (room : s.desk.urgent.length + s.desk.others.length < 32) : unlatchGovernor s = s.withDesk fun d => { d with
      governor := ⟨true, some (governorSnapshot s)⟩, others := d.others ++ [governorReport s] } := by
  unfold unlatchGovernor
  rw [if_pos (by rw [latched, decide_eq_false differs]; decide)]
  exact offerGovernor_room (s := s.withDesk fun d => { d with governor := { d.governor with latched := false } }) rfl room

/-- A class released while it stands as its snapshot. -/
theorem releaseReports_of (tag : Byte) {c : Nat} (free : DeskFree s) (f : Desk → Desk)
    (acts : perform (.releaseReports c) s = done (s.withDesk f)) (quiet : DeskQuiet s (s.withDesk f)) :
    ∃ t, exec (.releaseReports tag c) s = .next t ∧ Answered tag (.releaseReports c) (.done []) s t ∧
      t.desk.governor = (f s.desk).governor ∧ t.desk.tower = (f s.desk).tower ∧ t.desk.line = (f s.desk).line ∧
      t.desk.berth = (f s.desk).berth ∧ t.desk.others = (f s.desk).others ∧ Touches [.desk] s t := by
  have within := withDesk_within f s quiet
  exact ⟨_, congrArg Host.Outcome.next (submit_of_within free (by simp) acts within), within.answered, rfl, rfl, rfl, rfl,
    rfl, within.touched (by decide)⟩

/-! ### Restart (R193) -/

/-- Restart's owner leaves the inbox as it stood, and no further request is given. -/
theorem submit_restart (tag : Byte) (free : DeskFree s) (empty : (takeRequest tag .restart s).desk.inbox = []) :
    submit tag .restart s = takeRequest tag .restart s := by
  obtain ⟨hinbox, hroom, hrestart⟩ := free
  have may : mayDispatch (withWaiting tag .restart s) = true := by simp [withWaiting, mayDispatch, hroom, hrestart]
  have given : (withWaiting tag .restart s).desk.inbox = (tag, .restart) :: [] := by simp [withWaiting, hinbox]
  have taken : ((withWaiting tag .restart s).withDesk fun d => { d with inbox := [] }) = s := by
    simp only [withWaiting, State.withDesk, ← hinbox]
  calc submit tag .restart s = dispatch inboxMax (withWaiting tag .restart s) :=
        submit_of_room tag .restart hroom (by simp [hinbox, inboxMax])
    _ = dispatch 3 (takeRequest tag .restart s) := by rw [inboxMax, dispatch_of_inbox_cons 3 may given, taken]
    _ = takeRequest tag .restart s := dispatch_of_inbox_nil _ empty

theorem restart_refused (tag : Byte) {reason : Reason} (free : DeskFree s) (h : restartRefusal s = some reason) :
    Refused (.restart tag) tag .restart reason s := by
  have acts : takeRequest tag .restart s = withReply tag .restart (.refused reason) s := by
    simp only [takeRequest, perform, h]
    rfl
  have given := submit_restart tag free (by rw [acts]; exact free.1)
  exact congrArg Host.Outcome.next (given.trans acts)

theorem restart_accepted (tag : Byte) (free : DeskFree s) (h : restartRefusal s = none) :
    exec (.restart tag) s = .next { s with desk := { s.desk with
      restart := .waiting, replies := ⟨tag, 0x27#8, .done []⟩ :: s.desk.replies } } := by
  have acts : takeRequest tag .restart s = { s with desk := { s.desk with
      restart := .waiting, replies := ⟨tag, 0x27#8, .done []⟩ :: s.desk.replies } } := by
    simp only [takeRequest, perform, h]
    rfl
  have given := submit_restart tag free (by rw [acts]; exact free.1)
  exact congrArg Host.Outcome.next (given.trans acts)

end

/-- Settles O58: a class released by its latch and its snapshot, and Restart by the run state and the speed. -/
theorem reportsAndRestartRequestsAct : Obligations.ReportsAndRestartRequestsAct := by
  refine ⟨fun tag s free => ⟨fun c high => ?_, fun unlatched => ?_, fun latched same => ?_, fun latched differs room => ?_,
    fun same => ?_, fun same => ?_, fun same => ?_⟩, fun tag s free => ⟨fun parked stopped tripped => ?_,
    fun state moving => ?_, fun state rest => ?_⟩⟩
  · refine run_refused tag free rfl (by simp) ?_
    obtain ⟨k, rfl⟩ : ∃ k, c = k + 4 := ⟨c - 4, by omega⟩
    rfl
  · exact congrArg Host.Outcome.next (submit_of_done tag free (by simp)
      (congrArg done (unlatchGovernor_free unlatched)) (.refl s))
  · obtain ⟨t, acts, answered, governor, -, -, -, others, touches⟩ :=
      releaseReports_of (c := 0) tag free _ (congrArg done (unlatchGovernor_same same)) ⟨rfl, rfl, rfl, rfl, rfl⟩
    exact ⟨t, acts, answered, congrArg ClassLatch.latched governor, others, touches⟩
  · obtain ⟨t, acts, answered, governor, -, -, -, others, touches⟩ :=
      releaseReports_of (c := 0) tag free _ (congrArg done (unlatchGovernor_differs latched differs room))
        ⟨rfl, rfl, rfl, rfl, rfl⟩
    exact ⟨t, acts, answered, governor, others, touches⟩
  · obtain ⟨t, acts, answered, -, tower, -, -, others, touches⟩ :=
      releaseReports_of (c := 1) tag free _ (congrArg done (unlatchTower_same same)) ⟨rfl, rfl, rfl, rfl, rfl⟩
    exact ⟨t, acts, answered, congrArg ClassLatch.latched tower, others, touches⟩
  · obtain ⟨t, acts, answered, -, -, line, -, others, touches⟩ :=
      releaseReports_of (c := 2) tag free _ (congrArg done (unlatchLine_same same)) ⟨rfl, rfl, rfl, rfl, rfl⟩
    exact ⟨t, acts, answered, congrArg ClassLatch.latched line, others, touches⟩
  · obtain ⟨t, acts, answered, -, -, -, berth, others, touches⟩ :=
      releaseReports_of (c := 3) tag free _ (congrArg done (unlatchBerth_same same)) ⟨rfl, rfl, rfl, rfl, rfl⟩
    exact ⟨t, acts, answered, congrArg ClassLatch.latched berth, others, touches⟩
  · refine restart_refused tag free ?_
    unfold restartRefusal
    split
    · contradiction
    · contradiction
    · contradiction
    · rfl
  · refine restart_refused tag free ?_
    rcases state with h | h | h <;> simp only [restartRefusal, h, if_neg moving]
  · refine restart_accepted tag free ?_
    rcases state with h | h | h <;> simp only [restartRefusal, h, if_pos rest]

end Sys2Proof.Machine
end
